-- ==== Sys2Proof/Word.lean ====
section
/-! DEFINITION. The words of the chain: bytes and two-byte fields (R156). Everything the manual counts is a Nat. -/

namespace Sys2Proof

/-- One byte of a chain record (R156). -/
abbrev Byte := BitVec 8

/-- A two-byte field of a chain record, a pixel's colour value, the frame counter (R22, R26, R156). -/
abbrev Half := BitVec 16

end Sys2Proof
end

