-- ==== Sys2Proof/Config.lean ====
section
/-! DEFINITION. What the FT-6448 fixes for good (its geometry and its limits, the settings table of section 10.9) and the
free values: what the manual leaves open, as constants without a body. -/

namespace Sys2Proof

/-! ## Geometry (00_scope.md 1.4, R1, R5, R6, R7) -/

/-- Columns of pixel sites (R1). -/
def Config.columns : Nat := 64
/-- Rows of pixel sites (R1). -/
def Config.rows : Nat := 48
/-- Primary cells, and as many spare dies (R1, R2). -/
def Config.cells : Nat := 9216
/-- Spare groups (R5). -/
def Config.groups : Nat := 192
/-- Spare channels (R6). -/
def Config.channels : Nat := 768
/-- Lines: 192 C-lines, then 48 R-lines (R7). -/
def Config.lines : Nat := 240
/-- Settings (section 10.9). -/
def Config.settings : Nat := 43
/-- Journal subjects (R126). -/
def Config.subjects : Nat := 19483
/-- Wall columns and wall rows (section 2.1). -/
def Config.wallSize : Nat := 4096

/-! ## Limits -/

/-- Record slots of a bank (R129). -/
def Config.slots : Nat := 1024
/-- The used count at which a compaction becomes due (R132). -/
def Config.dueUsed : Nat := 896
/-- The live image count above which a compaction does not start (R132). -/
def Config.fullImages : Nat := 960
/-- Bank generations wrap at this count (R129, R133). -/
def Config.generations : Nat := 16777216
/-- Entries of the suspect list (R75). -/
def Config.suspects : Nat := 32
/-- Proving slots (R88). -/
def Config.provingSlots : Nat := 8
/-- Frame starts from a proving's start to its timeout (R104). -/
def Config.provingFrames : Nat := 120
/-- Replies a queue holds (R158). -/
def Config.queueLength : Nat := 8
/-- Requests considered in one frame of one direction (R163). -/
def Config.requestsPerFrame : Nat := 8
/-- Repeats at which STALE is set (R26). -/
def Config.staleRepeats : Nat := 30
/-- Good heads on the preferred port that bring the feed back (R162). -/
def Config.returnHeads : Nat := 120
/-- Row gaps of a frame: 8 passes of 48 rows (R28). -/
def Config.gaps : Nat := 384
/-- The loss watchdog of a port, 100 ms in microseconds (R160). -/
def Config.portLoss : Nat := 100000
/-- The oscillator settle, 4 ms in microseconds (R152). -/
def Config.settle : Nat := 4000
/-- The steady GOOD supply before the writer resumes, 1 s in microseconds (R139). -/
def Config.steadyGood : Nat := 1000000
/-- One second in microseconds. -/
def Config.second : Nat := 1000000
/-- The countdown a HOT tile is given, in seconds (R148). -/
def Config.hotSeconds : Nat := 60
/-- What the reference load settles in, REF NOMINAL (section 3.5). -/
def Config.refNominal : Nat := 512

/-! ## The settings table (section 10.9) -/

/-- One row of the settings table: the range as whole numbers on the wire (R167) and the default. -/
structure SettingRow where
  low : Nat
  high : Nat
  default : Nat
  deriving DecidableEq, Repr

/-- The 43 rows of section 10.9 in number order; FREE-RUN PERIOD in tenths of a millisecond, directions 0 ASCENDING and
1 DESCENDING, switches 0 OFF and 1 ON, policies 0 AUTO and 1 REFER, ports 0 A and 1 B (R167). -/
def Config.settingTable : List SettingRow :=
  [⟨0, 4095, 0⟩, ⟨0, 4095, 0⟩, ⟨0, 1, 0⟩, ⟨0, 1, 0⟩, ⟨83, 417, 167⟩, ⟨0, 1, 0⟩,
   ⟨64, 1023, 800⟩, ⟨0, 255, 40⟩, ⟨0, 15, 3⟩, ⟨0, 15, 4⟩, ⟨4, 64, 16⟩, ⟨0, 8, 4⟩] ++
  [⟨1, 255, 20⟩, ⟨2, 7, 3⟩, ⟨0, 1, 0⟩, ⟨0, 1, 0⟩, ⟨0, 1, 1⟩, ⟨0, 768, 32⟩, ⟨3, 16, 5⟩, ⟨3, 16, 8⟩,
   ⟨40, 90, 70⟩, ⟨50, 100, 85⟩, ⟨60, 3600, 600⟩, ⟨0, 4094, 0⟩] ++
  [⟨0, 1, 0⟩, ⟨0, 1, 1⟩, ⟨10, 2000, 200⟩, ⟨0, 7, 3⟩, ⟨0, 7, 4⟩, ⟨0, 7, 6⟩, ⟨0, 7, 2⟩, ⟨0, 7, 3⟩,
   ⟨0, 7, 2⟩, ⟨0, 7, 2⟩, ⟨0, 7, 1⟩, ⟨0, 7, 1⟩] ++
  [⟨0, 7, 3⟩, ⟨0, 7, 5⟩, ⟨0, 7, 1⟩, ⟨0, 7, 2⟩, ⟨0, 7, 1⟩, ⟨0, 7, 1⟩, ⟨0, 7, 2⟩]

/-- Row n of the settings table. -/
def Config.settingRow (n : Nat) : SettingRow := Config.settingTable.getD n ⟨0, 0, 0⟩

/-- Default of setting n. -/
def Config.settingDefault (n : Nat) : Nat := (Config.settingRow n).default

/-- A value lies in the range of setting n. -/
def Config.settingInRange (n v : Nat) : Bool :=
  decide ((Config.settingRow n).low ≤ v) && decide (v ≤ (Config.settingRow n).high)

namespace Setting
def originColumn : Nat := 0
def originRow : Nat := 1
def columnDirection : Nat := 2
def rowDirection : Nat := 3
def freeRunPeriod : Nat := 4
def muteOnCadence : Nat := 5
def openLimit : Nat := 6
def shortFloor : Nat := 7
def driftStep : Nat := 8
def tempco : Nat := 9
def refTolerance : Nat := 10
def sweepRate : Nat := 11
def retestInterval : Nat := 12
def confirmThreshold : Nat := 13
def openPolicy : Nat := 14
def shortPolicy : Nat := 15
def driftPolicy : Nat := 16
def budgetDefault : Nat := 17
def cLineLimit : Nat := 18
def rLineLimit : Nat := 19
def warmLimit : Nat := 20
def hotLimit : Nat := 21
def warmHold : Nat := 22
def tileId : Nat := 23
def preferredPort : Nat := 24
def returnToPreferred : Nat := 25
def cadenceTolerance : Nat := 26
def attentionLevel : Nat := 27
/-- The priority of notice kind n is setting 28 + n (R170). -/
def priority (kind : Nat) : Nat := 28 + kind
end Setting

/-! ## Free values: constants with no body, so that no claim can rest on one -/

/-- Whether a sensor reading exactly half way between two whole degrees is rounded up (R147 says only "rounded";
DESIGN CHOICE, log 8). Applied to the reading in thousandths of a degree. -/
opaque Config.halfDegreeRoundsUp : Int → Bool

/-- Whether FEED CHANGED carries the cause RETURN (otherwise LOSS) when the feed leaves NONE again after a loss: R161 asks
for a cause and names none for this change (DESIGN CHOICE, log 9). Applied to the counter of free values. -/
opaque Config.leavingNoneIsReturn : Nat → Bool

/-- Whether an expected period that is no whole number of tenths of a millisecond is reported rounded up (R156 gives the
unit and no rounding; DESIGN CHOICE, log 10). Applied to the period in microseconds. -/
opaque Config.tenthRoundsUp : Nat → Bool

/-- Whether a write that is finished at a RESET point verifies (R146 says it is finished first; DESIGN CHOICE, log 11).
Applied to the counter of free values. -/
opaque Config.finishVerifies : Nat → Bool

end Sys2Proof
end

