-- ==== Sys2Proof/Syntax.lean ====
section
/-! DEFINITION. The commands of the FT-6448: one constructor of `Instr` for each row of spec/opcode_table.json, with the
operands the row's rules give it. -/

namespace Sys2Proof

/-- The two chain connectors (R155). A lane is named by its port: the FORWARD direction enters on port A's inbound lane,
the REVERSE direction on port B's. -/
inductive Port where
  | a
  | b
  deriving DecidableEq, Repr

/-- One wall pixel of a LINE record: RED, GREEN, BLUE (R19, R156). -/
structure Pixel where
  red : Half
  green : Half
  blue : Half
  deriving DecidableEq, Repr

/-- The fields of a FRAME HEAD (R156). -/
structure HeadRecord where
  frameNumber : Half
  flags : Byte
  brightness : Byte
  hopCount : Byte
  replyCapacity : Byte
  deriving DecidableEq, Repr

/-- The fields of a LINE record; the pixel count is the number of pixels (R156). -/
structure LineRecord where
  wallRow : Nat
  firstColumn : Nat
  pixels : List Pixel
  deriving DecidableEq, Repr

/-- The fields of a REPLY SLOT before its check code (R156). -/
structure SlotRecord where
  state : Byte
  sourceId : Half
  sourceHop : Byte
  sourceDirection : Byte
  tag : Byte
  kind : Byte
  status : Byte
  flags : Byte
  queued : Byte
  takenFrame : Half
  bodyLength : Byte
  bodyArea : List Byte
  deriving DecidableEq, Repr

/-- The fields of a FRAME TAIL (R156). -/
structure TailRecord where
  attentionCount : Byte
  firstAttentionId : Half
  deriving DecidableEq, Repr

/-- A good REQUEST record on the inbound lane of a port, less its kind, which the command's name gives (R156). -/
structure Request where
  lane : Port
  mode : Byte
  destination : Half
  tag : Byte
  body : List Byte
  deriving DecidableEq, Repr

/-- What comes from outside with an event that arrives at a time of its own: the microseconds since the last event that
carried a time (log 1), and what the temperature sensor reads then, in thousandths of a degree Celsius (R147, log 8). -/
structure Moment where
  elapsed : Nat
  sensor : Int
  deriving DecidableEq, Repr

/-- What a power-up or a reset pin leaves of the non-volatile operation it cuts: whether the completion mark (of a record)
or the complete mark (of a header) was already written, and how many slots of a bank an erase had not yet reached
(R146, R129; log 24). -/
structure Cut where
  markWritten : Bool
  slotsLeft : Nat
  deriving DecidableEq, Repr

/-- The commands: the 57 rows of spec/opcode_table.json in the table's order. -/
inductive Instr where
  /-- FRAME_HEAD: a good FRAME HEAD arrives on an inbound lane (R157, R160, R161, R162, R163, R21). -/
  | frameHead (lane : Port) (record : HeadRecord) (moment : Moment)
  /-- LINE: a good LINE record arrives on an inbound lane (R22). -/
  | line (lane : Port) (record : LineRecord)
  /-- REPLY_SLOT: a good REPLY SLOT passes a forwarder (R158). -/
  | replySlot (lane : Port) (record : SlotRecord)
  /-- FRAME_TAIL: a good FRAME TAIL arrives on an inbound lane (R159, R23, R25). -/
  | frameTail (lane : Port) (record : TailRecord) (moment : Moment)
  /-- RECORD_BAD_CHECK: a record that every part of the tile treats as absent, as its bytes (R155, R156). -/
  | recordBadCheck (lane : Port) (bytes : List Byte)
  /-- FRAME_TIMER_EXPIRY: the frame timer runs out (R25); the sensor's reading then. -/
  | frameTimerExpiry (sensor : Int)
  /-- STALE: the frame start, caused by the frame timer, at which the repeat count reaches 30 (R26). -/
  | stale (sensor : Int)
  /-- PROVING_TIMEOUT: the frame start, caused by the frame timer, at which a proving's age reaches 120 (R104). -/
  | provingTimeout (sensor : Int)
  /-- ROW_GAP_OPEN: the scan engine opens its next row gap (R28, R58). -/
  | rowGapOpen
  /-- ROW_GAP_END: the open row gap ends (R42). `ticks` is the tick at which the current regulates, any number from 1023
  on meaning that it has not; `regulatedFirst` says that it had regulated before a disconnection (R41). -/
  | rowGapEnd (ticks : Nat) (regulatedFirst : Bool)
  /-- PORT_LOSS_WATCHDOG: 100 ms pass without a good head on the port (R160). -/
  | portLossWatchdog (lane : Port) (sensor : Int)
  /-- FEED_RETURN: the good head on the preferred port that takes the return count to 120 (R162). -/
  | feedReturn (record : HeadRecord) (moment : Moment)
  /-- UNKNOWN_KIND: a request whose kind is outside 1..27 (R164). -/
  | unknownKind (request : Request) (kind : Byte)
  /-- IDENTIFY, kind 1 (R165). -/
  | identify (request : Request)
  /-- ASSIGN_ID, kind 2 (R166). -/
  | assignId (request : Request)
  /-- SET, kind 3 (R167); the moment serves a frame start that a new FREE-RUN PERIOD brings at once (R38). -/
  | set (request : Request) (moment : Moment)
  /-- GET, kind 4 (R167). -/
  | get (request : Request)
  /-- RESET, kind 5 (R153). -/
  | reset (request : Request)
  /-- READ_CELL, kind 6 (R16). -/
  | readCell (request : Request)
  /-- READ_GROUP, kind 7 (R17). -/
  | readGroup (request : Request)
  /-- READ_LINE, kind 8 (R18). -/
  | readLine (request : Request)
  /-- READ_SUSPECTS, kind 9 (R86). -/
  | readSuspects (request : Request)
  /-- SPARE, kind 10 (R107, R108). -/
  | spare (request : Request)
  /-- RESTORE, kind 11 (R109). -/
  | restore (request : Request)
  /-- CONCEAL, kind 12 (R110). -/
  | conceal (request : Request)
  /-- FORGIVE, kind 13 (R85). -/
  | forgive (request : Request)
  /-- REVIVE_DIE, kind 14 (R111). -/
  | reviveDie (request : Request)
  /-- RESTORE_CHANNEL, kind 15 (R112). -/
  | restoreChannel (request : Request)
  /-- HOLD_LINE, kind 16 (R122). -/
  | holdLine (request : Request)
  /-- RELEASE_LINE, kind 17 (R123). -/
  | releaseLine (request : Request)
  /-- SET_BUDGET, kind 18 (R113). -/
  | setBudget (request : Request)
  /-- START_SURVEY, kind 19 (R65). -/
  | startSurvey (request : Request)
  /-- STOP_SURVEY, kind 20 (R69). -/
  | stopSurvey (request : Request)
  /-- READ_SENSE, kind 21 (R54). -/
  | readSense (request : Request)
  /-- CLEAR_BASELINES, kind 22 (R48). -/
  | clearBaselines (request : Request)
  /-- COMPACT, kind 23 (R144). -/
  | compact (request : Request)
  /-- READ_JOURNAL, kind 24 (R145). -/
  | readJournal (request : Request)
  /-- COLLECT, kind 25 (R173). -/
  | collect (request : Request)
  /-- CLEAR, kind 26 (R174). -/
  | clear (request : Request)
  /-- READ_FEED, kind 27 (R168). -/
  | readFeed (request : Request)
  /-- RECORD_WRITE_START: the free writer takes the head of the owed list (R130). -/
  | recordWriteStart
  /-- RECORD_WRITE_END: a record write ends with a good or a failed verify (R130, R131). -/
  | recordWriteEnd (verified : Bool)
  /-- COMPACTION_START: a due compaction starts (R132). -/
  | compactionStart
  /-- BANK_ERASE_END: a bank erase ends, having left its bank erased or not (R133, R134, R131). -/
  | bankEraseEnd (erased : Bool)
  /-- HEADER_WRITE_END: the new bank's header write ends (R133, R131). -/
  | headerWriteEnd (written : Bool)
  /-- COMPLETE_MARK_WRITE_END: the complete mark's write ends (R134, R131). -/
  | completeMarkWriteEnd (written : Bool)
  /-- SUPPLY_LOW: the supply becomes LOW (R151). -/
  | supplyLow
  /-- SUPPLY_GOOD: the supply becomes GOOD from LOW (R151). -/
  | supplyGood (elapsed : Nat)
  /-- WRITER_RESUME: the supply has been GOOD for 1 s (R139). -/
  | writerResume
  /-- SUPPLY_FAIL: the supply becomes FAIL (R151). -/
  | supplyFail (cut : Cut)
  /-- POWER_UP: the supply becomes GOOD from FAIL (R151, R152). -/
  | powerUp (elapsed : Nat)
  /-- RESET_PIN_ASSERT: the reset pin is asserted (R152). -/
  | resetPinAssert (cut : Cut)
  /-- RESET_PIN_RELEASE: the reset pin is released (R152). -/
  | resetPinRelease (elapsed : Nat)
  /-- OSCILLATOR_SETTLE: the 4 ms settle ends (R152). -/
  | oscillatorSettle
  /-- RESET_POINT: the first frame start after a RESET's DONE reply has left, caused by the frame timer (R153). -/
  | resetPoint
  /-- REPLAY_END: bank scan, replay and reconciliation end (R140, R141, R142). -/
  | replayEnd (moment : Moment)
  /-- DERATE_COUNTDOWN_EXPIRY: the derate countdown runs out (R149). -/
  | derateCountdownExpiry
  deriving DecidableEq, Repr

end Sys2Proof
end

