-- ==== Sys2Proof/Machine/Wire.lean ====
section
/-! DEFINITION. Records as bytes (R156): byte order, the check code, the layout of the five record types, and which byte
strings are good records. -/

namespace Sys2Proof.Machine

/-! ## Bytes -/

/-- A number in one byte. -/
def byte1 (n : Nat) : List Byte := [BitVec.ofNat 8 n]

/-- A number in two bytes, most significant first (R156). -/
def byte2 (n : Nat) : List Byte := [BitVec.ofNat 8 (n / 256), BitVec.ofNat 8 n]

/-- A number in three bytes, most significant first (R156). -/
def byte3 (n : Nat) : List Byte := [BitVec.ofNat 8 (n / 65536), BitVec.ofNat 8 (n / 256), BitVec.ofNat 8 n]

/-- A two-byte field, most significant byte first (R156). -/
def half (h : Half) : List Byte := byte2 h.toNat

/-- The number two bytes carry. -/
def number2 (high low : Byte) : Nat := high.toNat * 256 + low.toNat

/-! ## The check code (R156): CRC with polynomial 0x1021, initial value 0xFFFF, most significant bit first -/

/-- One bit of the check code. -/
def crcBit (c : Half) : Half := if c.msb then (c <<< 1) ^^^ 0x1021#16 else c <<< 1

/-- One byte of the check code. -/
def crcByte (c : Half) (b : Byte) : Half :=
  let c := c ^^^ (b.zeroExtend 16 <<< 8)
  crcBit (crcBit (crcBit (crcBit (crcBit (crcBit (crcBit (crcBit c)))))))

/-- The check code of a byte string. -/
def checkCode (bytes : List Byte) : Half := bytes.foldl crcByte 0xFFFF#16

/-- A record's bytes from its type byte on, with the check code after them (R156). -/
def sealed (bytes : List Byte) : List Byte := bytes ++ half (checkCode bytes)

/-! ## The records (R156) -/

def HeadRecord.bytes (r : HeadRecord) : List Byte :=
  sealed ([1#8] ++ half r.frameNumber ++ [r.flags, r.brightness, r.hopCount, r.replyCapacity])

def pixelBytes (p : Pixel) : List Byte := half p.red ++ half p.green ++ half p.blue

def LineRecord.bytes (r : LineRecord) : List Byte :=
  sealed ([2#8] ++ byte2 r.wallRow ++ byte2 r.firstColumn ++ byte2 r.pixels.length ++ r.pixels.flatMap pixelBytes)

def Request.bytes (r : Request) (kind : Byte) : List Byte :=
  sealed ([3#8, r.mode] ++ half r.destination ++ [r.tag, kind] ++ byte1 r.body.length ++ r.body)

def SlotRecord.bytes (r : SlotRecord) : List Byte :=
  sealed ([4#8, r.state] ++ half r.sourceId ++
    [r.sourceHop, r.sourceDirection, r.tag, r.kind, r.status, r.flags, r.queued] ++ half r.takenFrame ++
    [r.bodyLength] ++ r.bodyArea)

def TailRecord.bytes (r : TailRecord) : List Byte :=
  sealed ([5#8, r.attentionCount] ++ half r.firstAttentionId)

/-! ## Good records -/

/-- The check code that ends the byte string is the one of the bytes before it. -/
def goodCheck (bytes : List Byte) : Bool :=
  decide (3 ≤ bytes.length) &&
  decide (bytes.drop (bytes.length - 2) = half (checkCode (bytes.take (bytes.length - 2))))

/-- Byte `i` of a string as a number. -/
def byteAt (bytes : List Byte) (i : Nat) : Nat := (bytes.getD i 0).toNat

/-- Two bytes of a string from byte `i` as a number. -/
def wordAt (bytes : List Byte) (i : Nat) : Nat := number2 (bytes.getD i 0) (bytes.getD (i + 1) 0)

/-- The type byte names a record type, the length is the one that the type and the record's own counts give, and the values
that R156 limits lie in their ranges. -/
def goodForm (bytes : List Byte) : Bool :=
  match byteAt bytes 0 with
  | 1 => decide (bytes.length = 9)
  | 2 =>
    decide (wordAt bytes 1 ≤ 4095) && decide (wordAt bytes 3 ≤ 4095) &&
    decide (1 ≤ wordAt bytes 5) && decide (wordAt bytes 5 ≤ 4096) &&
    decide (bytes.length = 9 + 6 * wordAt bytes 5)
  | 3 => decide (byteAt bytes 6 ≤ 24) && decide (bytes.length = 9 + byteAt bytes 6)
  | 4 => decide (bytes.length = 64) && decide (byteAt bytes 1 ≤ 1) && decide (byteAt bytes 13 ≤ 48)
  | 5 => decide (bytes.length = 6)
  | _ => false

/-- A byte string that no part of the tile treats as absent (R155, R156). -/
def goodRecord (bytes : List Byte) : Bool := goodCheck bytes && goodForm bytes

/-- A LINE record whose values lie in their ranges (R156). -/
def LineRecord.inRange (r : LineRecord) : Bool :=
  decide (r.wallRow ≤ 4095) && decide (r.firstColumn ≤ 4095) &&
  decide (1 ≤ r.pixels.length) && decide (r.pixels.length ≤ 4096)

/-- A REPLY SLOT of 64 bytes whose state and body length lie in their ranges (R156). -/
def SlotRecord.inRange (r : SlotRecord) : Bool :=
  decide (r.state.toNat ≤ 1) && decide (r.bodyLength.toNat ≤ 48) && decide (r.bodyArea.length = 48)

/-- A REQUEST whose body length lies in its range (R156). -/
def Request.inRange (r : Request) : Bool := decide (r.body.length ≤ 24)

/-- A kind that names one of the 27 requests (R164). -/
def knownKind (kind : Byte) : Bool := decide (1 ≤ kind.toNat) && decide (kind.toNat ≤ 27)

end Sys2Proof.Machine
end

