-- ==== Sys2Proof/WellFormed.lean ====
section
/-! DEFINITION. Well-formed commands: the ranges that R156 gives the fields of the records, and the conditions that make a
row's event what the row says it is. -/

namespace Sys2Proof

/-- A command whose operands lie in the ranges the manual gives them. -/
def Instr.wellFormed : Instr → Bool
  | .frameHead _ _ _ => true
  | .line _ r => Machine.LineRecord.inRange r
  | .replySlot _ r => Machine.SlotRecord.inRange r
  | .frameTail _ _ _ => true
  | .recordBadCheck _ bytes => !Machine.goodRecord bytes
  | .frameTimerExpiry _ => true
  | .stale _ => true
  | .provingTimeout _ => true
  | .rowGapOpen => true
  | .rowGapEnd _ _ => true
  | .portLossWatchdog _ _ => true
  | .feedReturn _ _ => true
  | .unknownKind r kind => Machine.Request.inRange r && !Machine.knownKind kind
  | .identify r => Machine.Request.inRange r
  | .assignId r => Machine.Request.inRange r
  | .set r _ => Machine.Request.inRange r
  | .get r => Machine.Request.inRange r
  | .reset r => Machine.Request.inRange r
  | .readCell r => Machine.Request.inRange r
  | .readGroup r => Machine.Request.inRange r
  | .readLine r => Machine.Request.inRange r
  | .readSuspects r => Machine.Request.inRange r
  | .spare r => Machine.Request.inRange r
  | .restore r => Machine.Request.inRange r
  | .conceal r => Machine.Request.inRange r
  | .forgive r => Machine.Request.inRange r
  | .reviveDie r => Machine.Request.inRange r
  | .restoreChannel r => Machine.Request.inRange r
  | .holdLine r => Machine.Request.inRange r
  | .releaseLine r => Machine.Request.inRange r
  | .setBudget r => Machine.Request.inRange r
  | .startSurvey r => Machine.Request.inRange r
  | .stopSurvey r => Machine.Request.inRange r
  | .readSense r => Machine.Request.inRange r
  | .clearBaselines r => Machine.Request.inRange r
  | .compact r => Machine.Request.inRange r
  | .readJournal r => Machine.Request.inRange r
  | .collect r => Machine.Request.inRange r
  | .clear r => Machine.Request.inRange r
  | .readFeed r => Machine.Request.inRange r
  | .recordWriteStart => true
  | .recordWriteEnd _ => true
  | .compactionStart => true
  | .bankEraseEnd _ => true
  | .headerWriteEnd _ => true
  | .completeMarkWriteEnd _ => true
  | .supplyLow => true
  | .supplyGood _ => true
  | .writerResume => true
  | .supplyFail cut => decide (cut.slotsLeft ≤ Config.slots)
  | .powerUp _ => true
  | .resetPinAssert cut => decide (cut.slotsLeft ≤ Config.slots)
  | .resetPinRelease _ => true
  | .oscillatorSettle => true
  | .resetPoint => true
  | .replayEnd _ => true
  | .derateCountdownExpiry => true

end Sys2Proof
end

