-- ==== Sys2Proof/Decode.lean ====
section
/-! DEFINITION. Commands as words. The FT-6448 is a block: spec/opcode_table.json gives no row any bits, so no word spells a
command. (The bytes of the chain's records are Machine/Wire.lean's.) -/

namespace Sys2Proof

/-- The command a word spells by the table's bits: none, for every word, since no row of the table has bits. -/
def decodeTableWord (_nbits _w : Nat) : Option Instr := none

end Sys2Proof
end

