-- ==== Sys2Proof/Machine/Table.lean ====
section
/-! DEFINITION. Sparse tables over numbered things (cells, dies, channels, lines, units, subjects, settings, notices): a list
of (number, value) pairs in one canonical form, with one read and one write. What an unlisted number reads as is the
table's default, a function of the number. -/

namespace Sys2Proof.Machine

/-- A table: the numbers whose value is not the default, each with its value. -/
abbrev Table (α : Type) := List (Nat × α)

namespace Table

variable {α : Type}

/-- The value of number `k`. -/
def read (d : Nat → α) : Table α → Nat → α
  | [], k => d k
  | (j, v) :: t, k => if j = k then v else read d t k

/-- Takes number `k` off the list. -/
def drop (t : Table α) (k : Nat) : Table α := t.filter fun entry => decide (entry.1 ≠ k)

/-- Lists number `k` with value `v` at its place, between the lower and the higher numbers. -/
def place (t : Table α) (k : Nat) (v : α) : Table α :=
  t.filter (fun entry => decide (entry.1 < k)) ++ (k, v) :: t.filter fun entry => decide (k < entry.1)

/-- Gives number `k` the value `v`, keeping the canonical form: the default value removes the entry. -/
def write [DecidableEq α] (d : Nat → α) (t : Table α) (k : Nat) (v : α) : Table α :=
  if v = d k then drop t k else place t k v

/-- The table of a function over the numbers below `n`. -/
def ofFunction [DecidableEq α] (d : Nat → α) (n : Nat) (f : Nat → α) : Table α :=
  (List.range n).filterMap fun k => if f k = d k then none else some (k, f k)

/-- The canonical form: numbers strictly rising, and no entry equal to the default. -/
abbrev wf [DecidableEq α] (d : Nat → α) (t : Table α) : Prop :=
  t.Pairwise (fun a b => a.1 < b.1) ∧ ∀ e ∈ t, e.2 ≠ d e.1

end Table

end Sys2Proof.Machine
end

