-- ==== Sys2Proof/Machine/State.lean ====
section
/-! DEFINITION. The state of the FT-6448, block by block, and its value after reset. INVENTORY.md lists every field with the
rule that names it. -/

namespace Sys2Proof.Machine

/-! ## Cells, dies, channels, lines (chapter 1) -/

/-- Why a cell is CONCEALED (R9), in the order of R9's table. -/
inductive Reason where
  | referred
  | poolEmpty
  | dieDead
  | budget
  | unproven
  | ordered
  | line
  deriving DecidableEq, Repr

/-- The phases of PENDING-SPARE (R8). -/
inductive Phase where
  | proving
  | recording
  deriving DecidableEq, Repr

/-- The state of a primary cell (R8). -/
inductive CellState where
  | healthy
  | suspect
  | condemned
  | pendingSpare (phase : Phase) (channel : Nat)
  | spared (channel : Nat)
  | concealed (reason : Reason)
  deriving DecidableEq, Repr

/-- The state of a spare die (R10). -/
inductive DieState where
  | untried
  | good
  | suspect
  | condemned
  | dead
  deriving DecidableEq, Repr

/-- The state of a spare channel (R11). -/
inductive ChannelState where
  | free
  | proving (cell : Nat)
  | recording (cell : Nat)
  | bound (cell : Nat)
  | failed
  deriving DecidableEq, Repr

/-- An entry of the channel table: the state and the strike count (R11). -/
structure Channel where
  state : ChannelState
  strike : Nat
  deriving DecidableEq, Repr

/-- The state of a line (R13). -/
inductive LineState where
  | normal
  | held
  deriving DecidableEq, Repr

/-- An entry of the line table: the state, the tally (R13, R116) and the repairs undone count (R119). -/
structure Line where
  state : LineState
  tally : Nat
  undone : Nat
  deriving DecidableEq, Repr

/-- What the scan engine drives for one cell (R14, R31). -/
inductive Route where
  | primary
  | spare (channel : Nat)
  | blank
  deriving DecidableEq, Repr

/-- The side of a unit (R3). -/
inductive Side where
  | primary
  | spare
  deriving DecidableEq, Repr

/-- A unit: a primary cell or a spare die (R3). -/
structure UnitId where
  side : Side
  cell : Nat
  deriving DecidableEq, Repr

/-! ## Measuring (chapters 3 and 4) -/

/-- The classes of a bad verdict, which are the kinds of a suspect entry (R44, R74), in the order of R74. -/
inductive FaultKind where
  | openFault
  | shortFault
  | driftFault
  deriving DecidableEq, Repr

/-- The class of a verdict (R44). -/
inductive VerdictClass where
  | good
  | bad (kind : FaultKind)
  deriving DecidableEq, Repr

/-- The purpose of a grant (R45). -/
inductive Purpose where
  | sweep
  | survey
  | retest
  | proving
  deriving DecidableEq, Repr

/-- What a row gap is granted to: the reference load, or a unit with a purpose and, for a die, its channel (R40, R58). -/
inductive Grant where
  | reference
  | unit (unit : UnitId) (purpose : Purpose) (channel : Option Nat)
  deriving DecidableEq, Repr

/-- A measurement in flight (R40): the grant, the gap's index and frame, the frame temperature of that frame (R43);
`cut`: the die was disconnected during its pulse (R41); `dropUpdate`: a clear claim came first (R47); `surveyed`: the
survey that granted it is still RUNNING (R66); `wraps`: its end sets the wrapped mark of its row (R66). -/
structure Measurement where
  grant : Grant
  index : Nat
  frame : Half
  temp : Option Int
  cut : Bool
  dropUpdate : Bool
  surveyed : Bool
  wraps : Bool
  deriving DecidableEq, Repr

/-- The sense status of a frame (R52). -/
inductive SenseStatus where
  | ok
  | hold
  | faulted
  deriving DecidableEq, Repr

/-- The reference condition (R50, R51). -/
inductive RefCondition where
  | sound
  | failed
  deriving DecidableEq, Repr

/-- A reference result (R49). -/
structure RefResult where
  raw : Nat
  good : Bool
  deriving DecidableEq, Repr

/-- A baseline entry (R46). -/
inductive Baseline where
  | none
  | learning (n : Nat) (sum : Nat)
  | set (value : Nat)
  deriving DecidableEq, Repr

/-- A row survey cursor (R66). -/
structure Cursor where
  position : Nat
  wrapped : Bool
  deriving DecidableEq, Repr

/-- A RUNNING survey (R65, R66). -/
structure Survey where
  requested : Nat
  done : Nat
  units : Nat
  bad : Nat
  cursors : Table Cursor
  deriving DecidableEq, Repr

/-- How a survey ended (R70). -/
inductive SurveyOutcome where
  | done
  | cut
  | stopped
  deriving DecidableEq, Repr

/-- The Sense Unit (chapters 3 and 4). -/
structure SenseUnit where
  inFlight : Option Measurement
  status : SenseStatus
  condition : RefCondition
  badRun : Nat
  goodRun : Nat
  history : List RefResult
  baselines : Table Baseline
  goodCount : Nat
  openCount : Nat
  shortCount : Nat
  driftCount : Nat
  goodMin : Nat
  goodMax : Nat
  sweepCursor : Nat
  sweepCount : Nat
  survey : Option Survey
  deriving DecidableEq, Repr

/-! ## Repair (chapters 5 to 7) -/

/-- A suspect entry (R74). -/
structure Entry where
  unit : UnitId
  kind : FaultKind
  evidence : Nat
  due : Nat
  admitted : Half
  deriving DecidableEq, Repr

/-- A proving record (R88); its place in the proving order is its place in the list. -/
structure Proving where
  cell : Nat
  channel : Nat
  phase : Phase
  goodRun : Nat
  age : Nat
  deriving DecidableEq, Repr

/-- The Repair Engine (chapters 1, 5, 6 and 7). -/
structure RepairEngine where
  cells : Table CellState
  dies : Table DieState
  channels : Table Channel
  lines : Table Line
  suspects : List Entry
  provings : List Proving
  budget : Nat
  deriving DecidableEq, Repr

/-! ## The journal (chapter 8) -/

/-- The durable form of a subject's state (R106, R127). -/
inductive Image where
  | healthy
  | spared (channel : Nat)
  | concealed (reason : Reason)
  | usable
  | dead
  | free
  | failed
  | normal
  | held
  | value (v : Nat)
  deriving DecidableEq, Repr

/-- A used record slot (R129): with its completion mark, a subject number, an image and a check code, whose value decides
between complete and damaged; or torn, without a mark, of which nothing is ever read. A slot past the used ones is erased. -/
inductive Slot where
  | marked (subject : Nat) (image : Image) (check : Half)
  | torn
  deriving DecidableEq, Repr

/-- A bank: the header's generation and complete mark, and the used slots from slot 0 (R129). -/
structure Bank where
  generation : Nat
  complete : Bool
  slots : List Slot
  deriving DecidableEq, Repr

/-- The two banks (R129). -/
inductive BankId where
  | zero
  | one
  deriving DecidableEq, Repr

/-- The steps of a compaction (section 8.4). -/
inductive CompactionStep where
  | erase
  | snapshot
  | finish
  deriving DecidableEq, Repr

/-- The writer state (section 8.4); HELD says whether the writer returns to FULL. -/
inductive Writer where
  | idle
  | writing
  | compacting (step : CompactionStep)
  | erasingOld
  | held (toFull : Bool)
  | full
  | faulted
  deriving DecidableEq, Repr

/-- The non-volatile operation in progress beside a record write (R133, R134). -/
inductive Operation where
  | erase
  | header
  | mark
  deriving DecidableEq, Repr

/-- A record write in progress (R130). -/
structure RecordWrite where
  subject : Nat
  image : Image
  deriving DecidableEq, Repr

/-- The Repair Journal (chapter 8). -/
structure Journal where
  bank0 : Bank
  bank1 : Bank
  active : Option BankId
  writer : Writer
  record : Option RecordWrite
  operation : Option Operation
  failures : Nat
  stopping : Bool
  goodSince : Nat
  due : Bool
  walk : Nat
  walkTaken : List Nat
  heldReports : List RecordWrite
  owed : List Nat
  liveImages : Nat
  unrecorded : Bool
  damaged : Nat
  deriving DecidableEq, Repr

/-! ## Conditions (chapter 9) -/

/-- The thermal state (R147). -/
inductive Thermal where
  | normal
  | warm
  | hot
  deriving DecidableEq, Repr

/-- The derate level (R149). -/
inductive Derate where
  | d100
  | d80
  | d60
  | d40
  deriving DecidableEq, Repr

/-- The supply state (R151). -/
inductive Supply where
  | good
  | low
  | fail
  deriving DecidableEq, Repr

/-- The Condition Monitor (chapter 9); a running countdown is held as the time at which it runs out. -/
structure ConditionMonitor where
  temp : Option Int
  thermal : Thermal
  derate : Derate
  countdown : Option Nat
  blank : Bool
  supply : Supply
  deriving DecidableEq, Repr

/-- Where the part stands between reset and operation (R152). -/
inductive StartPhase where
  | off
  | settling
  | starting
  | running
  deriving DecidableEq, Repr

/-- The pending RESET (R153): waiting for its DONE reply to leave, or due at the next frame start. -/
inductive PendingReset where
  | none
  | waiting (direction : Port)
  | ready
  deriving DecidableEq, Repr

/-- The clock and start-up control (section 9.4); `now` is the model's real time in microseconds (log 1) and `free` the
counter of free values (log 7). -/
structure Clock where
  phase : StartPhase
  pinHeld : Bool
  powerReset : Bool
  reset : PendingReset
  now : Nat
  settleFrom : Nat
  free : Nat
  deriving DecidableEq, Repr

/-! ## The chain (chapter 10) -/

/-- A port's monitor (R160). -/
structure PortMonitor where
  live : Bool
  history : Option Nat
  mark : Bool
  lastHead : Nat
  voided : Bool
  deriving DecidableEq, Repr

/-- A queued reply (R164); the source ID, hop and flags are filled in at placement (R158). -/
structure Reply where
  tag : Byte
  kind : Byte
  status : Byte
  takenFrame : Half
  body : List Byte
  deriving DecidableEq, Repr

/-- One direction of the chain: hop position, reply queue, replies-lost flag, request decoder, and the last record its
forwarder sent (log 29). -/
structure DirectionState where
  hop : Option Nat
  queue : List Reply
  repliesLost : Bool
  considered : Nat
  inFrame : Bool
  sent : List Byte
  deriving DecidableEq, Repr

/-- The Chain Interface (chapter 10). Lane A is the FORWARD direction, lane B the REVERSE direction (R155). -/
structure ChainInterface where
  portA : PortMonitor
  portB : PortMonitor
  forward : DirectionState
  reverse : DirectionState
  feed : Option Port
  pendingSwitch : Option Port
  returnCount : Nat
  leftNone : Bool
  deriving DecidableEq, Repr

/-! ## The Pixel Path (chapter 2) -/

/-- The window in force for a capture (R19, R20). -/
structure Window where
  originColumn : Nat
  originRow : Nat
  columnDescending : Bool
  rowDescending : Bool
  deriving DecidableEq, Repr

/-- A frame buffer: pixel values by cell, DARK flag, wall brightness, head frame number (R21, R26). -/
structure Buffer where
  pixels : Table Half
  dark : Bool
  brightness : Byte
  headFrame : Half
  deriving DecidableEq, Repr

/-- A row gap that is open: its index g and the frame in which it opened (R28, R29). -/
structure OpenGap where
  index : Nat
  frame : Half
  deriving DecidableEq, Repr

/-- The Pixel Path (chapter 2). -/
structure PixelPath where
  captureOpen : Bool
  window : Window
  filling : Buffer
  received : Table Bool
  showing : Buffer
  repeats : Nat
  frame : Half
  frameStartAt : Nat
  expected : Nat
  active : Table Route
  pendingRoutes : Table (Option Route)
  startUp : Bool
  stale : Bool
  scaleBrightness : Byte
  scaleDerate : Nat
  nextGap : Nat
  gap : Option OpenGap
  deriving DecidableEq, Repr

/-! ## Notices (chapter 11) -/

/-- Why a feed changed (R161). -/
inductive FeedCause where
  | loss
  | feedReturn
  deriving DecidableEq, Repr

/-- The events of the JOURNAL notice, in the order of section 8.6. -/
inductive JournalEvent where
  | fresh
  | damagedRecord
  | bankConflict
  | compacted
  | full
  | faulted
  deriving DecidableEq, Repr

/-- The fifteen notice kinds (R170). -/
inductive NoticeKind where
  | faultConfirmed
  | spared
  | faultReferred
  | spareDieDead
  | channelFailed
  | poolEmpty
  | budgetSpent
  | lineHeld
  | listFull
  | surveyEnded
  | feedChanged
  | cadenceChange
  | senseFault
  | conditions
  | journal
  deriving DecidableEq, Repr

/-- The detail of an occurrence (R170). -/
inductive Detail where
  | faultConfirmed (unit : UnitId) (kind : FaultKind)
  | spared (cell : Nat) (channel : Nat)
  | faultReferred (cell : Nat) (reason : Reason)
  | spareDieDead (die : Nat)
  | channelFailed (channel : Nat)
  | poolEmpty (group : Nat)
  | budgetSpent
  | lineHeld (line : Nat)
  | listFull (evicted : Bool) (unit : UnitId)
  | surveyEnded (outcome : SurveyOutcome) (passes : Nat) (units : Nat) (bad : Nat)
  | feedChanged (feed : Option Port) (cause : FeedCause)
  | cadenceChange (port : Port) (old : Nat) (new : Nat)
  | senseFault (entered : Bool)
  | conditions (thermal : Thermal) (derate : Derate) (supply : Supply)
  | journal (event : JournalEvent)
  deriving DecidableEq, Repr

/-- The record of one notice kind (R171). -/
structure Notice where
  count : Nat
  detail : Option Detail
  deriving DecidableEq, Repr

/-! ## The whole part -/

/-- The state of the FT-6448, and the queue of the commands that wait. -/
structure State where
  pending : List Instr
  clk : Clock
  live : Table Nat
  stored : Table Nat
  ci : ChainInterface
  pp : PixelPath
  su : SenseUnit
  re : RepairEngine
  rj : Journal
  cm : ConditionMonitor
  nu : Table Notice
  deriving DecidableEq, Repr

/-- Why the part could stop: never. The manual gives every command of the table an effect, so the type has no
constructor. -/
inductive Fault where
  deriving DecidableEq, Repr

/-- Why a command could be refused by the model. -/
inductive Refusal where
  /-- A command without a meaning in the model: raised by no arm of `exec`, since every command has one. Safe. -/
  | notModelled (mnemonic : String)
  deriving DecidableEq, Repr

/-! ## After reset -/

/-- An erased bank (R129). -/
def Bank.erased : Bank := ⟨0, false, []⟩

/-- An empty buffer (R27). -/
def Buffer.empty : Buffer := ⟨[], false, 0, 0⟩

/-- The window of the default settings. -/
def Window.default : Window := ⟨0, 0, false, false⟩

/-- A port after reset (R169). -/
def PortMonitor.reset : PortMonitor := ⟨false, none, false, 0, false⟩

/-- A direction after reset (R169). -/
def DirectionState.reset : DirectionState := ⟨none, [], false, 0, false, []⟩

/-- The Chain Interface after reset (R169). -/
def ChainInterface.reset : ChainInterface :=
  ⟨PortMonitor.reset, PortMonitor.reset, DirectionState.reset, DirectionState.reset, none, none, 0, false⟩

/-- The Pixel Path after reset (R39). -/
def PixelPath.reset : PixelPath where
  captureOpen := false
  window := Window.default
  filling := Buffer.empty
  received := []
  showing := Buffer.empty
  repeats := 0
  frame := 0
  frameStartAt := 0
  expected := 16700
  active := []
  pendingRoutes := []
  startUp := true
  stale := false
  scaleBrightness := 0
  scaleDerate := 100
  nextGap := 0
  gap := none

/-- The Sense Unit after reset (R57, R72). -/
def SenseUnit.reset : SenseUnit where
  inFlight := none
  status := .ok
  condition := .sound
  badRun := 0
  goodRun := 0
  history := []
  baselines := []
  goodCount := 0
  openCount := 0
  shortCount := 0
  driftCount := 0
  goodMin := 1023
  goodMax := 0
  sweepCursor := 0
  sweepCount := 0
  survey := none

/-- The Repair Engine after reset, before replay (R15, R87, R115, R125). -/
def RepairEngine.reset : RepairEngine := ⟨[], [], [], [], [], [], 32⟩

/-- The Repair Journal after reset, before the bank scan, with the banks the reset left (R146). -/
def Journal.resetWith (bank0 bank1 : Bank) : Journal where
  bank0 := bank0
  bank1 := bank1
  active := none
  writer := .idle
  record := none
  operation := none
  failures := 0
  stopping := false
  goodSince := 0
  due := false
  walk := 0
  walkTaken := []
  heldReports := []
  owed := []
  liveImages := 0
  unrecorded := false
  damaged := 0

/-- The Condition Monitor after reset, with the supply as sensed (R154). -/
def ConditionMonitor.resetWith (supply : Supply) : ConditionMonitor := ⟨none, .normal, .d100, none, false, supply⟩

/-- The part at the instant a first power-up begins: the supply has become GOOD and the oscillator settles (R151, R152,
log 5). -/
def State.reset : State where
  pending := []
  clk := ⟨.settling, false, false, .none, 0, 0, 0⟩
  live := []
  stored := []
  ci := ChainInterface.reset
  pp := PixelPath.reset
  su := SenseUnit.reset
  re := RepairEngine.reset
  rj := Journal.resetWith Bank.erased Bank.erased
  cm := ConditionMonitor.resetWith .good
  nu := []

end Sys2Proof.Machine
end

