-- ==== Sys2Proof/Machine/Ops.lean ====
section
/-! DEFINITION. The named operations that every family of commands shares: identities, reading and writing the tables,
durable images, owing a subject, posting a route, raising a notice, and the one operation that changes a cell and its
die. -/

namespace Sys2Proof.Machine

/-! ## Identities (R1, R5, R6, R7) -/

/-- The row of a cell or a die (R1). -/
def rowOf (cell : Nat) : Nat := cell / 3 / 64
/-- The column of a cell or a die (R1). -/
def columnOf (cell : Nat) : Nat := cell / 3 % 64
/-- The colour of a cell or a die (R1). -/
def colourOf (cell : Nat) : Nat := cell % 3
/-- The cell number of a position (R1). -/
def cellAt (row column colour : Nat) : Nat := (row * 64 + column) * 3 + colour
/-- The spare group of a cell or a die (R5). -/
def groupOf (cell : Nat) : Nat := rowOf cell / 4 * 16 + columnOf cell / 4
/-- The group a channel belongs to (R6). -/
def groupOfChannel (channel : Nat) : Nat := channel / 4
/-- The four channels of a group, lowest first (R6). -/
def groupChannels (group : Nat) : List Nat := (List.range 4).map (group * 4 + ·)
/-- The 48 cells of a group in cell-number order (R5). -/
def groupCells (group : Nat) : List Nat :=
  (List.range 4).flatMap fun i => (List.range 12).map fun j => cellAt (group / 16 * 4 + i) (group % 16 * 4) 0 + j
/-- The C-line of a cell (R7). -/
def cLineOf (cell : Nat) : Nat := columnOf cell * 3 + colourOf cell
/-- The R-line of a cell (R7). -/
def rLineOf (cell : Nat) : Nat := 192 + rowOf cell
/-- The primary cells of a line in cell-number order (R7). -/
def lineCells (line : Nat) : List Nat :=
  if line < 192 then (List.range 48).map (fun row => cellAt row (line / 3) (line % 3))
  else (List.range 192).map (fun i => cellAt (line - 192) 0 0 + i)

/-- The number of a unit in the baseline table (R3, R46): the primaries, then the dies. -/
def UnitId.key (u : UnitId) : Nat :=
  match u.side with
  | .primary => u.cell
  | .spare => Config.cells + u.cell

/-! ## Subjects (R126) -/

def cellSubject (cell : Nat) : Nat := cell
def dieSubject (die : Nat) : Nat := 9216 + die
def channelSubject (channel : Nat) : Nat := 18432 + channel
def lineSubject (line : Nat) : Nat := 19200 + line
def settingSubject (setting : Nat) : Nat := 19440 + setting

/-! ## Changing one block -/

/-- The state with another Sense Unit. -/
def State.withSu (s : State) (su : SenseUnit) : State := { s with su := su }
/-- The state with another Repair Engine. -/
def State.withRe (s : State) (re : RepairEngine) : State := { s with re := re }
/-- The state with another Pixel Path. -/
def State.withPp (s : State) (pp : PixelPath) : State := { s with pp := pp }
/-- The state with another Repair Journal. -/
def State.withRj (s : State) (rj : Journal) : State := { s with rj := rj }
/-- The state with another Condition Monitor. -/
def State.withCm (s : State) (cm : ConditionMonitor) : State := { s with cm := cm }
/-- The state with another Chain Interface. -/
def State.withCi (s : State) (ci : ChainInterface) : State := { s with ci := ci }
/-- The state with another clock. -/
def State.withClk (s : State) (clk : Clock) : State := { s with clk := clk }

/-! ## Reading the tables -/

/-- The live value of a setting. -/
def State.setting (s : State) (n : Nat) : Nat := Table.read Config.settingDefault s.live n
/-- The stored value of a setting. -/
def State.storedSetting (s : State) (n : Nat) : Nat := Table.read Config.settingDefault s.stored n
/-- The state of a cell. -/
def RepairEngine.cell (re : RepairEngine) (n : Nat) : CellState := Table.read (fun _ => .healthy) re.cells n
/-- The state of a die. -/
def RepairEngine.die (re : RepairEngine) (n : Nat) : DieState := Table.read (fun _ => .untried) re.dies n
/-- An entry of the channel table. -/
def RepairEngine.channel (re : RepairEngine) (c : Nat) : Channel := Table.read (fun _ => ⟨.free, 0⟩) re.channels c
/-- An entry of the line table. -/
def RepairEngine.line (re : RepairEngine) (l : Nat) : Line := Table.read (fun _ => ⟨.normal, 0, 0⟩) re.lines l
/-- A baseline entry. -/
def SenseUnit.baseline (su : SenseUnit) (u : UnitId) : Baseline := Table.read (fun _ => .none) su.baselines u.key
/-- The active route of a cell. -/
def PixelPath.route (pp : PixelPath) (n : Nat) : Route := Table.read (fun _ => .blank) pp.active n
/-- The pending route of a cell. -/
def PixelPath.pendingRoute (pp : PixelPath) (n : Nat) : Option Route := Table.read (fun _ => none) pp.pendingRoutes n
/-- The pixel value of a cell in a buffer. -/
def Buffer.pixel (b : Buffer) (n : Nat) : Half := Table.read (fun _ => 0) b.pixels n
/-- The record of a notice kind by its number. -/
def State.notice (s : State) (kind : Nat) : Notice := Table.read (fun _ => ⟨0, none⟩) s.nu kind

/-- A port's monitor. -/
def ChainInterface.port (ci : ChainInterface) : Port → PortMonitor
  | .a => ci.portA
  | .b => ci.portB
/-- A direction, named by the port it enters on (R155). -/
def ChainInterface.direction (ci : ChainInterface) : Port → DirectionState
  | .a => ci.forward
  | .b => ci.reverse
/-- The opposite port. -/
def otherPort : Port → Port
  | .a => .b
  | .b => .a
/-- Changes a port's monitor. -/
def State.setPort (s : State) (p : Port) (m : PortMonitor) : State :=
  match p with
  | .a => s.withCi { s.ci with portA := m }
  | .b => s.withCi { s.ci with portB := m }
/-- Changes a direction. -/
def State.setDirection (s : State) (p : Port) (d : DirectionState) : State :=
  match p with
  | .a => s.withCi { s.ci with forward := d }
  | .b => s.withCi { s.ci with reverse := d }

/-! ## Time (log 1) -/

/-- Real time goes on by `elapsed` microseconds. -/
def State.tick (s : State) (elapsed : Nat) : State := s.withClk { s.clk with now := s.clk.now + elapsed }
/-- Real time has reached `time`: the end of a timer that has run out. -/
def State.reach (s : State) (time : Nat) : State := s.withClk { s.clk with now := max s.clk.now time }
/-- The two forwarders and the scan engine run: from the end of the settle on (R152, R155). -/
def State.forwarding (s : State) : Bool :=
  match s.clk.phase with
  | .starting | .running => true
  | .off | .settling => false
/-- Start-up has ended (R152 step 4). -/
def State.operating (s : State) : Bool := decide (s.clk.phase = .running)

/-! ## What a cell state means (R4, R8, R14, R106, R116) -/

/-- The channel a cell names (R8). -/
def CellState.channel : CellState → Option Nat
  | .pendingSpare _ c => some c
  | .spared c => some c
  | .healthy | .suspect | .condemned | .concealed _ => none

/-- The cell states counted in line tallies (R116). -/
def CellState.counted : CellState → Bool
  | .condemned | .pendingSpare _ _ | .spared _ => true
  | .concealed .ordered | .concealed .line => false
  | .concealed _ => true
  | .healthy | .suspect => false

/-- The route a cell state calls for (R14). -/
def routeFor : CellState → DieState → Route
  | .healthy, _ => .primary
  | .suspect, _ => .primary
  | .spared c, .good => .spare c
  | .spared c, .suspect => .spare c
  | .spared _, _ => .blank
  | .condemned, _ => .blank
  | .pendingSpare _ _, _ => .blank
  | .concealed _, _ => .blank

/-- The route a cell calls for now. -/
def RepairEngine.calledRoute (re : RepairEngine) (n : Nat) : Route := routeFor (re.cell n) (re.die n)

/-- The durable image of a cell state (R106). -/
def cellImage : CellState → Image
  | .healthy | .suspect | .condemned | .pendingSpare .proving _ => .healthy
  | .pendingSpare .recording c => .spared c
  | .spared c => .spared c
  | .concealed .line => .healthy
  | .concealed r => .concealed r

/-- The durable image of a die state (R106). -/
def dieImage : DieState → Image
  | .dead => .dead
  | .untried | .good | .suspect | .condemned => .usable

/-- The cell a channel names, whose spare die it is connected to (R6, R17). -/
def ChannelState.cell : ChannelState → Option Nat
  | .proving n => some n
  | .recording n => some n
  | .bound n => some n
  | .free | .failed => none

/-- The durable image of a channel state (R106). -/
def channelImage : ChannelState → Image
  | .failed => .failed
  | .free | .proving _ | .recording _ | .bound _ => .free

/-- The durable image of a line (R127). -/
def lineImage : LineState → Image
  | .normal => .normal
  | .held => .held

/-- The factory image of a subject (R127). -/
def factoryImage (subject : Nat) : Image :=
  if subject < 9216 then .healthy
  else if subject < 18432 then .usable
  else if subject < 19200 then .free
  else if subject < 19440 then .normal
  else .value (Config.settingDefault (subject - 19440))

/-- The durable image of a subject, read from its owner (R127, R128). -/
def State.imageOf (s : State) (subject : Nat) : Image :=
  if subject < 9216 then cellImage (s.re.cell subject)
  else if subject < 18432 then dieImage (s.re.die (subject - 9216))
  else if subject < 19200 then channelImage (s.re.channel (subject - 18432)).state
  else if subject < 19440 then lineImage (s.re.line (subject - 19200)).state
  else .value (s.storedSetting (subject - 19440))

/-! ## Notices (R170, R171) -/

/-- The number of a notice kind (R170). -/
def NoticeKind.number : NoticeKind → Nat
  | .faultConfirmed => 0
  | .spared => 1
  | .faultReferred => 2
  | .spareDieDead => 3
  | .channelFailed => 4
  | .poolEmpty => 5
  | .budgetSpent => 6
  | .lineHeld => 7
  | .listFull => 8
  | .surveyEnded => 9
  | .feedChanged => 10
  | .cadenceChange => 11
  | .senseFault => 12
  | .conditions => 13
  | .journal => 14

/-- The kind an occurrence's detail belongs to (R170). -/
def Detail.kind : Detail → NoticeKind
  | .faultConfirmed _ _ => .faultConfirmed
  | .spared _ _ => .spared
  | .faultReferred _ _ => .faultReferred
  | .spareDieDead _ => .spareDieDead
  | .channelFailed _ => .channelFailed
  | .poolEmpty _ => .poolEmpty
  | .budgetSpent => .budgetSpent
  | .lineHeld _ => .lineHeld
  | .listFull _ _ => .listFull
  | .surveyEnded _ _ _ _ => .surveyEnded
  | .feedChanged _ _ => .feedChanged
  | .cadenceChange _ _ _ => .cadenceChange
  | .senseFault _ => .senseFault
  | .conditions _ _ _ => .conditions
  | .journal _ => .journal

/-- Writes the record of a notice kind. -/
def State.setNotice (s : State) (kind : Nat) (n : Notice) : State :=
  { s with nu := Table.write (fun _ => ⟨0, none⟩) s.nu kind n }

/-- Records one occurrence (R171). -/
def State.notify (s : State) (d : Detail) : State :=
  s.setNotice d.kind.number ⟨min ((s.notice d.kind.number).count + 1) 255, some d⟩

/-- CONDITIONS with the state as the event leaves it (R150). -/
def State.notifyConditions (s : State) : State :=
  s.notify (.conditions s.cm.thermal s.cm.derate s.cm.supply)

/-! ## The journal's owed list (R127, R128, R138) -/

/-- A bank of the journal. -/
def Journal.bank (j : Journal) : BankId → Bank
  | .zero => j.bank0
  | .one => j.bank1

/-- Changes a bank. -/
def Journal.setBank (j : Journal) (i : BankId) (b : Bank) : Journal :=
  match i with
  | .zero => { j with bank0 := b }
  | .one => { j with bank1 := b }

/-- The other bank. -/
def BankId.other : BankId → BankId
  | .zero => .one
  | .one => .zero

/-- The active bank has an erased slot (R129). -/
def Journal.hasSlot (j : Journal) : Bool :=
  match j.active with
  | some i => decide ((j.bank i).slots.length < Config.slots)
  | none => false

/-- The writer is unable to write: FAULTED, or FULL with no erased slot or no active bank (R138). -/
def Journal.unable (j : Journal) : Bool :=
  match j.writer with
  | .faulted => true
  | .full => !j.hasSlot
  | .idle | .writing | .compacting _ | .erasingOld | .held _ => false

/-- The owed list with a subject at its tail, unless it is already on it (R128). -/
def oweList (owed : List Nat) (subject : Nat) : List Nat :=
  if subject ∈ owed then owed else owed ++ [subject]

/-- Hands a subject to the owed list (R128), setting the unrecorded flag while the writer is unable to write (R138). -/
def State.owe (s : State) (subject : Nat) : State :=
  s.withRj { s.rj with
    owed := oweList s.rj.owed subject
    unrecorded := s.rj.unrecorded || s.rj.unable }

/-- The live image count after an image changes (R127). -/
def imageCount (count : Nat) (factory old new : Image) : Nat :=
  if old = factory then count + 1 else if new = factory then count - 1 else count

/-- A subject's image has changed from `old` to `new`: the live image count follows and the subject is owed (R127, R128).
Nothing happens when the image is the same (R106). -/
def State.imageChanged (s : State) (subject : Nat) (old new : Image) : State :=
  if old = new then s
  else
    (s.withRj { s.rj with liveImages := imageCount s.rj.liveImages (factoryImage subject) old new }).owe subject

/-! ## Routes (R32) -/

/-- Posts a route to the pending route set (R32). -/
def State.post (s : State) (n : Nat) (r : Route) : State :=
  s.withPp { s.pp with pendingRoutes := Table.write (fun _ => none) s.pp.pendingRoutes n (some r) }

/-! ## Changing the tables -/

/-- Writes an entry of the line table. -/
def State.setLine (s : State) (l : Nat) (v : Line) : State :=
  s.withRe { s.re with lines := Table.write (fun _ => ⟨.normal, 0, 0⟩) s.re.lines l v }

/-- Moves the tally of one line by one, never below 0 (R116). -/
def State.moveTally (s : State) (l : Nat) (up : Bool) : State :=
  let v := s.re.line l
  s.setLine l { v with tally := if up then v.tally + 1 else v.tally - 1 }

/-- Moves the tallies of both lines of a cell when its counted standing changes (R116). -/
def State.countTallies (s : State) (n : Nat) (old new : CellState) : State :=
  if old.counted = new.counted then s
  else (s.moveTally (cLineOf n) new.counted).moveTally (rLineOf n) new.counted

/-- Writes a cell's and its die's entries in the maps. -/
def State.writeCell (s : State) (n : Nat) (c : CellState) (d : DieState) : State :=
  s.withRe { s.re with
    cells := Table.write (fun _ => .healthy) s.re.cells n c
    dies := Table.write (fun _ => .untried) s.re.dies n d }

/-- Posts the route a cell now calls for, when it has changed (R14). -/
def State.postChange (s : State) (n : Nat) (old new : Route) : State :=
  if old = new then s else s.post n new

/-- THE change of a cell and its die, in one event: the maps, the images owed (the die's before the cell's, log 15), the
route posted when the called-for route changes (R14), the tallies when the counted standing changes (R116). -/
def State.setCell (s : State) (n : Nat) (c : CellState) (d : DieState) : State :=
  let c0 := s.re.cell n
  let d0 := s.re.die n
  ((((s.writeCell n c d).imageChanged (dieSubject n) (dieImage d0) (dieImage d)).imageChanged
    (cellSubject n) (cellImage c0) (cellImage c)).postChange n (routeFor c0 d0) (routeFor c d)).countTallies n c0 c

/-- Writes an entry of the channel table, owing the channel when its image changes (R106). -/
def State.setChannel (s : State) (k : Nat) (v : Channel) : State :=
  (s.withRe { s.re with channels := Table.write (fun _ => ⟨.free, 0⟩) s.re.channels k v }).imageChanged
    (channelSubject k) (channelImage (s.re.channel k).state) (channelImage v.state)

/-- A test pulse running through a channel is disconnected from its die (R41). -/
def State.disconnect (s : State) (k : Nat) : State :=
  match s.su.inFlight with
  | some m =>
    match m.grant with
    | .unit _ _ (some k') =>
      if k' = k then s.withSu { s.su with inFlight := some { m with cut := true } } else s
    | .unit _ _ none => s
    | .reference => s
  | none => s

/-- Takes a channel's proving record out of the proving order, releasing its slot (R88). -/
def State.dropProving (s : State) (k : Nat) : State :=
  s.withRe { s.re with provings := s.re.provings.filter fun p => decide (p.channel ≠ k) }

/-- Frees a channel with its strike kept: disconnected, its proving record and slot released (R103, R109, R110, R121). -/
def State.freeChannel (s : State) (k : Nat) : State :=
  ((s.disconnect k).dropProving k).setChannel k ⟨.free, (s.re.channel k).strike⟩

/-- Frees the channel a cell names, if it names one. -/
def State.freeNamed (s : State) (c : CellState) : State :=
  match c.channel with
  | some k => s.freeChannel k
  | none => s

/-- Takes a unit's entry out of the suspect list; the entries behind it close up (R75). -/
def State.dropEntry (s : State) (u : UnitId) : State :=
  s.withRe { s.re with suspects := s.re.suspects.filter fun e => decide (e.unit ≠ u) }

/-- The state a die is left in when its cell leaves its state other than by the decision for the condemned die: a SUSPECT
or CONDEMNED die becomes GOOD (R10). -/
def DieState.afterLeaving : DieState → DieState
  | .suspect | .condemned => .good
  | .untried => .untried
  | .good => .good
  | .dead => .dead

/-- Takes a cell to the state `c` by RESTORE, CONCEAL, a line hold or a proving timeout: its suspect entries leave the
list, the channel it names is freed, its die becomes GOOD if it was under suspicion, and whatever else goes with the
change of state (R8, R10, R103, R109, R110, R120). -/
def State.withdraw (s : State) (n : Nat) (c : CellState) : State :=
  (((s.dropEntry ⟨.primary, n⟩).dropEntry ⟨.spare, n⟩).freeNamed (s.re.cell n)).setCell n c (s.re.die n).afterLeaving

/-- A measurement of one of the units drops its baseline update (R47). -/
def Measurement.dropFor (m : Measurement) (us : List UnitId) : Measurement :=
  match m.grant with
  | .unit u _ _ => if u ∈ us then { m with dropUpdate := true } else m
  | .reference => m

/-- Sets the baseline entries of units to NONE; a measurement of one of them in flight drops its update (R47). -/
def State.clearClaim (s : State) (us : List UnitId) : State :=
  s.withSu { s.su with
    baselines := us.foldl (fun t u => Table.drop t u.key) s.su.baselines
    inFlight := s.su.inFlight.map (·.dropFor us) }

end Sys2Proof.Machine
end

