-- ==== Sys2Proof/Machine/Flags.lean ====
section
/-! DEFINITION. What the part computes from its state without holding it a second time: whether the feed is LIVE, the blank
causes, the frame timer's end, attention and its summary, and the flags of a reply (log 33). -/

namespace Sys2Proof.Machine

/-- The feed port is LIVE (R25, R161). -/
def State.feedLive (s : State) : Bool :=
  match s.ci.feed with
  | some p => (s.ci.port p).live
  | none => false

/-- FREE-RUN PERIOD in microseconds: the setting counts tenths of a millisecond (R25, R167). -/
def State.freeRun (s : State) : Nat := s.setting Setting.freeRunPeriod * 100

/-- The length of the frame timer: twice the expected period of the current frame while the feed is LIVE, FREE-RUN PERIOD
otherwise (R25). -/
def State.timerLength (s : State) : Nat := if s.feedLive then 2 * s.pp.expected else s.freeRun

/-- When the frame timer ends (R25). -/
def State.timerEnd (s : State) : Nat := s.pp.frameStartAt + s.timerLength

/-- The expected period that a frame start latches (R25): the feed's latest period limited to 8.3..41.7 ms, or FREE-RUN
PERIOD. -/
def State.expectedPeriod (s : State) : Nat :=
  match s.ci.feed with
  | some p =>
    if (s.ci.port p).live then
      match (s.ci.port p).history with
      | some period => max 8300 (min period 41700)
      | none => s.freeRun
    else s.freeRun
  | none => s.freeRun

/-- MUTE (R36): the setting is ON and the feed port's CADENCE CHANGE mark is set. -/
def State.mute (s : State) : Bool :=
  match s.ci.feed with
  | some p => decide (s.setting Setting.muteOnCadence = 1) && (s.ci.port p).mark
  | none => false

/-- The blank causes START-UP, STALE, MUTE, THERMAL, DARK, present or absent (section 2.7). -/
def State.blankCauses (s : State) : List Bool :=
  [s.pp.startUp, s.pp.stale, s.mute, s.cm.blank, s.pp.showing.dark]

/-- The tile's output is black (R34). -/
def State.black (s : State) : Bool := s.blankCauses.any id

/-- The derate level in percent. -/
def Derate.percent : Derate → Nat
  | .d100 => 100
  | .d80 => 80
  | .d60 => 60
  | .d40 => 40

/-- The effective derate level (R33). -/
def ConditionMonitor.effectiveDerate (cm : ConditionMonitor) : Nat :=
  if cm.supply = .low then 40 else cm.derate.percent

/-- The kinds that are pending, in kind order (R171). -/
def State.pendingKinds (s : State) : List Nat := (List.range 15).filter fun k => decide (1 ≤ (s.notice k).count)

/-- The live priority of a notice kind (R170). -/
def State.priority (s : State) (kind : Nat) : Nat := s.setting (Setting.priority kind)

/-- Attention (R172). -/
def State.attention (s : State) : Bool :=
  s.pendingKinds.any fun k => decide (s.priority k ≤ s.setting Setting.attentionLevel)

/-- The attention summary: the smallest priority among the pending kinds, or none (R172). -/
def State.summary (s : State) : Option Nat := (s.pendingKinds.map s.priority).min?

/-- The flags of a reply as it is placed (R156, R158): the summary in the low four bits (8 for NONE), replies-lost in bit 4,
unrecorded in bit 5, black in bit 6. That bit 7 is 0 is the model's choice (log 21). -/
def State.replyFlags (s : State) (lane : Port) : Byte :=
  BitVec.ofNat 8 (s.summary.getD 8 + (if (s.ci.direction lane).repliesLost then 16 else 0) +
    (if s.rj.unrecorded then 32 else 0) + (if s.black then 64 else 0))

/-- A suspect entry carries the condemned mark: its evidence equals the live CONFIRM THRESHOLD (R74). -/
def State.condemnedMark (s : State) (e : Entry) : Bool := decide (e.evidence = s.setting Setting.confirmThreshold)

/-- The candidate: the oldest condemned entry (R83). -/
def State.candidate (s : State) : Option Entry := s.re.suspects.find? s.condemnedMark

/-- The limit of a line (R117). -/
def State.lineLimit (s : State) (l : Nat) : Nat :=
  s.setting (if l < 192 then Setting.cLineLimit else Setting.rLineLimit)

/-- The feed is on the port that is not preferred (R162). -/
def State.preferredPort (s : State) : Port := if s.setting Setting.preferredPort = 0 then .a else .b

end Sys2Proof.Machine
end

