-- ==== Sys2Proof/Machine/Operands.lean ====
section
/-! DEFINITION. Requests: how a body is read and a reply packed (R156), which requests are considered, address the tile and
are taken (R163, R164), and the reply queues. -/

namespace Sys2Proof.Machine

/-! ## Answers (R164) -/

/-- The status codes (R164). -/
inductive Status where
  | done
  | accepted
  | busy
  | wrongState
  | outOfRange
  | poolEmpty
  | dieDead
  | channelTaken
  | notPermitted
  | unknownKind
  | malformed
  deriving DecidableEq, Repr

/-- The code of a status (R164). -/
def Status.code : Status → Byte
  | .done => 0
  | .accepted => 1
  | .busy => 2
  | .wrongState => 3
  | .outOfRange => 4
  | .poolEmpty => 5
  | .dieDead => 6
  | .channelTaken => 7
  | .notPermitted => 8
  | .unknownKind => 9
  | .malformed => 10

/-- What a request is answered: a status, and the body the owning rule gives. -/
structure Answer where
  status : Status
  body : List Byte
  deriving DecidableEq, Repr

/-- A refusal by status: the body is absent and nothing changes (R164). -/
def State.refuse (s : State) (status : Status) : State × Answer := (s, ⟨status, []⟩)

/-- DONE with a body. -/
def State.answer (s : State) (body : List Byte) : State × Answer := (s, ⟨.done, body⟩)

/-! ## Reading a body (R156) -/

/-- A body of one byte. -/
def oneByte : List Byte → Option Nat
  | [a] => some a.toNat
  | _ => none

/-- A body of one two-byte number. -/
def oneNumber : List Byte → Option Nat
  | [a, b] => some (number2 a b)
  | _ => none

/-- A body of two two-byte numbers. -/
def twoNumbers : List Byte → Option (Nat × Nat)
  | [a, b, c, d] => some (number2 a b, number2 c d)
  | _ => none

/-- A body of a setting number, a value and a flag (R167). -/
def settingBody : List Byte → Option (Nat × Nat × Nat)
  | [n, a, b, f] => some (n.toNat, number2 a b, f.toNat)
  | _ => none

/-- A body of two bytes. -/
def twoBytes : List Byte → Option (Nat × Nat)
  | [a, b] => some (a.toNat, b.toNat)
  | _ => none

/-- The pairs of a body of byte pairs (R174). -/
def bytePairs : List Byte → Option (List (Nat × Nat))
  | [] => some []
  | [_] => none
  | a :: b :: rest => (bytePairs rest).map fun l => (a.toNat, b.toNat) :: l

/-- The side that the two highest bits of a unit name, and its cell number (R156); 2 and 3 name no side. -/
def unitOf (w : Nat) : Option UnitId :=
  match w / 16384 with
  | 0 => some ⟨.primary, w % 16384⟩
  | 1 => some ⟨.spare, w % 16384⟩
  | _ => none

/-- The value of a two-byte field that holds none or KEEP (R156). -/
def allOnes2 : Nat := 65535

/-! ## Packing a reply (R156) -/

/-- A one-byte field, all ones when absent. -/
def opt1 : Option Nat → List Byte
  | some n => byte1 n
  | none => [0xFF#8]
/-- A two-byte field, all ones when absent. -/
def opt2 : Option Nat → List Byte
  | some n => byte2 n
  | none => [0xFF#8, 0xFF#8]
/-- A three-byte field, all ones when absent. -/
def opt3 : Option Nat → List Byte
  | some n => byte3 n
  | none => [0xFF#8, 0xFF#8, 0xFF#8]
/-- A YES or NO field, or a mark. -/
def flag (b : Bool) : List Byte := [if b then 1#8 else 0#8]
/-- A temperature: one signed byte, −128 when absent. -/
def temperature : Option Int → List Byte
  | some t => [BitVec.ofInt 8 t]
  | none => [0x80#8]
/-- A unit: its side in the two highest bits. -/
def unitBytes (u : UnitId) : List Byte :=
  byte2 ((match u.side with | .primary => 0 | .spare => 16384) + u.cell)
/-- A route: its code, then its channel. -/
def routeBytes : Route → List Byte
  | .primary => 0#8 :: opt2 none
  | .spare c => 1#8 :: byte2 c
  | .blank => 2#8 :: opt2 none
/-- A set of names: bit n for the name listed n-th; the bits above the last name are 0 (log 21). -/
def nameSet : List Bool → Nat
  | [] => 0
  | b :: rest => (if b then 1 else 0) + 2 * nameSet rest

/-! ## Values drawn from lists of names (R156), each numbered in the order its rule first lists it -/

def CellState.code : CellState → Nat
  | .healthy => 0
  | .suspect => 1
  | .condemned => 2
  | .pendingSpare _ _ => 3
  | .spared _ => 4
  | .concealed _ => 5
def Reason.code : Reason → Nat
  | .referred => 0
  | .poolEmpty => 1
  | .dieDead => 2
  | .budget => 3
  | .unproven => 4
  | .ordered => 5
  | .line => 6
def Phase.code : Phase → Nat
  | .proving => 0
  | .recording => 1
def DieState.code : DieState → Nat
  | .untried => 0
  | .good => 1
  | .suspect => 2
  | .condemned => 3
  | .dead => 4
def ChannelState.code : ChannelState → Nat
  | .free => 0
  | .proving _ => 1
  | .recording _ => 2
  | .bound _ => 3
  | .failed => 4
def LineState.code : LineState → Nat
  | .normal => 0
  | .held => 1
def FaultKind.code : FaultKind → Nat
  | .openFault => 0
  | .shortFault => 1
  | .driftFault => 2
def SenseStatus.code : SenseStatus → Nat
  | .ok => 0
  | .hold => 1
  | .faulted => 2
def RefCondition.code : RefCondition → Nat
  | .sound => 0
  | .failed => 1
def SurveyOutcome.code : SurveyOutcome → Nat
  | .done => 0
  | .cut => 1
  | .stopped => 2
def Thermal.code : Thermal → Nat
  | .normal => 0
  | .warm => 1
  | .hot => 2
def Supply.code : Supply → Nat
  | .good => 0
  | .low => 1
  | .fail => 2
def JournalEvent.code : JournalEvent → Nat
  | .fresh => 0
  | .damagedRecord => 1
  | .bankConflict => 2
  | .compacted => 3
  | .full => 4
  | .faulted => 5
def FeedCause.code : FeedCause → Nat
  | .loss => 0
  | .feedReturn => 1
def portCode : Port → Nat
  | .a => 0
  | .b => 1
/-- A port or NONE: A, B, NONE. -/
def feedCode : Option Port → Nat
  | some p => portCode p
  | none => 2
/-- The active bank: 0, 1, NONE. -/
def bankCode : Option BankId → Nat
  | some .zero => 0
  | some .one => 1
  | none => 2
/-- The writer states in the order of section 8.4 (log 21). -/
def Writer.code : Writer → Nat
  | .idle => 0
  | .writing => 1
  | .compacting _ => 2
  | .erasingOld => 3
  | .held _ => 4
  | .full => 5
  | .faulted => 6
def CompactionStep.code : CompactionStep → Nat
  | .erase => 0
  | .snapshot => 1
  | .finish => 2
/-- The reason in a FAULT REFERRED detail, numbered as R170 lists them; the other reasons are never raised. -/
def Reason.noticeCode : Reason → Nat
  | .referred => 0
  | .dieDead => 1
  | .budget => 2
  | .unproven => 3
  | .poolEmpty | .ordered | .line => 255

/-- A notice detail in COLLECT: the kind number, then the detail's fields (R156, R170). -/
def Detail.bytes (d : Detail) : List Byte :=
  byte1 d.kind.number ++
  match d with
  | .faultConfirmed u k => unitBytes u ++ byte1 k.code
  | .spared n c => byte2 n ++ byte2 c
  | .faultReferred n r => byte2 n ++ byte1 r.noticeCode
  | .spareDieDead n => byte2 n
  | .channelFailed c => byte2 c
  | .poolEmpty g => byte1 g
  | .budgetSpent => []
  | .lineHeld l => byte1 l
  | .listFull evicted u => byte1 (if evicted then 0 else 1) ++ unitBytes u
  | .surveyEnded o passes units bad => byte1 o.code ++ byte1 passes ++ byte2 units ++ byte2 bad
  | .feedChanged f c => byte1 (feedCode f) ++ byte1 c.code
  | .cadenceChange p old new => byte1 (portCode p) ++ byte3 old ++ byte3 new
  | .senseFault entered => byte1 (if entered then 0 else 1)
  | .conditions t d s => byte1 t.code ++ byte1 d.percent ++ byte1 s.code
  | .journal e => byte1 e.code

/-! ## Forwarding and taking a request (R155, R163, R164) -/

/-- A forwarder sends a record on through the opposite port's outbound lane (R155). -/
def State.send (s : State) (lane : Port) (bytes : List Byte) : State :=
  s.setDirection lane { s.ci.direction lane with sent := bytes }

/-- A considered request addresses the tile (R163). -/
def State.addresses (s : State) (r : Request) : Bool :=
  match r.mode.toNat with
  | 0 => decide (s.setting Setting.tileId ≠ 0) && decide (r.destination.toNat = s.setting Setting.tileId)
  | 1 =>
    match (s.ci.direction r.lane).hop with
    | some h => decide (r.destination.toNat = h)
    | none => false
  | 2 => true
  | _ => false

/-- The request is in ALL mode: taken without a reply (R164). -/
def Request.toAll (r : Request) : Bool := decide (r.mode.toNat = 2)

/-- The checks that decide a taken request, and then the block that owns the kind (R164). -/
def State.decideRequest (s : State) (r : Request) (kind : Byte) (op : State → State × Answer) : State × Answer :=
  if !s.operating && decide (kind ≠ 1) then s.refuse .busy
  else if !knownKind kind then s.refuse .unknownKind
  else if decide (kind = 2) && decide (r.mode.toNat ≠ 1) then s.refuse .notPermitted
  else op s

/-- The tail of a direction's reply queue takes a reply (R164). -/
def State.queueReply (s : State) (lane : Port) (reply : Reply) : State :=
  let d := s.ci.direction lane
  s.setDirection lane { d with queue := d.queue ++ [reply] }

/-- The direction's decoder counts one more considered request (R163). -/
def State.consider (s : State) (lane : Port) : State :=
  let d := s.ci.direction lane
  s.setDirection lane { d with considered := d.considered + 1 }

/-- A request that finds its direction's queue full sets the replies-lost flag (R164). -/
def State.loseReply (s : State) (lane : Port) : State :=
  s.setDirection lane { s.ci.direction lane with repliesLost := true }

/-- The direction's decoder considers one more request (R163). -/
def State.mayConsider (s : State) (lane : Port) : Bool :=
  (s.ci.direction lane).inFrame && decide ((s.ci.direction lane).considered < Config.requestsPerFrame)

/-- The direction's reply queue has room for a reply (R164). -/
def State.hasRoom (s : State) (lane : Port) : Bool :=
  decide ((s.ci.direction lane).queue.length < Config.queueLength)

/-- A taken request is decided, and its reply joins its direction's queue unless it came in ALL mode (R164). -/
def State.take (s : State) (r : Request) (kind : Byte) (op : State → State × Answer) : State :=
  let d := s.decideRequest r kind op
  if Request.toAll r then d.1
  else d.1.queueReply r.lane ⟨r.tag, kind, d.2.status.code, s.pp.frame, d.2.body⟩

/-- A REQUEST record arrives on an inbound lane: it is forwarded unchanged; the first eight of a frame are considered; one
that addresses the tile is taken if its reply has room (R155, R156, R163, R164). `op` is what the block that owns the kind
does with it. -/
def State.request (s : State) (r : Request) (kind : Byte) (op : State → State × Answer) : State :=
  if !s.forwarding then s
  else
    let s1 := s.send r.lane (Request.bytes r kind)
    if !Request.inRange r || !s1.mayConsider r.lane then s1
    else
      let s2 := s1.consider r.lane
      if !s2.addresses r then s2
      else if !Request.toAll r && !s2.hasRoom r.lane then s2.loseReply r.lane
      else s2.take r kind op

/-- A request with an empty body; a longer one is refused with MALFORMED. -/
def State.emptyBody (s : State) (body : List Byte) (op : State → State × Answer) : State × Answer :=
  if body.isEmpty then op s else s.refuse .malformed

end Sys2Proof.Machine
end

