-- ==== Sys2Proof/Machine/Notices.lean ====
section
/-! DEFINITION. The Notice Unit's requests COLLECT and CLEAR (R173, R174). Occurrences are Machine/Ops.lean's, attention and
its summary Machine/Flags.lean's. -/

namespace Sys2Proof.Machine

/-! ## COLLECT (R173) -/

/-- The pending kinds at or after a kind, in kind order (R173). -/
def State.pendingFrom (s : State) (first : Nat) : List Nat := s.pendingKinds.filter fun k => decide (first ≤ k)

/-- The latest detail of a kind as COLLECT gives it. -/
def State.detailBytes (s : State) (kind : Nat) : List Byte :=
  match (s.notice kind).detail with
  | some d => d.bytes
  | none => []

/-- The reply body of COLLECT: the fifteen counts, the details of up to four pending kinds as a list, and the next pending
kind whose detail did not fit (R173). That the next kind is all ones where there is none is the model's choice (log 21). -/
def State.collected (s : State) (first : Nat) : List Byte :=
  let kinds := s.pendingFrom first
  (List.range 15).flatMap (fun k => byte1 (s.notice k).count) ++
  byte1 (kinds.take 4).length ++ (kinds.take 4).flatMap s.detailBytes ++ opt1 (kinds.drop 4).head?

/-- What COLLECT does (R173). -/
def collectOp (body : List Byte) (s : State) : State × Answer :=
  match oneByte body with
  | none => s.refuse .malformed
  | some first => if 14 < first then s.refuse .outOfRange else s.answer (s.collected first)

/-- COLLECT (R173). -/
def execCollect (r : Request) (s : State) : Host.Outcome State Fault Refusal :=
  .next (s.request r 25 (collectOp r.body))

/-! ## CLEAR (R174) -/

/-- The marks of both ports are cleared (R160, R174). -/
def State.clearMarks (s : State) : State :=
  s.withCi { s.ci with
    portA := { s.ci.portA with mark := false }
    portB := { s.ci.portB with mark := false } }

/-- One kind named with its seen count (R174). -/
def State.clearKind (s : State) (kind seen : Nat) : State :=
  let n := s.notice kind
  if seen = n.count then
    let s1 := s.setNotice kind ⟨0, none⟩
    if kind = NoticeKind.cadenceChange.number then s1.clearMarks else s1
  else if seen < n.count then s.setNotice kind ⟨n.count - seen, n.detail⟩
  else s

/-- The kinds still pending, with their counts (R174). That they are listed in kind-number order, as R173 has COLLECT list
them, is the model's choice (log 49). -/
def State.stillPending (s : State) : List Byte :=
  s.pendingKinds.flatMap fun k => byte1 k ++ byte1 (s.notice k).count

/-- The pairs of a CLEAR, if it names 1 to 12 kinds, none of them twice (R174). -/
def clearPairs (body : List Byte) : Option (List (Nat × Nat)) :=
  match bytePairs body with
  | some pairs =>
    if 1 ≤ pairs.length ∧ pairs.length ≤ 12 ∧ (pairs.map (·.1)).Nodup then some pairs else none
  | none => none

/-- What CLEAR does (R174). -/
def clearOp (body : List Byte) (s : State) : State × Answer :=
  match clearPairs body with
  | none => s.refuse .malformed
  | some pairs =>
    if pairs.any fun p => decide (14 < p.1) then s.refuse .outOfRange
    else
      let s1 := pairs.foldl (fun t p => t.clearKind p.1 p.2) s
      (s1, ⟨.done, s1.stillPending⟩)

/-- CLEAR (R174). -/
def execClear (r : Request) (s : State) : Host.Outcome State Fault Refusal :=
  .next (s.request r 26 (clearOp r.body))

end Sys2Proof.Machine
end

