-- ==== Sys2Proof/Machine/Repair.lean ====
section
/-! DEFINITION. The Repair Engine's operations (chapters 5, 6 and 7): lines, condemnation, decisions, provings, bindings,
verdicts, and its own work at a frame start. The requests are Machine/RepairRequests.lean's. -/

namespace Sys2Proof.Machine

/-! ## Line supervision (chapter 7) -/

/-- The hold event of a line (R119, R120, R121): its cells in cell-number order, then the line itself (log 15). -/
def State.hold (s : State) (l : Nat) : State :=
  let named := (lineCells l).filter fun n => (s.re.cell n).channel.isSome
  let s1 := (lineCells l).foldl (fun t n => t.withdraw n (.concealed .line)) s
  let undone := if l < 192 then 0 else (named.filter fun n => decide (s1.re.die n = .good)).length
  ((s1.setLine l ⟨.held, 0, undone⟩).imageChanged (lineSubject l) (lineImage (s.re.line l).state) .held).notify
    (.lineHeld l)

/-- A NORMAL line whose tally is at or above its limit (R117). -/
def State.atLimit (s : State) (l : Nat) : Bool :=
  decide ((s.re.line l).state = .normal) && decide (s.lineLimit l ≤ (s.re.line l).tally)

/-- After a rise of a cell's tallies both of its lines are judged with the tallies as the rise leaves them, and held C-line
first (R117). -/
def State.judgeLimits (s : State) (n : Nat) : State :=
  let c := s.atLimit (cLineOf n)
  let r := s.atLimit (rLineOf n)
  let s1 := if c then s.hold (cLineOf n) else s
  if r then s1.hold (rLineOf n) else s1

/-! ## Entries and units (chapter 5) -/

/-- Changes the suspect list. -/
def State.setSuspects (s : State) (l : List Entry) : State := s.withRe { s.re with suspects := l }

/-- Changes the entry of a unit in its place. -/
def State.changeEntry (s : State) (u : UnitId) (f : Entry → Entry) : State :=
  s.setSuspects (s.re.suspects.map fun e => if e.unit = u then f e else e)

/-- The entry of a unit, if the list holds one (R75). -/
def RepairEngine.entry (re : RepairEngine) (u : UnitId) : Option Entry := re.suspects.find? fun e => decide (e.unit = u)

/-- Gives a unit a state of its own: its cell for a primary, its die for a spare (R75, R77, R81). -/
def State.setUnit (s : State) (u : UnitId) (c : CellState) (d : DieState) : State :=
  match u.side with
  | .primary => s.setCell u.cell c (s.re.die u.cell)
  | .spare => s.setCell u.cell (s.re.cell u.cell) d

/-- Returns a unit to HEALTHY or GOOD (R75). -/
def State.returnUnit (s : State) (u : UnitId) : State := s.setUnit u .healthy .good

/-- The unit qualifies for routine measurement (R62, R76): a HEALTHY primary, or a GOOD die of a SPARED cell. -/
def RepairEngine.qualifies (re : RepairEngine) (u : UnitId) : Bool :=
  match u.side with
  | .primary => decide (re.cell u.cell = .healthy)
  | .spare =>
    match re.cell u.cell with
    | .spared _ => decide (re.die u.cell = .good)
    | .healthy | .suspect | .condemned | .pendingSpare _ _ | .concealed _ => false

/-- The more severe of two kinds: SHORT above OPEN above DRIFT (R44, R74). -/
def FaultKind.moreSevere : FaultKind → FaultKind → FaultKind
  | .shortFault, _ => .shortFault
  | _, .shortFault => .shortFault
  | .openFault, _ => .openFault
  | _, .openFault => .openFault
  | .driftFault, .driftFault => .driftFault

/-- The condemnation of a unit whose entry's evidence has come to equal CONFIRM THRESHOLD (R81). -/
def State.condemn (s : State) (u : UnitId) (kind : FaultKind) : State :=
  let s1 := (s.setUnit u .condemned .condemned).notify (.faultConfirmed u kind)
  match u.side with
  | .primary => s1.judgeLimits u.cell
  | .spare => s1

/-- Appends an entry and makes its unit SUSPECT (R77). -/
def State.enlist (s : State) (u : UnitId) (kind : FaultKind) : State :=
  (s.setSuspects (s.re.suspects ++ [⟨u, kind, 1, s.setting Setting.retestInterval, s.pp.frame⟩])).setUnit u
    .suspect .suspect

/-- The most recently admitted uncondemned DRIFT entry (R78). -/
def State.evictable (s : State) : Option Entry :=
  s.re.suspects.reverse.find? fun e => decide (e.kind = .driftFault) && !s.condemnedMark e

/-- A bad SWEEP or SURVEY verdict asks for the admission of its unit (R77, R78, R79). -/
def State.askAdmission (s : State) (u : UnitId) (kind : FaultKind) : State :=
  if s.re.suspects.length < Config.suspects then s.enlist u kind
  else
    match kind, s.evictable with
    | .driftFault, _ => s.notify (.listFull false u)
    | _, none => s.notify (.listFull false u)
    | _, some e => (((s.dropEntry e.unit).returnUnit e.unit).enlist u kind).notify (.listFull true e.unit)

/-! ## Decisions (chapter 6) -/

/-- The live policy for a kind is REFER (R89). -/
def State.refers (s : State) (kind : FaultKind) : Bool :=
  match kind with
  | .openFault => decide (s.setting Setting.openPolicy = 1)
  | .shortFault => decide (s.setting Setting.shortPolicy = 1)
  | .driftFault => decide (s.setting Setting.driftPolicy = 1)

/-- A channel is FREE. -/
def RepairEngine.isFree (re : RepairEngine) (k : Nat) : Bool := decide ((re.channel k).state = .free)

/-- The channel the Repair Engine chooses in a group: the lowest FREE with strike 0, else the lowest FREE (R91). -/
def RepairEngine.choose (re : RepairEngine) (group : Nat) : Option Nat :=
  ((groupChannels group).find? fun k => re.isFree k && decide ((re.channel k).strike = 0)).or
    ((groupChannels group).find? re.isFree)

/-- Changes the proving records. -/
def State.setProvings (s : State) (l : List Proving) : State := s.withRe { s.re with provings := l }

/-- A proving starts on a channel (R92), less the judgement of the limits its tally rise may reach. -/
def State.startProving (s : State) (n k : Nat) : State :=
  let s1 := s.setChannel k ⟨.proving n, (s.re.channel k).strike⟩
  (s1.setProvings (s1.re.provings ++ [⟨n, k, .proving, 0, 0⟩])).setCell n (.pendingSpare .proving k) (s.re.die n)

/-- A strike step: the channel becomes FREE with strike 1, or FAILED with strike 0 (R95). -/
def State.strike (s : State) (k : Nat) : State :=
  let s1 := (s.disconnect k).dropProving k
  if (s.re.channel k).strike = 0 then s1.setChannel k ⟨.free, 1⟩
  else (s1.setChannel k ⟨.failed, 0⟩).notify (.channelFailed k)

/-- The strike step on the channel a cell names. -/
def State.strikeNamed (s : State) (c : CellState) : State :=
  match c.channel with
  | some k => s.strike k
  | none => s

/-- The decision for a condemned primary needs a proving slot: outcome 5 of R89 (R83). -/
def State.needsSlot (s : State) (e : Entry) : Bool :=
  match e.unit.side with
  | .spare => false
  | .primary =>
    !s.refers e.kind && decide (s.re.die e.unit.cell ≠ .dead) && decide (s.re.budget ≠ 0) &&
      (s.re.choose (groupOf e.unit.cell)).isSome

/-- The auto budget falls by 1, and BUDGET SPENT is raised when it reaches 0 (R93). -/
def State.spendBudget (s : State) : State :=
  let s1 := s.withRe { s.re with budget := s.re.budget - 1 }
  if s.re.budget = 1 then s1.notify .budgetSpent else s1

/-- The decision for a condemned primary, whose entry has left the list: the first outcome of R89's table (R90, R92). -/
def State.decidePrimary (s : State) (n : Nat) (kind : FaultKind) : State :=
  if s.refers kind then (s.setCell n (.concealed .referred) (s.re.die n)).notify (.faultReferred n .referred)
  else if s.re.die n = .dead then (s.setCell n (.concealed .dieDead) .dead).notify (.faultReferred n .dieDead)
  else if s.re.budget = 0 then (s.setCell n (.concealed .budget) (s.re.die n)).notify (.faultReferred n .budget)
  else
    match s.re.choose (groupOf n) with
    | none => (s.setCell n (.concealed .poolEmpty) (s.re.die n)).notify (.poolEmpty (groupOf n))
    | some k => (s.startProving n k).spendBudget

/-- The decision for a condemned die (R94). -/
def State.decideDie (s : State) (n : Nat) : State :=
  ((s.setCell n (.concealed .dieDead) .dead).strikeNamed (s.re.cell n)).notify (.spareDieDead n)

/-- Takes an entry for decision: it leaves the list and its decision is made (R83). -/
def State.decideEntry (s : State) (e : Entry) : State :=
  let s1 := s.dropEntry e.unit
  match e.unit.side with
  | .primary => s1.decidePrimary e.unit.cell e.kind
  | .spare => s1.decideDie e.unit.cell

/-- Takes condemned entries one after another, at most `fuel` of them, until none is left or the candidate is blocked
(R84). -/
def State.takeCondemned : Nat → State → State
  | 0, s => s
  | fuel + 1, s =>
    match s.candidate with
    | none => s
    | some e =>
      if s.needsSlot e && decide (Config.provingSlots ≤ s.re.provings.length) then s
      else (s.decideEntry e).takeCondemned fuel

/-- The reconsideration of the candidate that ends an event of the Repair Engine (R84). -/
def State.reconsider (s : State) : State := s.takeCondemned s.re.suspects.length

/-! ## Proving, recording, binding (chapter 6) -/

/-- Binds a recording channel to its cell (R101). -/
def State.bind (s : State) (n k : Nat) : State :=
  (((s.dropProving k).setChannel k ⟨.bound n, (s.re.channel k).strike⟩).setCell n (.spared k) (s.re.die n)).notify
    (.spared n k)

/-- A binding without a record: the unrecorded flag is set in the same event (R102). -/
def State.bindUnrecorded (s : State) (n k : Nat) : State :=
  let s1 := s.bind n k
  s1.withRj { s1.rj with unrecorded := true }

/-- The writer is FULL or FAULTED (R102). -/
def Journal.blocked (j : Journal) : Bool :=
  match j.writer with
  | .full | .faulted => true
  | .idle | .writing | .compacting _ | .erasingOld | .held _ => false

/-- Binds every RECORDING channel in proving order (R102). -/
def State.bindRecordings (s : State) : State :=
  (s.re.provings.filter fun p => decide (p.phase = .recording)).foldl (fun t p => t.bindUnrecorded p.cell p.channel) s

/-- Changes the proving record of a channel in its place. -/
def State.changeProving (s : State) (k : Nat) (f : Proving → Proving) : State :=
  s.setProvings (s.re.provings.map fun p => if p.channel = k then f p else p)

/-- A proving passes (R98); with the writer FULL or FAULTED its recording completes in the same event (R102). -/
def State.passProving (s : State) (n k : Nat) : State :=
  let s1 := ((s.setChannel k ⟨.recording n, 0⟩).changeProving k fun p => { p with phase := .recording }).setCell n
    (.pendingSpare .recording k) .good
  if s1.rj.blocked then s1.bindUnrecorded n k else s1

/-- A proving fails (R99). -/
def State.failProving (s : State) (n k : Nat) : State :=
  ((s.setCell n (.concealed .dieDead) .dead).strike k).notify (.spareDieDead n)

/-- The journal's report that a subject has been written with an image (R100): a recording with that image is bound. -/
def State.report (s : State) (w : RecordWrite) : State :=
  match s.re.cell w.subject, w.image with
  | .pendingSpare .recording k, .spared k' =>
    if k = k' && decide (w.subject < Config.cells) then s.bind w.subject k else s
  | _, _ => s

/-! ## Verdicts (R45, R76, R80, R97) -/

/-- A verdict (R45). -/
structure Verdict where
  unit : UnitId
  purpose : Purpose
  cls : VerdictClass
  raw : Nat
  compensated : Nat
  frame : Half
  channel : Option Nat
  deriving DecidableEq, Repr

/-- The evidence change of a RETEST verdict on an uncondemned entry (R80), with the due count reloaded (R61). -/
def State.retest (s : State) (e : Entry) (cls : VerdictClass) : State :=
  let interval := s.setting Setting.retestInterval
  match cls with
  | .good =>
    if e.evidence ≤ 1 then (s.dropEntry e.unit).returnUnit e.unit
    else s.changeEntry e.unit fun x => { x with evidence := x.evidence - 1, due := interval }
  | .bad k =>
    let kind := e.kind.moreSevere k
    let s1 := s.changeEntry e.unit fun x => { x with kind := kind, evidence := x.evidence + 1, due := interval }
    if e.evidence + 1 = s.setting Setting.confirmThreshold then s1.condemn e.unit kind else s1

/-- A PROVING verdict on a channel (R97). -/
def State.provingVerdict (s : State) (n k : Nat) (cls : VerdictClass) : State :=
  match cls, s.re.provings.find? (fun p => decide (p.channel = k)) with
  | .good, some p =>
    if p.goodRun = 0 then s.changeProving k fun q => { q with goodRun := 1 }
    else s.passProving n k
  | .good, none => s
  | .bad _, _ => s.failProving n k

/-- The Repair Engine takes a verdict by its purpose, or discards it as stale (R76, R97). -/
def State.handVerdict (s : State) (v : Verdict) : State :=
  match v.purpose with
  | .sweep | .survey =>
    match v.cls with
    | .good => s
    | .bad k => if s.re.qualifies v.unit then (s.askAdmission v.unit k).reconsider else s
  | .retest =>
    match s.re.entry v.unit with
    | some e => if s.condemnedMark e then s else (s.retest e v.cls).reconsider
    | none => s
  | .proving =>
    match v.channel with
    | some k =>
      if (s.re.channel k).state = .proving v.unit.cell then (s.provingVerdict v.unit.cell k v.cls).reconsider else s
    | none => s

/-! ## Settings of the Repair Engine -/

/-- A new live CONFIRM THRESHOLD (R82): evidences are adjusted, and the entries the SET condemns are handled in admission
order. One that the hold of an earlier one has taken off the list before its turn is absorbed without a FAULT CONFIRMED of its
own: the model's choice (log 47). `old` is the threshold before, and the live value is already the new one. -/
def State.newThreshold (s : State) (old new : Nat) : State :=
  if new < old then
    let fresh := s.re.suspects.filter fun e => decide (new ≤ e.evidence) && decide (e.evidence ≠ old)
    let s1 := s.setSuspects (s.re.suspects.map fun e => { e with evidence := min e.evidence new })
    fresh.foldl (fun t e => if (t.re.entry e.unit).isSome then t.condemn e.unit e.kind else t) s1
  else
    s.setSuspects (s.re.suspects.map fun e => if e.evidence = old then { e with evidence := new } else e)

/-- A lowered line limit holds every NORMAL line of its kind whose tally is at or above it, in ascending line number
(R118). `lines` are the lines of the kind. -/
def State.newLimit (s : State) (lines : List Nat) : State :=
  (lines.filter s.atLimit).foldl State.hold s

/-! ## The Repair Engine's own work at a frame start (R60, R104) -/

/-- The due count of every uncondemned entry above 0 falls by 1 (R60). -/
def State.lowerDues (s : State) : State :=
  s.setSuspects (s.re.suspects.map fun e => if s.condemnedMark e then e else { e with due := e.due - 1 })

/-- A proving's timeout (R104): abandoned, CONCEALED(UNPROVEN), FAULT REFERRED. -/
def State.timeOut (s : State) (p : Proving) : State :=
  (s.withdraw p.cell (.concealed .unproven)).notify (.faultReferred p.cell .unproven)

/-- Ages rise by 1 in proving order, and the records whose age reaches 120 are timed out (R104). -/
def State.raiseAges (s : State) : State :=
  let s1 := s.setProvings (s.re.provings.map fun p => { p with age := p.age + 1 })
  (s1.re.provings.filter fun p => decide (Config.provingFrames ≤ p.age)).foldl State.timeOut s1

/-- The Repair Engine's work at a frame start. -/
def State.repairFrame (s : State) : State := s.lowerDues.raiseAges.reconsider

end Sys2Proof.Machine
end

