-- ==== Sys2Proof/Machine/Journal.lean ====
section
/-! DEFINITION. The Repair Journal's writer (chapter 8): record writes, compaction, FULL and FAULTED, the stop at a LOW
supply, and the requests COMPACT and READ_JOURNAL. Bank scan and replay are Machine/Replay.lean's. -/

namespace Sys2Proof.Machine

/-! ## Record slots (R129) -/

/-- An image as the bytes that a record slot holds: its number among the images of R106 and R127, then the channel, the
reason's number or the value in two bytes. The layout is the model's choice (log 23). -/
def Image.bytes : Image → List Byte
  | .healthy => 0#8 :: byte2 0
  | .spared c => 1#8 :: byte2 c
  | .concealed r => 2#8 :: byte2 r.code
  | .dead => 3#8 :: byte2 0
  | .usable => 4#8 :: byte2 0
  | .failed => 5#8 :: byte2 0
  | .free => 6#8 :: byte2 0
  | .normal => 7#8 :: byte2 0
  | .held => 8#8 :: byte2 0
  | .value v => 9#8 :: byte2 v

/-- The check code of a record: the CRC of the chain records, over the subject number and the image (R129). -/
def recordCheck (subject : Nat) (image : Image) : Half := checkCode (byte2 subject ++ image.bytes)

/-- The slot that a whole record write leaves: subject, image, check code, and the completion mark last (R129). -/
def Slot.complete (subject : Nat) (image : Image) : Slot := .marked subject image (recordCheck subject image)

/-- A slot with a completion mark and a bad check code (R129). -/
def Slot.isDamaged : Slot → Bool
  | .marked subject image check => decide (check ≠ recordCheck subject image)
  | .torn => false

/-! ## Banks (R129) -/

/-- The used count of the active bank (R129). While the active bank is NONE there is none to count, and READ-JOURNAL, for
which R145 gives no value there, reports 0: the model's choice (log 44). -/
def Journal.used (j : Journal) : Nat :=
  match j.active with
  | some i => (j.bank i).slots.length
  | none => 0

/-- The bank a compaction makes: the one that is not active, bank 0 while the active bank is NONE (R133). -/
def Journal.newBank (j : Journal) : BankId :=
  match j.active with
  | some i => i.other
  | none => .zero

/-- The generation of a compaction's header: one above the active bank's, 1 while the active bank is NONE (R133). -/
def Journal.nextGeneration (j : Journal) : Nat :=
  match j.active with
  | some i => ((j.bank i).generation + 1) % Config.generations
  | none => 1

/-- A record write goes into the new bank in step SNAPSHOT, and otherwise into the active bank (R130, R133). -/
def Journal.writesTo (j : Journal) : Option BankId :=
  match j.writer with
  | .compacting _ => some j.newBank
  | .idle | .writing | .erasingOld | .held _ | .full | .faulted => j.active

/-- A bank with one more used slot (R129). -/
def Bank.append (b : Bank) (x : Slot) : Bank := { b with slots := b.slots ++ [x] }

/-- The write position's slot is used (R129). -/
def Journal.useSlot (j : Journal) (x : Slot) : Journal :=
  match j.writesTo with
  | some i => j.setBank i ((j.bank i).append x)
  | none => j

/-- The bank that records go to has an erased slot (R129). -/
def Journal.canAppend (j : Journal) : Bool :=
  match j.writesTo with
  | some i => decide ((j.bank i).slots.length < Config.slots)
  | none => false

/-- An erase clears its bank's header first (R129). -/
def Bank.clearHeader (b : Bank) : Bank := { b with generation := 0, complete := false }

/-- The bank that an erase in progress erases: the one that is not active. -/
def Journal.erasing (j : Journal) : BankId := j.newBank

/-- The erase of the bank that is not active begins (R129, R133, R134). -/
def Journal.beginErase (j : Journal) : Journal :=
  { j.setBank j.erasing (j.bank j.erasing).clearHeader with operation := some .erase }

/-! ## The writer's states (section 8.4) -/

/-- The writer's state between records: IDLE with an empty owed list, else WRITING (R130). -/
def Journal.free (j : Journal) : Writer := if j.owed.isEmpty then .idle else .writing

/-- What a writer with nothing in progress becomes when it stops for a LOW supply (R139). -/
def Writer.stopped : Writer → Writer
  | .full => .held true
  | .faulted => .faulted
  | .held toFull => .held toFull
  | .idle | .writing | .compacting _ | .erasingOld => .held false

/-- The unrecorded flag is set when the writer has come to be unable to write while a subject is owed (R138). -/
def State.noteUnable (s : State) : State :=
  s.withRj { s.rj with unrecorded := s.rj.unrecorded || (s.rj.unable && !s.rj.owed.isEmpty) }

/-- A stop that waited for the work in progress is made when none is left (R139). -/
def State.stopIfDue (s : State) : State :=
  if s.rj.stopping && s.rj.record.isNone && s.rj.operation.isNone then
    s.withRj { s.rj with writer := s.rj.writer.stopped, stopping := false }
  else s

/-! ## How a compaction ends without its mark, FULL and FAULTED (R135 to R137) -/

/-- A compaction ends without its mark: the held reports are discarded, and the subjects the walk took off the owed list are
owed again in identity order (R135). -/
def State.endUnmarked (s : State) : State :=
  let taken := s.rj.walkTaken
  taken.foldl State.owe (s.withRj { s.rj with walkTaken := [], heldReports := [], walk := 0, operation := none })

/-- The writer becomes FULL (R132, R135, R136): compaction due becomes NO, JOURNAL is raised with event FULL, and every
RECORDING channel is bound (R102). -/
def State.enterFull (s : State) : State :=
  (((s.withRj { s.rj with writer := .full, due := false }).notify (.journal .full)).bindRecordings).noteUnable

/-- A record write in progress is abandoned: its slot is torn (log 39) and its subject owed again (R137). -/
def State.abandonRecord (s : State) : State :=
  match s.rj.record with
  | some w => (s.withRj { s.rj.useSlot .torn with record := none }).owe w.subject
  | none => s

/-- The writer becomes FAULTED (R137), with the record write in progress, if any, already off the books. -/
def State.enterFaulted (s : State) : State :=
  (((s.withRj { s.rj with writer := .faulted, operation := none, stopping := false }).notify
    (.journal .faulted)).bindRecordings).noteUnable

/-- A compaction in progress is ended, if there is one (R137). -/
def State.endCompaction (s : State) : State :=
  match s.rj.writer with
  | .compacting _ => s.endUnmarked
  | .idle | .writing | .erasingOld | .held _ | .full | .faulted => s

/-- A failed header write, mark write or erase makes the writer FAULTED at once (R131, R137). -/
def State.failOperation (s : State) : State := (s.abandonRecord.endCompaction.enterFaulted).reconsider

/-- A compaction is ended by the LOW supply: it is due again, and the writer is HELD (R139). -/
def State.holdCompaction (s : State) : State :=
  let s1 := s.endUnmarked
  s1.withRj { s1.rj with due := true, writer := .held false, stopping := false }

/-! ## The snapshot walk (R133) -/

/-- The subjects whose image is not the factory image, in identity order (R127). -/
def State.nonFactory (s : State) : List Nat :=
  (s.re.cells.map (fun e => cellSubject e.1) ++ s.re.dies.map (fun e => dieSubject e.1) ++
    s.re.channels.map (fun e => channelSubject e.1) ++ s.re.lines.map (fun e => lineSubject e.1) ++
    s.stored.map (fun e => settingSubject e.1)).filter fun n => decide (s.imageOf n ≠ factoryImage n)

/-- A subject number at its place in identity order. -/
def placeRising (n : Nat) : List Nat → List Nat
  | [] => [n]
  | m :: rest => if n ≤ m then n :: m :: rest else m :: placeRising n rest

/-- Subject numbers in identity order (R126). -/
def rising (l : List Nat) : List Nat := l.foldr placeRising []

/-- The walk takes the subjects from one number up to, not including, another off the owed list (R133). -/
def State.walkOver (s : State) (start stop : Nat) : State :=
  let reached := fun n => decide (start ≤ n) && decide (n < stop)
  s.withRj { s.rj with
    owed := s.rj.owed.filter fun n => !reached n
    walkTaken := s.rj.walkTaken ++ rising (s.rj.owed.filter reached) }

/-- An overflow: the compaction ends without its mark, every subject that is not factory is owed, and the writer is FULL
(R135). -/
def State.overflow (s : State) : State :=
  let s1 := s.endUnmarked
  (s1.nonFactory.foldl State.owe s1).enterFull

/-- The walk goes on from a subject: to the next one whose image is not factory, whose record write begins, or which
overflows the new bank; with none left, to step FINISH (R133, R134, R135). -/
def State.walkFrom (s : State) (start : Nat) : State :=
  match s.nonFactory.find? fun n => decide (start ≤ n) with
  | some n =>
    let s1 := s.walkOver start (n + 1)
    if s1.rj.canAppend then s1.withRj { s1.rj with walk := n, record := some ⟨n, s.imageOf n⟩ }
    else s1.overflow
  | none =>
    let s1 := s.walkOver start Config.subjects
    s1.withRj { s1.rj with writer := .compacting .finish, walk := Config.subjects, operation := some .mark }

/-! ## Starting a compaction (R132) -/

/-- A due compaction starts, judged against the live image count as it stands (R132). -/
def State.startCompaction (s : State) : State :=
  if Config.fullImages < s.rj.liveImages then s.enterFull
  else
    s.withRj { s.rj.beginErase with
      due := false
      writer := .compacting .erase
      walk := 0
      walkTaken := []
      heldReports := [] }

/-- A due compaction may start: the writer is IDLE, WRITING or FULL with nothing in progress (R132, R136). -/
def State.mayStartCompaction (s : State) : Bool :=
  s.operating && s.rj.due && s.rj.record.isNone && s.rj.operation.isNone && !s.rj.stopping &&
  match s.rj.writer with
  | .idle | .writing | .full => true
  | .compacting _ | .erasingOld | .held _ | .faulted => false

/-- COMPACTION_START (R132). -/
def execCompactionStart (s : State) : Host.Outcome State Fault Refusal :=
  .next (if s.mayStartCompaction then s.startCompaction.reconsider else s)

/-! ## Record writes (R130, R131, R134, R136) -/

/-- The writer takes the subject at the head of the owed list and begins a record write of its image (R130). -/
def State.takeHead (s : State) : State :=
  match s.rj.owed with
  | [] => s
  | n :: rest =>
    s.withRj { s.rj with
      owed := rest
      record := some ⟨n, s.imageOf n⟩
      writer := match s.rj.writer with
        | .idle | .writing | .held _ => .writing
        | .compacting step => .compacting step
        | .erasingOld => .erasingOld
        | .full => .full
        | .faulted => .faulted }

/-- The writer may take a subject: IDLE, WRITING or FULL with no compaction due, or draining in ERASING-OLD, and with an
erased slot in the active bank (R130, R132, R134, R136). -/
def State.mayTake (s : State) : Bool :=
  s.operating && s.rj.record.isNone && !s.rj.stopping && !s.rj.owed.isEmpty && s.rj.hasSlot &&
  match s.rj.writer with
  | .idle | .writing | .full => !s.rj.due
  | .erasingOld => true
  | .compacting _ | .held _ | .faulted => false

/-- RECORD_WRITE_START (R130). -/
def execRecordWriteStart (s : State) : Host.Outcome State Fault Refusal :=
  .next (if s.mayTake then s.takeHead else s)

/-- The writer is COMPACTING. -/
def Journal.compacting (j : Journal) : Bool :=
  match j.writer with
  | .compacting _ => true
  | .idle | .writing | .erasingOld | .held _ | .full | .faulted => false

/-- A compaction becomes due when a record write, verified or not, leaves the active bank's used count at 896 or more, unless
the writer is FULL or FAULTED (R131, R132); a snapshot's record goes into the new bank and makes none due. -/
def Journal.becomesDue (j : Journal) : Bool :=
  j.due || (decide (Config.dueUsed ≤ j.used) && !j.blocked && !j.compacting)

/-- The writer's state after a record write outside a snapshot (R130, R134, R136). -/
def Journal.afterWrite (j : Journal) : Writer :=
  match j.writer with
  | .idle | .writing => j.free
  | .compacting step => .compacting step
  | .erasingOld => .erasingOld
  | .held toFull => .held toFull
  | .full => .full
  | .faulted => .faulted

/-- A record write outside a snapshot is over (R130, R132, R136, R138, R139). A stop that waited for it is made before the
writer is judged unable to write, so that a FULL writer that used its last slot sets the unrecorded flag when it resumes:
the model's choice (log 42). -/
def State.endWrite (s : State) : State :=
  ((s.withRj { s.rj with due := s.rj.becomesDue, writer := s.rj.afterWrite }).stopIfDue.noteUnable).reconsider

/-- A record has been written: it is reported, or in a snapshot its report is held back and the walk goes on (R130, R133,
R139). -/
def State.recordWritten (s : State) (w : RecordWrite) : State :=
  if s.rj.compacting then
    let s1 := s.withRj { s.rj with heldReports := s.rj.heldReports ++ [w] }
    (if s1.rj.stopping then s1.holdCompaction else s1.walkFrom (s1.rj.walk + 1)).reconsider
  else (s.report w).endWrite

/-- A first failure in slot 1023: the subject is owed again and the bank is full; in a snapshot this is an overflow
(R131, R135), also where a LOW supply waits to stop the writer, which then is HELD and returns to FULL: the model's choice
between R135 and R139 (log 43). -/
def State.lastSlotFailed (s : State) (w : RecordWrite) : State :=
  let s1 := (s.withRj { s.rj with record := none }).owe w.subject
  if s1.rj.compacting then s1.overflow.stopIfDue.reconsider else s1.endWrite

/-- A second consecutive failure: FAULTED (R131, R137). -/
def State.secondFailure (s : State) (w : RecordWrite) : State :=
  (((s.withRj { s.rj with record := none }).endCompaction.owe w.subject).enterFaulted).reconsider

/-- A record write ends with a good or a failed verify: a first failure leaves a torn slot, which can make a compaction due,
and the same subject is written again (R130, R131, R132). -/
def State.recordEnd (s : State) (w : RecordWrite) (verified : Bool) : State :=
  if verified then
    let s1 := s.withRj { s.rj.useSlot (.complete w.subject w.image) with failures := 0, record := none }
    s1.recordWritten w
  else
    let s1 := s.withRj (s.rj.useSlot .torn)
    if s.rj.failures = 0 then
      let s2 := s1.withRj { s1.rj with failures := 1, due := s1.rj.becomesDue }
      if s2.rj.canAppend then s2 else s2.lastSlotFailed w
    else s1.secondFailure w

/-- RECORD_WRITE_END (R130, R131). -/
def execRecordWriteEnd (verified : Bool) (s : State) : Host.Outcome State Fault Refusal :=
  .next (if s.operating then
    match s.rj.record with
    | some w => s.recordEnd w verified
    | none => s
  else s)

/-! ## Erase, header and mark (R133, R134) -/

/-- The bank that is not active is left erased (R129). -/
def Journal.eraseDone (j : Journal) : Journal :=
  { j.setBank j.erasing Bank.erased with operation := none }

/-- The erase of step ERASE has left the new bank erased: its header write begins, or the compaction stops (R133, R139). -/
def State.newBankErased (s : State) : State :=
  let s1 := s.withRj s.rj.eraseDone
  if s1.rj.stopping then s1.holdCompaction else s1.withRj { s1.rj with operation := some .header }

/-- The old bank is erased and ERASING-OLD ends (R134, R139). A snapshot that used all 1024 slots of the new bank leaves the
drain none, and no drain write makes a compaction due: a subject still owed then leaves the writer WRITING with none due, and
it takes nothing until COMPACT makes one due: the model's choice (log 48). -/
def State.oldBankErased (s : State) : State :=
  let s1 := s.withRj s.rj.eraseDone
  if s1.rj.record.isSome then s1.withRj { s1.rj with writer := .writing }
  else if s1.rj.stopping then s1.stopIfDue
  else if s1.rj.due then s1.startCompaction.reconsider
  else s1.withRj { s1.rj with writer := s1.rj.free }

/-- A bank erase ends (R131, R133, R134). -/
def State.eraseEnd (s : State) (erased : Bool) : State :=
  if erased then if s.rj.compacting then s.newBankErased else s.oldBankErased
  else s.failOperation

/-- BANK_ERASE_END (R133, R134). -/
def execBankEraseEnd (erased : Bool) (s : State) : Host.Outcome State Fault Refusal :=
  .next (if s.operating && decide (s.rj.operation = some .erase) then s.eraseEnd erased else s)

/-- The new bank's header is written and the snapshot begins (R133). -/
def State.headerWritten (s : State) : State :=
  let j := { s.rj.setBank s.rj.newBank ⟨s.rj.nextGeneration, false, (s.rj.bank s.rj.newBank).slots⟩ with
    operation := none }
  let s1 := s.withRj j
  if s1.rj.stopping then s1.holdCompaction
  else ((s1.withRj { s1.rj with writer := .compacting .snapshot }).walkFrom 0).reconsider

/-- HEADER_WRITE_END (R133, R131). -/
def execHeaderWriteEnd (written : Bool) (s : State) : Host.Outcome State Fault Refusal :=
  .next (if s.operating && decide (s.rj.operation = some .header) then
    if written then s.headerWritten else s.failOperation
  else s)

/-- The writer after the complete mark: ERASING-OLD, or without an old bank free (R134). -/
def Journal.afterMark (j : Journal) (old : Option BankId) : Journal :=
  match old with
  | some _ => { j.beginErase with writer := .erasingOld }
  | none => { j with operation := none, writer := j.free }

/-- The complete mark is written: the new bank is active, the held reports are delivered in slot order, the unrecorded flag
is cleared, JOURNAL is raised with event COMPACTED, and the old bank's erase begins (R134). -/
def State.markWritten (s : State) : State :=
  let new := s.rj.newBank
  let old := s.rj.active
  let reports := s.rj.heldReports
  let s1 := s.withRj { s.rj.setBank new { s.rj.bank new with complete := true } with
    active := some new, heldReports := [], walkTaken := [], walk := 0, unrecorded := false }
  let s2 := (reports.foldl State.report s1).notify (.journal .compacted)
  ((s2.withRj (s2.rj.afterMark old)).stopIfDue).reconsider

/-- COMPLETE_MARK_WRITE_END (R134, R131). -/
def execCompleteMarkWriteEnd (written : Bool) (s : State) : Host.Outcome State Fault Refusal :=
  .next (if s.operating && decide (s.rj.operation = some .mark) then
    if written then s.markWritten else s.failOperation
  else s)

/-! ## Supply LOW and the resumption (R139) -/

/-- The supply has become LOW: the writer stops at the next safe point (R139). -/
def State.stopWriter (s : State) : State := (s.withRj { s.rj with stopping := true }).stopIfDue

/-- The writer is HELD. -/
def Journal.isHeld (j : Journal) : Bool :=
  match j.writer with
  | .held _ => true
  | .idle | .writing | .compacting _ | .erasingOld | .full | .faulted => false

/-- The writer resumes (R139). -/
def State.resume (s : State) : State :=
  match s.rj.writer with
  | .held true => (((s.withRj { s.rj with writer := .full }).bindRecordings).noteUnable).reconsider
  | .held false =>
    if s.rj.due then s.startCompaction.reconsider
    else if s.rj.hasSlot && !s.rj.owed.isEmpty then s.takeHead
    else s.withRj { s.rj with writer := s.rj.free }
  | .idle | .writing | .compacting _ | .erasingOld | .full | .faulted => s

/-- WRITER_RESUME (R139): the supply has been GOOD for 1 s without a break. -/
def execWriterResume (s : State) : Host.Outcome State Fault Refusal :=
  .next (if s.operating && s.rj.isHeld && decide (s.cm.supply = .good) then
    (s.reach (s.rj.goodSince + Config.steadyGood)).resume
  else s)

/-! ## Requests (R144, R145) -/

/-- What COMPACT does (R144). -/
def compactOp (body : List Byte) (s : State) : State × Answer :=
  s.emptyBody body fun s =>
    match s.rj.writer with
    | .idle | .writing | .full => (s.withRj { s.rj with due := true }, ⟨.accepted, []⟩)
    | .compacting _ | .erasingOld | .held _ => s.refuse .busy
    | .faulted => s.refuse .wrongState

/-- COMPACT (R144). -/
def execCompact (r : Request) (s : State) : Host.Outcome State Fault Refusal :=
  .next (s.request r 23 (compactOp r.body))

/-- The step of a COMPACTING writer (R145). -/
def Writer.step : Writer → Option CompactionStep
  | .compacting step => some step
  | .idle | .writing | .erasingOld | .held _ | .full | .faulted => none

/-- The state a HELD writer will return to: FULL, or what it would become if it resumed now, which for a due compaction with
more than 960 live images is FULL too. That R145 means this state is the model's choice (R132, R139, R145; log 21). -/
def Journal.returnsTo (j : Journal) : Option Writer :=
  match j.writer with
  | .held true => some .full
  | .held false =>
    some (if j.due then (if Config.fullImages < j.liveImages then .full else .compacting .erase) else j.free)
  | .idle | .writing | .compacting _ | .erasingOld | .full | .faulted => none

/-- The walk position during step SNAPSHOT (R145). -/
def Journal.walkPosition (j : Journal) : Option Nat :=
  match j.writer with
  | .compacting .snapshot => some j.walk
  | .compacting .erase | .compacting .finish => none
  | .idle | .writing | .erasingOld | .held _ | .full | .faulted => none

/-- The torn slots of the active bank (R145); 0 while the active bank is NONE, the model's choice (log 44). -/
def Journal.tornSlots (j : Journal) : Nat :=
  match j.active with
  | some i => (j.bank i).slots.countP fun x => decide (x = .torn)
  | none => 0

/-- The reply body of READ_JOURNAL (R145). -/
def Journal.fields (j : Journal) : List Byte :=
  byte1 j.writer.code ++ opt1 (j.writer.step.map CompactionStep.code) ++ opt1 (j.returnsTo.map Writer.code) ++
  flag j.due ++ byte1 (bankCode j.active) ++ opt3 (j.active.map fun i => (j.bank i).generation) ++
  byte2 j.used ++ byte2 j.tornSlots ++ opt2 j.walkPosition ++ byte2 j.liveImages ++
  byte2 j.owed.length ++ opt2 j.owed.head? ++ flag j.unrecorded ++ byte1 j.damaged

/-- What READ_JOURNAL does (R145). -/
def readJournalOp (body : List Byte) (s : State) : State × Answer :=
  s.emptyBody body fun s => s.answer s.rj.fields

/-- READ_JOURNAL (R145). -/
def execReadJournal (r : Request) (s : State) : Host.Outcome State Fault Refusal :=
  .next (s.request r 24 (readJournalOp r.body))

end Sys2Proof.Machine
end

