-- ==== Sys2Proof/Machine/Sense.lean ====
section
/-! DEFINITION. The Sense Unit (chapters 3 and 4): the gap arbiter, the survey, the end of a gap with its verdict or
reference result, and the requests START_SURVEY, STOP_SURVEY, READ_SENSE and CLEAR_BASELINES. -/

namespace Sys2Proof.Machine

/-! ## The survey (section 4.4) -/

/-- Changes the survey. -/
def State.setSurvey (s : State) (v : Option Survey) : State := s.withSu { s.su with survey := v }

/-- A measurement is no longer one of the running survey (R70). -/
def Measurement.leaveSurvey (m : Measurement) : Measurement := { m with surveyed := false }

/-- The survey ends with an outcome: SURVEY ENDED with the tallies as they stand, IDLE, and a measurement it granted is no
longer its own (R70). -/
def State.endSurvey (s : State) (outcome : SurveyOutcome) : State :=
  match s.su.survey with
  | none => s
  | some v =>
    (s.withSu { s.su with survey := none, inFlight := s.su.inFlight.map Measurement.leaveSurvey }).notify
      (.surveyEnded outcome v.done v.units v.bad)

/-- The cursor of a row (R66). -/
def Survey.cursor (v : Survey) (row : Nat) : Cursor := Table.read (fun _ => ⟨0, false⟩) v.cursors row

/-- The survey with a row's cursor changed. -/
def Survey.setCursor (v : Survey) (row : Nat) (c : Cursor) : Survey :=
  { v with cursors := Table.write (fun _ => ⟨0, false⟩) v.cursors row c }

/-- The wrapped marks of all 48 rows are set (R67). -/
def Survey.allWrapped (v : Survey) : Bool := (List.range Config.rows).all fun row => (v.cursor row).wrapped

/-- A row's wrapped mark is set; the last mark ends the pass, and the last pass the survey (R66, R67). -/
def State.wrapRow (s : State) (row : Nat) : State :=
  match s.su.survey with
  | none => s
  | some v =>
    let v1 := v.setCursor row ⟨0, true⟩
    if v1.allWrapped then
      let v2 := { v1 with done := v1.done + 1, cursors := [] }
      if v2.done = v2.requested then (s.setSurvey (some v2)).endSurvey .done
      else s.setSurvey (some v2)
    else s.setSurvey (some v1)

/-! ## The gap arbiter (section 4.1) -/

/-- The first number at or after `start`, among `count` numbers, that a test holds of. -/
def findFrom (test : Nat → Bool) : Nat → Nat → Option Nat
  | _, 0 => none
  | start, count + 1 => if test start then some start else findFrom test (start + 1) count

/-- The serving unit of a qualifying cell, with the channel of a die (R4, R62). -/
def RepairEngine.servingUnit (re : RepairEngine) (n : Nat) : Option (UnitId × Option Nat) :=
  match re.cell n with
  | .healthy => some (⟨.primary, n⟩, none)
  | .spared c => if re.die n = .good then some (⟨.spare, n⟩, some c) else none
  | .suspect | .condemned | .pendingSpare _ _ | .concealed _ => none

/-- A cell qualifies for routine measurement (R62). -/
def RepairEngine.qualifying (re : RepairEngine) (n : Nat) : Bool := (re.servingUnit n).isSome

/-- The first channel in PROVING, in proving order, whose cell lies in the row (R59). -/
def State.provingClaim (s : State) (row : Nat) : Option Proving :=
  s.re.provings.find? fun p => decide (p.phase = .proving) && decide (rowOf p.cell = row)

/-- The first entry with due 0 and no condemned mark whose unit lies in the row (R61). -/
def State.retestClaim (s : State) (row : Nat) : Option Entry :=
  s.re.suspects.find? fun e => decide (e.due = 0) && !s.condemnedMark e && decide (rowOf e.unit.cell = row)

/-- The channel a unit is pulsed through: none for a primary, the channel its cell names for a die (R40, R61). -/
def RepairEngine.pulseChannel (re : RepairEngine) (u : UnitId) : Option Nat :=
  match u.side with
  | .primary => none
  | .spare => (re.cell u.cell).channel

/-- The sweep's next cell: the first qualifying one at or after the cursor, wrapping (R62). -/
def State.sweepNext (s : State) : Option Nat :=
  (findFrom s.re.qualifying s.su.sweepCursor (Config.cells - s.su.sweepCursor)).or
    (findFrom s.re.qualifying 0 s.su.sweepCursor)

/-- The test pulse is given and the grant recorded as the measurement in flight (R40). -/
def State.grant (s : State) (index : Nat) (g : Grant) (surveyed wraps : Bool) : State :=
  s.withSu { s.su with inFlight := some ⟨g, index, s.pp.frame, s.cm.temp, false, false, surveyed, wraps⟩ }

/-- The survey's claim on a gap of a row: a grant, a search that wraps without one, or none (R66). -/
def State.surveyGap (s : State) (index row : Nat) (v : Survey) : State :=
  if (v.cursor row).wrapped then s
  else
    match findFrom (fun q => s.re.qualifying (row * 192 + q)) (v.cursor row).position (192 - (v.cursor row).position) with
    | none => s.wrapRow row
    | some q =>
      match s.re.servingUnit (row * 192 + q) with
      | none => s
      | some (u, channel) =>
        let wraps := decide (q + 1 = 192)
        ((s.setSurvey (some (v.setCursor row ⟨if wraps then 0 else q + 1, false⟩))).grant index
          (.unit u .survey channel) true wraps)

/-- The sweep's claim on a gap of a row (R63). -/
def State.sweepGap (s : State) (index row : Nat) : State :=
  match s.sweepNext with
  | none => s
  | some n =>
    if rowOf n = row ∧ s.su.sweepCount < s.setting Setting.sweepRate then
      match s.re.servingUnit n with
      | none => s
      | some (u, channel) =>
        (s.withSu { s.su with
            sweepCursor := (n + 1) % Config.cells
            sweepCount := s.su.sweepCount + 1 }).grant index (.unit u .sweep channel) false false
    else s

/-- The arbiter's choice in a gap with sense status OK (R58). -/
def State.arbitrate (s : State) (index row : Nat) : State :=
  if index = 0 then s.grant index .reference false false
  else
    match s.provingClaim row with
    | some p => s.grant index (.unit ⟨.spare, p.cell⟩ .proving (some p.channel)) false false
    | none =>
      match s.retestClaim row with
      | some e => s.grant index (.unit e.unit .retest (s.re.pulseChannel e.unit)) false false
      | none =>
        match s.su.survey with
        | some v => s.surveyGap index row v
        | none => s.sweepGap index row

/-- The next row gap opens: gap index g = p × 48 + r (R28), and the arbiter decides it by the frame's sense status (R58). -/
def State.openGap (s : State) : State :=
  let g := s.pp.nextGap
  let s1 := s.withPp { s.pp with nextGap := g + 1, gap := some ⟨g, s.pp.frame⟩ }
  match s.su.status with
  | .hold => s1
  | .faulted => if g = 0 then s1.grant g .reference false false else s1
  | .ok => s1.arbitrate g (g % Config.rows)

/-- A row gap may open: the scan engine runs without START-UP, no gap is open, and the frame has one left (R28, R29, R30). -/
def State.mayOpenGap (s : State) : Bool :=
  s.forwarding && !s.pp.startUp && s.pp.gap.isNone && decide (s.pp.nextGap < Config.gaps)

/-- ROW_GAP_OPEN (R58). -/
def execRowGapOpen (s : State) : Host.Outcome State Fault Refusal :=
  .next (if s.mayOpenGap then s.openGap else s)

/-! ## Compensation, classification, baselines (sections 3.2 to 3.4) -/

/-- The correction of a count, truncated toward zero (R43). A frame temperature is always there when a gap opens; without
one there is no correction (log 32). -/
def correction (temp : Option Int) (tempco : Nat) : Int :=
  match temp with
  | some t => Int.tdiv ((t - 30) * tempco) 16
  | none => 0

/-- The compensated count, clamped to 0..1023 (R43). -/
def compensated (raw : Nat) (temp : Option Int) (tempco : Nat) : Nat :=
  (max 0 (min 1023 ((raw : Int) - correction temp tempco))).toNat

/-- DRIFT LIMIT (R44). -/
def driftLimit (driftStep : Nat) : Nat := (driftStep + 1) * 6

/-- The distance of two counts (R44). -/
def distance (a b : Nat) : Nat := if a ≤ b then b - a else a - b

/-- Classification: the four tests in order (R44). -/
def State.classify (s : State) (raw comp : Nat) (baseline : Baseline) : VerdictClass :=
  if s.setting Setting.openLimit ≤ raw then .bad .openFault
  else if comp < s.setting Setting.shortFloor then .bad .shortFault
  else
    match baseline with
    | .set value => if driftLimit (s.setting Setting.driftStep) < distance comp value then .bad .driftFault else .good
    | .none | .learning _ _ => .good

/-- A baseline entry after a GOOD verdict (R46). -/
def Baseline.next (b : Baseline) (c : Nat) : Baseline :=
  match b with
  | .none => .learning 1 c
  | .learning n sum => if n < 3 then .learning (n + 1) (sum + c) else .set ((sum + c) / 4)
  | .set value => if value < c then .set (value + 1) else if c < value then .set (value - 1) else .set value

/-- A count that saturates at 65535 (R53). -/
def saturate (n : Nat) : Nat := min n 65535

/-- The sense statistics take a verdict (R53). -/
def SenseUnit.countVerdict (su : SenseUnit) (cls : VerdictClass) (comp : Nat) : SenseUnit :=
  match cls with
  | .good => { su with
      goodCount := saturate (su.goodCount + 1)
      goodMin := min su.goodMin comp
      goodMax := max su.goodMax comp }
  | .bad .openFault => { su with openCount := saturate (su.openCount + 1) }
  | .bad .shortFault => { su with shortCount := saturate (su.shortCount + 1) }
  | .bad .driftFault => { su with driftCount := saturate (su.driftCount + 1) }

/-- The baseline entry of a unit after a verdict (R46, R47). -/
def SenseUnit.learn (su : SenseUnit) (u : UnitId) (cls : VerdictClass) (comp : Nat) (drop : Bool) : SenseUnit :=
  match cls with
  | .good =>
    if drop then su
    else { su with baselines := Table.write (fun _ => Baseline.none) su.baselines u.key ((su.baseline u).next comp) }
  | .bad _ => su

/-- The survey tallies take a verdict of a grant the running survey made (R66). -/
def State.tallySurvey (s : State) (m : Measurement) (cls : VerdictClass) : State :=
  match s.su.survey with
  | some v =>
    if m.surveyed then
      let bad := match cls with
        | .good => 0
        | .bad _ => 1
      let s1 := s.setSurvey (some { v with units := v.units + 1, bad := v.bad + bad })
      if m.wraps then s1.wrapRow (m.index % Config.rows) else s1
    else s
  | none => s

/-- The raw settle count of a pulse: 1023 when the current has not regulated, and when the die was disconnected before it
had (R41). -/
def rawCount (ticks : Nat) (cut regulatedFirst : Bool) : Nat :=
  if cut && !regulatedFirst then 1023 else min ticks 1023

/-- The verdict of a measurement of a unit (R42 to R45). -/
def State.verdict (s : State) (m : Measurement) (u : UnitId) (purpose : Purpose) (channel : Option Nat) (raw : Nat) :
    Verdict :=
  let comp := compensated raw m.temp (s.setting Setting.tempco)
  ⟨u, purpose, s.classify raw comp (s.su.baseline u), raw, comp, m.frame, channel⟩

/-- The end of a gap granted to a unit: the verdict is formed, counted, learned from and handed over (R42). -/
def State.endUnitGap (s : State) (m : Measurement) (u : UnitId) (purpose : Purpose) (channel : Option Nat) (raw : Nat) :
    State :=
  let v := s.verdict m u purpose channel raw
  let s1 := s.withSu ((s.su.countVerdict v.cls v.compensated).learn u v.cls v.compensated m.dropUpdate)
  (s1.tallySurvey m v.cls).handVerdict v

/-! ## The reference check (section 3.5) -/

/-- A reference result is good (R49). -/
def State.referenceGood (s : State) (raw : Nat) : Bool :=
  decide (Config.refNominal ≤ raw + s.setting Setting.refTolerance) &&
    decide (raw ≤ Config.refNominal + s.setting Setting.refTolerance)

/-- The sense status after a move of the reference condition. A gap 0 that a frame start found open can end in a HOLD frame:
the condition then moves, and the frame keeps its HOLD, which lasts for the whole of it (R50, R51, R52; log 20). -/
def SenseStatus.moved : SenseStatus → SenseStatus → SenseStatus
  | .hold, _ => .hold
  | .ok, new => new
  | .faulted, new => new

/-- The reference runs, the condition and the status after a result (R50, R51, R52). -/
def State.referenceRuns (s : State) (good : Bool) : State :=
  match s.su.condition, good with
  | .sound, true => s.withSu { s.su with badRun := 0 }
  | .sound, false =>
    if s.su.badRun + 1 < 3 then s.withSu { s.su with badRun := s.su.badRun + 1 }
    else
      ((s.withSu { s.su with condition := .failed, status := s.su.status.moved .faulted, badRun := 0, goodRun := 0 }).notify
        (.senseFault true)).endSurvey .cut
  | .failed, false => s.withSu { s.su with goodRun := 0 }
  | .failed, true =>
    if s.su.goodRun + 1 < 3 then s.withSu { s.su with goodRun := s.su.goodRun + 1 }
    else
      (s.withSu { s.su with condition := .sound, status := s.su.status.moved .ok, badRun := 0, goodRun := 0 }).notify
        (.senseFault false)

/-- The latest eight results, oldest first (R49). -/
def latestEight (l : List RefResult) : List RefResult := l.drop (l.length - 8)

/-- The end of a gap granted to the reference check (R49). -/
def State.endReferenceGap (s : State) (raw : Nat) : State :=
  let good := s.referenceGood raw
  (s.withSu { s.su with history := latestEight (s.su.history ++ [⟨raw, good⟩]) }).referenceRuns good

/-- The open gap ends; a granted one yields its verdict or reference result (R28, R42). -/
def State.endGap (s : State) (ticks : Nat) (regulatedFirst : Bool) : State :=
  let s1 := (s.withPp { s.pp with gap := none }).withSu { s.su with inFlight := none }
  match s.su.inFlight with
  | none => s1
  | some m =>
    match m.grant with
    | .reference => s1.endReferenceGap (rawCount ticks false regulatedFirst)
    | .unit u purpose channel => s1.endUnitGap m u purpose channel (rawCount ticks m.cut regulatedFirst)

/-- ROW_GAP_END (R42). -/
def execRowGapEnd (ticks : Nat) (regulatedFirst : Bool) (s : State) : Host.Outcome State Fault Refusal :=
  .next (if s.pp.gap.isSome then s.endGap ticks regulatedFirst else s)

/-! ## Requests -/

/-- What START_SURVEY does (R65). -/
def startSurveyOp (body : List Byte) (s : State) : State × Answer :=
  match oneByte body with
  | none => s.refuse .malformed
  | some passes =>
    if passes < 1 ∨ 4 < passes then s.refuse .outOfRange
    else if s.su.survey.isSome then s.refuse .busy
    else if s.su.status ≠ .ok ∨ s.pp.showing.dark = false then s.refuse .wrongState
    else (s.setSurvey (some ⟨passes, 0, 0, 0, []⟩), ⟨.accepted, []⟩)

/-- START_SURVEY (R65). -/
def execStartSurvey (r : Request) (s : State) : Host.Outcome State Fault Refusal :=
  .next (s.request r 19 (startSurveyOp r.body))

/-- What STOP_SURVEY does (R69). -/
def stopSurveyOp (body : List Byte) (s : State) : State × Answer :=
  s.emptyBody body fun s =>
    if s.su.survey.isSome then ((s.endSurvey .stopped), ⟨.done, []⟩) else s.refuse .wrongState

/-- STOP_SURVEY (R69). -/
def execStopSurvey (r : Request) (s : State) : Host.Outcome State Fault Refusal :=
  .next (s.request r 20 (stopSurveyOp r.body))

/-- The baseline entries that are LEARNING, and that are SET (R54). -/
def SenseUnit.learningCount (su : SenseUnit) : Nat :=
  (su.baselines.filter fun e => match e.2 with | .learning _ _ => true | .none => false | .set _ => false).length
/-- The baseline entries that are SET (R54). -/
def SenseUnit.setCount (su : SenseUnit) : Nat :=
  (su.baselines.filter fun e => match e.2 with | .learning _ _ => false | .none => false | .set _ => true).length

/-- A reference result: its raw count in the ten lowest bits, the highest bit set for a good one (R156). That
the bits between are 0 is the model's choice (log 21). -/
def refBytes (x : RefResult) : List Byte := byte2 (x.raw + if x.good then 32768 else 0)

/-- The reply body of READ_SENSE (R54). That the passes done and requested are all ones while no survey runs is the model's
choice (log 21). -/
def State.senseReport (s : State) : List Byte :=
  byte1 s.su.status.code ++ byte1 s.su.condition.code ++ byte1 s.su.badRun ++ byte1 s.su.goodRun ++
  temperature s.cm.temp ++
  byte2 s.su.goodCount ++ byte2 s.su.openCount ++ byte2 s.su.shortCount ++ byte2 s.su.driftCount ++
  byte2 s.su.goodMin ++ byte2 s.su.goodMax ++
  byte1 s.su.history.length ++ s.su.history.flatMap refBytes ++
  byte2 (2 * Config.cells - s.su.learningCount - s.su.setCount) ++ byte2 s.su.learningCount ++ byte2 s.su.setCount ++
  byte1 (if s.su.survey.isSome then 1 else 0) ++
  opt1 (s.su.survey.map (·.done)) ++ opt1 (s.su.survey.map (·.requested)) ++
  byte2 s.su.sweepCursor

/-- The statistics return to their starting values (R53, R54). -/
def SenseUnit.clearStatistics (su : SenseUnit) : SenseUnit :=
  { su with goodCount := 0, openCount := 0, shortCount := 0, driftCount := 0, goodMin := 1023, goodMax := 0 }

/-- What READ_SENSE does (R54). -/
def readSenseOp (body : List Byte) (s : State) : State × Answer :=
  match oneByte body with
  | none => s.refuse .malformed
  | some 0 => s.answer s.senseReport
  | some 1 => (s.withSu s.su.clearStatistics, ⟨.done, s.senseReport⟩)
  | some _ => s.refuse .outOfRange

/-- READ_SENSE (R54). -/
def execReadSense (r : Request) (s : State) : Host.Outcome State Fault Refusal :=
  .next (s.request r 21 (readSenseOp r.body))

/-- A measurement of a unit in flight drops its baseline update (R48). -/
def Measurement.dropped (m : Measurement) : Measurement :=
  match m.grant with
  | .unit _ _ _ => { m with dropUpdate := true }
  | .reference => m

/-- What CLEAR_BASELINES does (R48). -/
def clearBaselinesOp (body : List Byte) (s : State) : State × Answer :=
  s.emptyBody body fun s =>
    (s.withSu { s.su with baselines := [], inFlight := s.su.inFlight.map Measurement.dropped }, ⟨.done, []⟩)

/-- CLEAR_BASELINES (R48). -/
def execClearBaselines (r : Request) (s : State) : Host.Outcome State Fault Refusal :=
  .next (s.request r 22 (clearBaselinesOp r.body))

end Sys2Proof.Machine
end

