-- ==== Sys2Proof/Machine/Frame.lean ====
section
/-! DEFINITION. Frame starts: what each block does at one (R26, R52, R60, R104, R147, R148, in the order of log 16), the reset
point of a RESET request (R153), and the events of the frame timer. -/

namespace Sys2Proof.Machine

/-! ## The Pixel Path at a frame start (R26, R31, R33, R35) -/

/-- A capture in progress is discarded: FILLING is emptied and the capture is CLOSED (R24). -/
def State.discardCapture (s : State) : State :=
  s.withPp { s.pp with captureOpen := false, filling := Buffer.empty, received := [] }

/-- The repeat count and the STALE cause of a frame that is shown again (R26). -/
def PixelPath.repeated (pp : PixelPath) : PixelPath :=
  let n := min (pp.repeats + 1) 255
  { pp with repeats := n, stale := pp.stale || decide (Config.staleRepeats ≤ n) }

/-- A complete FILLING becomes SHOWING (R26). -/
def PixelPath.swapped (pp : PixelPath) : PixelPath :=
  { pp with showing := pp.filling, repeats := 0, stale := false }

/-- The buffers swap or repeat, the frame counter rises, the frame timer restarts, the expected period is latched, and pass
0 begins (R25, R26, R28). -/
def State.newFrame (s : State) (complete : Bool) : State :=
  s.withPp { (if complete then s.pp.swapped else s.pp.repeated) with
    captureOpen := false
    filling := Buffer.empty
    received := []
    frame := s.pp.frame + 1
    frameStartAt := s.clk.now
    expected := s.expectedPeriod
    nextGap := 0 }

/-- The active routes with every pending route applied (R31). -/
def PixelPath.applyPending (pp : PixelPath) : Table Route :=
  pp.pendingRoutes.foldl (fun t e => match e.2 with
    | some r => Table.write (fun _ => Route.blank) t e.1 r
    | none => t) pp.active

/-- The pending route set is applied and emptied; at the first frame start after replay START-UP clears and every route is
set from its cell's state (R31, R35). -/
def State.applyRoutes (s : State) : State :=
  if s.operating && s.pp.startUp then
    s.withPp { s.pp with
      startUp := false
      active := Table.ofFunction (fun _ => Route.blank) Config.cells s.re.calledRoute
      pendingRoutes := [] }
  else s.withPp { s.pp with active := s.pp.applyPending, pendingRoutes := [] }

/-- The output scale is latched for the frame (R33). -/
def State.latchScale (s : State) : State :=
  s.withPp { s.pp with scaleBrightness := s.pp.showing.brightness, scaleDerate := s.cm.effectiveDerate }

/-! ## The Condition Monitor at a frame start (R147, R148) -/

/-- A sensor reading in thousandths of a degree, clamped to −40..+125 °C and rounded to a whole degree (R147); exactly half
way between two degrees the direction is a free value (log 8). -/
def roundDegrees (sensor : Int) : Int :=
  let m := max (-40000) (min 125000 sensor)
  if (m + 500) % 1000 = 0 ∧ Config.halfDegreeRoundsUp m = false then (m + 500) / 1000 - 1 else (m + 500) / 1000

/-- The thermal state after a sample, by the table of R147. -/
def Thermal.after (before : Thermal) (t warm hot : Int) : Thermal :=
  match before with
  | .normal => if hot ≤ t then .hot else if warm ≤ t then .warm else .normal
  | .warm => if hot ≤ t then .hot else if warm - 5 < t then .warm else .normal
  | .hot => if warm ≤ t then (if hot - 5 < t then .hot else .warm) else if warm - 5 < t then .warm else .normal

/-- The thermal state that the temperature calls for under the live limits (R147). -/
def State.thermalAfter (s : State) (t : Int) : Thermal :=
  s.cm.thermal.after t (s.setting Setting.warmLimit) (s.setting Setting.hotLimit)

/-- The end of a countdown started at WARM HOLD now (R148). -/
def State.warmHoldEnd (s : State) : Nat := s.clk.now + s.setting Setting.warmHold * Config.second

/-- The end of a countdown of 60 s started now (R148). -/
def State.hotEnd (s : State) : Nat := s.clk.now + Config.hotSeconds * Config.second

/-- The countdown after a change of thermal state (R148). -/
def State.countdownAfter (s : State) (new : Thermal) : Option Nat :=
  match s.cm.thermal, new with
  | .normal, .warm => some (s.cm.countdown.getD s.warmHoldEnd)
  | .normal, .hot | .warm, .hot => some (min (s.cm.countdown.getD s.hotEnd) s.hotEnd)
  | .hot, .warm => some s.warmHoldEnd
  | .hot, .normal | .warm, .normal => if s.cm.derate = .d100 then none else some s.warmHoldEnd
  | .normal, .normal | .warm, .warm | .hot, .hot => s.cm.countdown

/-- Thermal blank after a change of thermal state: cleared when HOT is left (R148). -/
def State.blankAfter (s : State) (new : Thermal) : Bool :=
  match s.cm.thermal, new with
  | .hot, .warm | .hot, .normal => false
  | .normal, _ => s.cm.blank
  | .warm, _ => s.cm.blank
  | .hot, .hot => s.cm.blank

/-- The Condition Monitor samples the temperature and sets its thermal state, with CONDITIONS when it changes (R147, R148,
R150). -/
def State.sample (s : State) (sensor : Int) : State :=
  let t := roundDegrees sensor
  let new := s.thermalAfter t
  let s1 := s.withCm { s.cm with
    temp := some t
    thermal := new
    countdown := s.countdownAfter new
    blank := s.blankAfter new }
  if new = s.cm.thermal then s1 else s1.notifyConditions

/-! ## The Sense Unit at a frame start (R52, R63, R68) -/

/-- The sense status of a frame by its temperature (R52). -/
def SenseUnit.statusAt (su : SenseUnit) (temp : Option Int) : SenseStatus :=
  match temp with
  | some t =>
    if t < -20 ∨ 75 < t then .hold
    else
      match su.condition with
      | .sound => .ok
      | .failed => .faulted
  | none =>
    match su.condition with
    | .sound => .ok
    | .failed => .faulted

/-- The Sense Unit's work at a frame start: its status, the sweep count, and the cut of a survey whose frame is not DARK or
is a HOLD frame (R52, R63, R68). -/
def State.senseFrame (s : State) : State :=
  let s1 := s.withSu { s.su with status := s.su.statusAt s.cm.temp, sweepCount := 0 }
  if s1.pp.showing.dark = false ∨ s1.su.status = .hold then s1.endSurvey .cut else s1

/-! ## The reset point (R153, R146) -/

/-- What becomes of a bank when a record write in progress is finished first: complete, or torn with the one retry if there
is a slot for it (R131, R146); whether each verifies is a free value (log 11). -/
def Bank.finishRecord (b : Bank) (w : RecordWrite) (retry : Bool) (free : Nat) : Bank :=
  if Config.finishVerifies free then b.append (.complete w.subject w.image)
  else
    let b1 := b.append .torn
    if retry && decide (b1.slots.length < Config.slots) then
      b1.append (if Config.finishVerifies (free + 1) then .complete w.subject w.image else .torn)
    else b1

/-- The banks after a record write in progress is finished (R146). -/
def Journal.finishRecord (j : Journal) (free : Nat) : Journal :=
  match j.record, j.writesTo with
  | some w, some i => j.setBank i ((j.bank i).finishRecord w (decide (j.failures = 0)) free)
  | some _, none => j
  | none, _ => j

/-- The banks after the writer's work on the new bank is finished at a reset point: a mark in progress leaves the new bank
complete; an erase or a header write has its effect where it verifies, a free value (R146, R153; log 11). -/
def Journal.finishOperation (j : Journal) (free : Nat) : Journal :=
  match j.operation with
  | some .erase => if Config.finishVerifies free then j.setBank j.newBank Bank.erased else j
  | some .header =>
    if Config.finishVerifies free then
      j.setBank j.newBank ⟨j.nextGeneration, false, (j.bank j.newBank).slots⟩
    else j
  | some .mark => j.setBank j.newBank { j.bank j.newBank with complete := true }
  | none => j

/-- A direction at a reset point: the frame in passage goes on (R153, R169; log 30). -/
def DirectionState.atResetPoint (d : DirectionState) : DirectionState :=
  { DirectionState.reset with inFrame := d.inFrame, sent := d.sent }

/-- The Pixel Path after a reset whose frame timer starts at `now` (R39). -/
def PixelPath.resetAt (now : Nat) (supply : Supply) : PixelPath :=
  { PixelPath.reset with
    frameStartAt := now
    scaleDerate := (ConditionMonitor.resetWith supply).effectiveDerate }

/-- The part with every block at its values after a reset: the banks, real time, the supply and the pin stay (R15, R39, R57,
R72, R87, R115, R125, R146, R154, R169, R175). That a row gap which a RESET point finds open ends with it is the model's choice
(log 50). -/
def State.resetBlocks (s : State) (phase : StartPhase) (bank0 bank1 : Bank) : State where
  pending := s.pending
  clk := { s.clk with phase := phase, reset := .none }
  live := []
  stored := []
  ci := ChainInterface.reset
  pp := PixelPath.resetAt s.clk.now s.cm.supply
  su := SenseUnit.reset
  re := RepairEngine.reset
  rj := { Journal.resetWith bank0 bank1 with goodSince := s.rj.goodSince }
  cm := ConditionMonitor.resetWith s.cm.supply
  nu := []

/-- The reset point of a RESET request: work in progress on the banks is finished, every block takes its values after a
RESET request, and start-up goes on from the bank scan (R153). -/
def State.resetPoint (s : State) : State :=
  let j := (s.rj.finishRecord s.clk.free).finishOperation (s.clk.free + 2)
  let s1 := s.resetBlocks .starting j.bank0 j.bank1
  (s1.withCi { ChainInterface.reset with
    forward := s.ci.forward.atResetPoint
    reverse := s.ci.reverse.atResetPoint }).withClk { s1.clk with free := s.clk.free + 3 }

/-! ## The frame start -/

/-- A frame start, with FILLING complete or not: the first one after a RESET's DONE reply has left is the reset point
(R153); at every other one each block does its work (R25, R26, log 16). -/
def State.frameStart (s : State) (sensor : Int) (complete : Bool) : State :=
  if s.clk.reset = .ready then s.resetPoint
  else ((((((s.newFrame complete).sample sensor).senseFrame).repairFrame).applyRoutes).latchScale)

/-- After the feed has changed between LIVE and not LIVE the timer's length is recomputed from the last frame start; an end
already past is a frame start at once (R25). -/
def State.settleTimer (s : State) (wasLive : Bool) (sensor : Int) : State :=
  if s.feedLive ≠ wasLive ∧ s.timerEnd < s.clk.now then s.frameStart sensor false else s

/-- The frame timer runs out (R25). -/
def State.timerExpiry (s : State) (sensor : Int) : State := (s.reach s.timerEnd).frameStart sensor false

/-- FRAME_TIMER_EXPIRY (R25). -/
def execFrameTimerExpiry (sensor : Int) (s : State) : Host.Outcome State Fault Refusal :=
  .next (if s.forwarding then s.timerExpiry sensor else s)

/-- STALE (R26): the frame timer's frame start at which the repeat count reaches 30. -/
def execStale (sensor : Int) (s : State) : Host.Outcome State Fault Refusal :=
  .next (if s.forwarding && decide (s.clk.reset ≠ .ready) && decide (s.pp.repeats + 1 = Config.staleRepeats) then
    s.timerExpiry sensor
  else s)

/-- PROVING_TIMEOUT (R104): the frame timer's frame start at which a proving's age reaches 120. -/
def execProvingTimeout (sensor : Int) (s : State) : Host.Outcome State Fault Refusal :=
  .next (if s.forwarding && decide (s.clk.reset ≠ .ready) &&
      s.re.provings.any (fun p => decide (p.age + 1 = Config.provingFrames)) then
    s.timerExpiry sensor
  else s)

/-- RESET_POINT (R153): the frame timer's frame start after a RESET's DONE reply has left. -/
def execResetPoint (s : State) : Host.Outcome State Fault Refusal :=
  .next (if s.forwarding && decide (s.clk.reset = .ready) then (s.reach s.timerEnd).resetPoint else s)

end Sys2Proof.Machine
end

