-- ==== Sys2Proof/Machine/Chain.lean ====
section
/-! DEFINITION. The panel chain and window capture: heads, lines, slots, tails and damaged records, the port monitors and
feed selection (chapter 10, sections 2.1 and 2.2). -/

namespace Sys2Proof.Machine

/-! ## Window capture (R19 to R23) -/

/-- The window of the live settings (R19, R20). -/
def State.liveWindow (s : State) : Window where
  originColumn := s.setting Setting.originColumn
  originRow := s.setting Setting.originRow
  columnDescending := decide (s.setting Setting.columnDirection = 1)
  rowDescending := decide (s.setting Setting.rowDirection = 1)

/-- The wall coordinate that tile coordinate `i` of `count` takes (R19). -/
def wallCoordinate (origin count : Nat) (descending : Bool) (i : Nat) : Nat :=
  if descending then origin + (count - 1 - i) else origin + i

/-- The tile coordinate, of `count`, that takes a wall coordinate (R19). -/
def tileCoordinate (origin count : Nat) (descending : Bool) (wall : Nat) : Option Nat :=
  if wall < origin ∨ origin + count ≤ wall then none
  else some (if descending then count - 1 - (wall - origin) else wall - origin)

/-- The wall column of a tile column (R19). -/
def Window.wallColumn (w : Window) (c : Nat) : Nat := wallCoordinate w.originColumn Config.columns w.columnDescending c
/-- The wall row of a tile row (R19). -/
def Window.wallRow (w : Window) (r : Nat) : Nat := wallCoordinate w.originRow Config.rows w.rowDescending r
/-- The tile column that takes a wall column (R19). -/
def Window.tileColumn (w : Window) (x : Nat) : Option Nat :=
  tileCoordinate w.originColumn Config.columns w.columnDescending x
/-- The tile row that takes a wall row (R19). -/
def Window.tileRow (w : Window) (y : Nat) : Option Nat :=
  tileCoordinate w.originRow Config.rows w.rowDescending y

/-- The number of a tile position in the received sets. -/
def siteAt (row column : Nat) : Nat := row * Config.columns + column

/-- The tile position has been received in the open capture (R22). -/
def PixelPath.got (pp : PixelPath) (site : Nat) : Bool := Table.read (fun _ => false) pp.received site

/-- A tile row is fully received (R23). -/
def PixelPath.rowReceived (pp : PixelPath) (row : Nat) : Bool :=
  decide (Config.wallSize ≤ pp.window.wallRow row) ||
    (List.range Config.columns).all fun c =>
      decide (Config.wallSize ≤ pp.window.wallColumn c) || pp.got (siteAt row c)

/-- FILLING is complete at a tail: the capture is OPEN, and the frame is DARK or all 48 rows are fully received (R23). -/
def PixelPath.complete (pp : PixelPath) : Bool :=
  pp.captureOpen && (pp.filling.dark || (List.range Config.rows).all pp.rowReceived)

/-- The pixel values of a site, its three cells written (R19). -/
def writePixel (t : Table Half) (row column : Nat) (p : Pixel) : Table Half :=
  let w := Table.write (fun _ => (0 : Half))
  w (w (w t (cellAt row column 0) p.red) (cellAt row column 1) p.green) (cellAt row column 2) p.blue

/-- One pixel of a LINE record at a wall column is taken into a tile row, if a tile column takes it (R22). -/
def PixelPath.takePixel (pp : PixelPath) (row x : Nat) (p : Pixel) : PixelPath :=
  match pp.window.tileColumn x with
  | none => pp
  | some c =>
    if x < Config.wallSize then
      { pp with
        filling := { pp.filling with pixels := writePixel pp.filling.pixels row c p }
        received := Table.write (fun _ => false) pp.received (siteAt row c) true }
    else pp

/-- The pixels of a LINE record from wall column `x` on, in order, so that a later one replaces an earlier one (R22). -/
def PixelPath.takePixels (pp : PixelPath) (row : Nat) : Nat → List Pixel → PixelPath
  | _, [] => pp
  | x, p :: rest => (pp.takePixel row x p).takePixels row (x + 1) rest

/-- A LINE record on the feed port is taken into FILLING (R22). -/
def PixelPath.takeLine (pp : PixelPath) (r : LineRecord) : PixelPath :=
  if pp.captureOpen && !pp.filling.dark && decide (r.wallRow < Config.wallSize) then
    match pp.window.tileRow r.wallRow with
    | some row => pp.takePixels row r.firstColumn r.pixels
    | none => pp
  else pp

/-- LINE (R22, R155). -/
def execLine (lane : Port) (r : LineRecord) (s : State) : Host.Outcome State Fault Refusal :=
  .next (if s.forwarding then
    let s1 := s.send lane (LineRecord.bytes r)
    if LineRecord.inRange r && decide (s.ci.feed = some lane) then s1.withPp (s1.pp.takeLine r) else s1
  else s)

/-! ## The forwarders (R157 to R159) -/

/-- A head as it is sent on: its hop count raised by 1, saturating at 255 (R157). -/
def forwardedHead (r : HeadRecord) : HeadRecord := { r with hopCount := BitVec.ofNat 8 (min (r.hopCount.toNat + 1) 255) }

/-- The forwarder sets the hop position and sends the head on; the request decoder of the lane opens a new frame (R157,
R163). -/
def State.forwardHead (s : State) (lane : Port) (r : HeadRecord) : State :=
  s.setDirection lane { s.ci.direction lane with
    hop := some (min (r.hopCount.toNat + 1) 255)
    considered := 0
    inFrame := true
    sent := HeadRecord.bytes (forwardedHead r) }

/-- The code of a direction in a REPLY SLOT: 0 FORWARD, 1 REVERSE (R156). -/
def directionCode (lane : Port) : Byte := BitVec.ofNat 8 (portCode lane)

/-- A reply in a slot of its direction (R158, R164); `left` is how many replies are left in the queue. The source hop of a
reply that is placed while the hop position is unknown is 0: the model's choice (log 46). -/
def State.filledSlot (s : State) (lane : Port) (reply : Reply) (left : Nat) : SlotRecord where
  state := 1
  sourceId := BitVec.ofNat 16 (s.setting Setting.tileId)
  sourceHop := BitVec.ofNat 8 ((s.ci.direction lane).hop.getD 0)
  sourceDirection := directionCode lane
  tag := reply.tag
  kind := reply.kind
  status := reply.status
  flags := s.replyFlags lane
  queued := BitVec.ofNat 8 left
  takenFrame := reply.takenFrame
  bodyLength := BitVec.ofNat 8 reply.body.length
  bodyArea := (reply.body ++ List.replicate 48 0#8).take 48

/-- The DONE reply of a RESET (R153). -/
def Reply.isResetDone (r : Reply) : Bool := decide (r.kind = 5) && decide (r.status = Status.done.code)

/-- A pending RESET whose DONE reply has left the tile becomes due at the next frame start (R153). -/
def State.noteResetReply (s : State) (lane : Port) (reply : Reply) : State :=
  if s.clk.reset = .waiting lane ∧ reply.isResetDone = true then s.withClk { s.clk with reset := .ready } else s

/-- The oldest reply leaves in a slot, and the direction's replies-lost flag is cleared (R158). -/
def State.placeReply (s : State) (lane : Port) (reply : Reply) (rest : List Reply) : State :=
  (s.setDirection lane { s.ci.direction lane with
    queue := rest
    repliesLost := false
    sent := SlotRecord.bytes (s.filledSlot lane reply rest.length) }).noteResetReply lane reply

/-- REPLY_SLOT (R158): a slot that reached the tile EMPTY takes the oldest reply; every other slot passes unchanged. -/
def execReplySlot (lane : Port) (r : SlotRecord) (s : State) : Host.Outcome State Fault Refusal :=
  .next (if s.forwarding then
    match (s.ci.direction lane).queue with
    | reply :: rest =>
      if SlotRecord.inRange r && decide (r.state = 0) then s.placeReply lane reply rest
      else s.send lane (SlotRecord.bytes r)
    | [] => s.send lane (SlotRecord.bytes r)
  else s)

/-- A tail as it is sent on: while attention is set its count is raised by 1, saturating at 255, and an ID of 0 becomes the
TILE ID, which changes nothing while the TILE ID is 0 (R159). -/
def State.markedTail (s : State) (r : TailRecord) : TailRecord :=
  if s.attention then
    { attentionCount := BitVec.ofNat 8 (min (r.attentionCount.toNat + 1) 255)
      firstAttentionId :=
        if r.firstAttentionId = 0 then BitVec.ofNat 16 (s.setting Setting.tileId) else r.firstAttentionId }
  else r

/-- The forwarder sends the tail on, and the request decoder's frame ends (R159, R163). -/
def State.forwardTail (s : State) (lane : Port) (r : TailRecord) : State :=
  s.setDirection lane { s.ci.direction lane with inFrame := false, sent := TailRecord.bytes (s.markedTail r) }

/-- The capture becomes CLOSED (R23). -/
def State.closeCapture (s : State) : State := s.withPp { s.pp with captureOpen := false }

/-- A tail on the feed port closes the capture and, while the port is LIVE, is a frame start (R23, R25). -/
def State.tailOnFeed (s : State) (sensor : Int) : State :=
  if s.feedLive then s.closeCapture.frameStart sensor s.pp.complete else s.closeCapture

/-- A tail arrives on an inbound lane (R159, R23, R25). -/
def State.tailArrives (s : State) (lane : Port) (r : TailRecord) (sensor : Int) : State :=
  let s1 := s.forwardTail lane r
  if s1.ci.feed = some lane then s1.tailOnFeed sensor else s1

/-- FRAME_TAIL (R159). -/
def execFrameTail (lane : Port) (r : TailRecord) (m : Moment) (s : State) : Host.Outcome State Fault Refusal :=
  .next (if s.forwarding then (s.tick m.elapsed).tailArrives lane r m.sensor else s.tick m.elapsed)

/-- A record with a bad check voids the interval between the heads around it (R160). -/
def State.voidInterval (s : State) (lane : Port) : State := s.setPort lane { s.ci.port lane with voided := true }

/-- RECORD_BAD_CHECK (R155, R156, R160): forwarded as received. -/
def execRecordBadCheck (lane : Port) (bytes : List Byte) (s : State) : Host.Outcome State Fault Refusal :=
  .next (if s.forwarding && !goodRecord bytes then
    let s1 := s.send lane bytes
    if goodCheck bytes then s1 else s1.voidInterval lane
  else s)

/-! ## Port monitors (R160) -/

/-- The period that a head ends, if it ends one (R160). -/
def PortMonitor.measured (m : PortMonitor) (now : Nat) : Option Nat :=
  if m.live && !m.voided then some (now - m.lastHead) else none

/-- Two periods differ by more than the tolerance (R160). -/
def cadenceDiffers (old new tolerance : Nat) : Bool := decide (old + tolerance < new) || decide (new + tolerance < old)

/-- The monitor with a good head: LIVE, with the period the head ends in its history, if it ends one (R160). -/
def PortMonitor.hear (m : PortMonitor) (now : Nat) : PortMonitor :=
  { m with live := true, history := (m.measured now).or m.history, lastHead := now, voided := false }

/-- A cadence change: the mark is set and CADENCE CHANGE raised (R160). -/
def State.noteCadence (s : State) (lane : Port) (old new : Nat) : State :=
  if cadenceDiffers old new (s.setting Setting.cadenceTolerance) then
    (s.setPort lane { s.ci.port lane with mark := true }).notify (.cadenceChange lane old new)
  else s

/-- The port's monitor takes a good head (R160). -/
def State.monitorHead (s : State) (lane : Port) : State :=
  let m := s.ci.port lane
  let s1 := s.setPort lane (m.hear s.clk.now)
  match m.history, m.measured s.clk.now with
  | some old, some new => s1.noteCadence lane old new
  | none, _ => s1
  | some _, none => s1

/-! ## Feed selection (R161, R162) -/

/-- The feed port changes: FEED CHANGED is raised but for the first change from NONE after a reset, the Pixel Path discards
a capture in progress, the return count becomes 0 and no switch is pending (R161, R162, R24). -/
def State.changeFeed (s : State) (new : Option Port) (cause : FeedCause) : State :=
  let first := s.ci.feed.isNone && !s.ci.leftNone
  let s1 := s.discardCapture.withCi { s.ci with
    feed := new
    pendingSwitch := none
    returnCount := 0
    leftNone := s.ci.leftNone || s.ci.feed.isNone }
  if first then s1 else s1.notify (.feedChanged new cause)

/-- The feed leaves NONE (R161); the cause that FEED CHANGED carries is a free value (log 9). -/
def State.leaveNone (s : State) (lane : Port) : State :=
  let s1 := s.withClk { s.clk with free := s.clk.free + 1 }
  s1.changeFeed (some lane) (if Config.leavingNoneIsReturn s.clk.free then .feedReturn else .loss)

/-- The return count runs: RETURN TO PREFERRED is ON, no switch is pending, and the feed is the other port (R162). -/
def State.returnRuns (s : State) (lane : Port) : Bool :=
  decide (s.setting Setting.returnToPreferred = 1) && s.ci.pendingSwitch.isNone && decide (lane = s.preferredPort) &&
    decide (s.ci.feed = some (otherPort lane))

/-- The return count counts a good head; at 120 the preferred port is the feed (R162). -/
def State.countReturn (s : State) (lane : Port) : State :=
  if s.ci.returnCount + 1 < Config.returnHeads then s.withCi { s.ci with returnCount := s.ci.returnCount + 1 }
  else s.changeFeed (some lane) .feedReturn

/-- Feed selection takes a good head (R161, R162). -/
def State.selectOnHead (s : State) (lane : Port) : State :=
  match s.ci.feed, s.ci.pendingSwitch with
  | none, _ => s.leaveNone lane
  | some _, some p => if p = lane then s.changeFeed (some lane) .loss else s.withCi { s.ci with pendingSwitch := none }
  | some _, none => if s.returnRuns lane then s.countReturn lane else s

/-- A good head on the feed port opens a capture (R20, R21). -/
def State.openCapture (s : State) (r : HeadRecord) : State :=
  s.withPp { s.pp with
    captureOpen := true
    window := s.liveWindow
    filling := ⟨[], r.flags.getLsbD 0, r.brightness, r.frameNumber⟩
    received := [] }

/-- A head arrives on an inbound lane: forwarder, decoder, monitor, feed selection, the frame timer, and the capture (R157,
R160 to R163, R21, R25; log 17). -/
def State.headArrives (s : State) (lane : Port) (r : HeadRecord) (sensor : Int) : State :=
  let s1 := (((s.forwardHead lane r).monitorHead lane).selectOnHead lane).settleTimer s.feedLive sensor
  if s1.ci.feed = some lane then s1.openCapture r else s1

/-- FRAME_HEAD (R157). -/
def execFrameHead (lane : Port) (r : HeadRecord) (m : Moment) (s : State) : Host.Outcome State Fault Refusal :=
  .next (if s.forwarding then (s.tick m.elapsed).headArrives lane r m.sensor else s.tick m.elapsed)

/-- The next good head on the preferred port takes the return count to 120 (R162). -/
def State.mayReturn (s : State) : Bool :=
  s.forwarding && s.returnRuns s.preferredPort && decide (s.ci.returnCount + 1 = Config.returnHeads)

/-- FEED_RETURN (R162): that head arrives. -/
def execFeedReturn (r : HeadRecord) (m : Moment) (s : State) : Host.Outcome State Fault Refusal :=
  .next (if s.mayReturn then (s.tick m.elapsed).headArrives s.preferredPort r m.sensor else s.tick m.elapsed)

/-- A port has gone ABSENT: feed selection and the return count (R161, R162, R24). -/
def State.selectOnLoss (s : State) (lane : Port) : State :=
  let s1 := if lane = s.preferredPort then s.withCi { s.ci with returnCount := 0 } else s
  if s.ci.feed = some lane then
    if (s.ci.port (otherPort lane)).live then
      s1.discardCapture.withCi { s1.ci with pendingSwitch := some (otherPort lane), returnCount := 0 }
    else s1.changeFeed none .loss
  else if s.ci.pendingSwitch = some lane then s1.changeFeed none .loss
  else s1

/-- The loss of a port: 100 ms without a good head (R160). -/
def State.losePort (s : State) (lane : Port) (sensor : Int) : State :=
  let s1 := s.reach ((s.ci.port lane).lastHead + Config.portLoss)
  ((s1.setPort lane { s1.ci.port lane with live := false, history := none }).selectOnLoss lane).settleTimer s.feedLive
    sensor

/-- PORT_LOSS_WATCHDOG (R160). -/
def execPortLossWatchdog (lane : Port) (sensor : Int) (s : State) : Host.Outcome State Fault Refusal :=
  .next (if s.forwarding && (s.ci.port lane).live then s.losePort lane sensor else s)

end Sys2Proof.Machine
end

