-- ==== Sys2Proof/Machine/ChainRequests.lean ====
section
/-! DEFINITION. The requests of the Chain Interface (R164 to R168) and RESET (R153). -/

namespace Sys2Proof.Machine

/-- UNKNOWN_KIND (R164): a request whose kind is none of the 27. -/
def execUnknownKind (r : Request) (kind : Byte) (s : State) : Host.Outcome State Fault Refusal :=
  .next (if knownKind kind then s else s.request r kind fun s => s.refuse .unknownKind)

/-! ## IDENTIFY (R165) -/

/-- The revision letter C (R165). -/
def revisionLetter : Byte := 0x43#8

/-- The journal summary of IDENTIFY, absent while STARTING (R165). -/
def State.journalSummary (s : State) : List Byte :=
  if s.operating then
    byte1 s.rj.writer.code ++ byte1 (bankCode s.rj.active) ++ byte2 s.rj.liveImages ++ flag s.rj.unrecorded
  else opt1 none ++ opt1 none ++ opt2 none ++ opt1 none

/-- The reply body of IDENTIFY (R165). -/
def State.identity (s : State) : List Byte :=
  byte2 6448 ++ [revisionLetter] ++ byte1 (if s.operating then 1 else 0) ++ byte2 (s.setting Setting.tileId) ++
  byte1 (s.ci.forward.hop.getD 0) ++ byte1 (s.ci.reverse.hop.getD 0) ++ byte1 (feedCode s.ci.feed) ++ s.journalSummary

/-- What IDENTIFY does (R165). -/
def identifyOp (body : List Byte) (s : State) : State × Answer := s.emptyBody body fun s => s.answer s.identity

/-- IDENTIFY (R165). -/
def execIdentify (r : Request) (s : State) : Host.Outcome State Fault Refusal :=
  .next (s.request r 1 (identifyOp r.body))

/-! ## Changing a setting (R143) -/

/-- The live value of a setting changes. -/
def State.setLive (s : State) (n v : Nat) : State :=
  { s with live := Table.write Config.settingDefault s.live n v }

/-- The stored value of a setting changes, and its subject is owed if the value is another (R143). -/
def State.setStored (s : State) (n v : Nat) : State :=
  ({ s with stored := Table.write Config.settingDefault s.stored n v } : State).imageChanged (settingSubject n)
    (.value (s.storedSetting n)) (.value v)

/-- A setting takes a value, with the persist flag its stored value too (R143). -/
def State.changeSetting (s : State) (n v : Nat) (persist : Bool) : State :=
  let s1 := s.setLive n v
  if persist then s1.setStored n v else s1

/-! ## ASSIGN_ID (R166) -/

/-- What ASSIGN_ID does (R166). -/
def assignIdOp (body : List Byte) (s : State) : State × Answer :=
  match oneNumber body with
  | none => s.refuse .malformed
  | some v =>
    if v = 0 ∨ 4094 < v then s.refuse .outOfRange
    else (s.changeSetting Setting.tileId v true, ⟨.done, []⟩)

/-- ASSIGN_ID (R166). -/
def execAssignId (r : Request) (s : State) : Host.Outcome State Fault Refusal :=
  .next (s.request r 2 (assignIdOp r.body))

/-! ## SET (R167) -/

/-- The values of WARM LIMIT and HOT LIMIT go together: HOT LIMIT is at least WARM LIMIT + 5 (R150, R167). -/
def limitsAgree (n v warm hot : Nat) : Bool :=
  if n = Setting.warmLimit then decide (v + 5 ≤ hot)
  else if n = Setting.hotLimit then decide (warm + 5 ≤ v)
  else true

/-- The value check of SET (R167). -/
def State.mayTakeValue (s : State) (n v : Nat) (persist : Bool) : Bool :=
  Config.settingInRange n v &&
  limitsAgree n v (s.setting Setting.warmLimit) (s.setting Setting.hotLimit) &&
  (!persist || limitsAgree n v (s.storedSetting Setting.warmLimit) (s.storedSetting Setting.hotLimit))

/-- The lines of one kind in ascending number (R118). -/
def cLines : List Nat := List.range 192
/-- The R-lines in ascending number (R118). -/
def rLines : List Nat := (List.range 48).map (192 + ·)

/-- What a new live value does to the block that owns the setting; `old` is the value before (R82, R84, R114, R118, R162).
The settings that are not named act when they are next read. -/
def State.settingEffect (s : State) (n old v : Nat) : State :=
  if n = Setting.confirmThreshold then (s.newThreshold old v).reconsider
  else if n = Setting.cLineLimit then if v < old then (s.newLimit cLines).reconsider else s
  else if n = Setting.rLineLimit then if v < old then (s.newLimit rLines).reconsider else s
  else if n = Setting.openPolicy ∨ n = Setting.shortPolicy ∨ n = Setting.driftPolicy then s.reconsider
  else if n = Setting.preferredPort ∨ n = Setting.returnToPreferred then s.withCi { s.ci with returnCount := 0 }
  else s

/-- What SET does: the four checks of R167 in order, then the change and its effect. A persist flag that is neither 0 nor 1
is refused with OUT-OF-RANGE (log 22). -/
def setOp (body : List Byte) (s : State) : State × Answer :=
  match settingBody body with
  | none => s.refuse .malformed
  | some (n, v, persist) =>
    if Config.settings ≤ n then s.refuse .outOfRange
    else if n = Setting.tileId then s.refuse .notPermitted
    else if !s.mayTakeValue n v (decide (persist = 1)) || decide (1 < persist) then s.refuse .outOfRange
    else
      let s1 := (s.changeSetting n v (decide (persist = 1))).settingEffect n (s.setting n) v
      (s1, ⟨.done, byte2 (s1.setting n) ++ byte2 (s1.storedSetting n)⟩)

/-- A new FREE-RUN PERIOD recomputes the frame timer of a tile whose feed is not LIVE, and an end already past is a frame
start at once (R38). `before` is the state the SET found. -/
def State.settleFreeRun (s before : State) (sensor : Int) : State :=
  if s.freeRun ≠ before.freeRun ∧ s.feedLive = false ∧ s.timerEnd < s.clk.now then s.frameStart sensor false else s

/-- SET (R167). -/
def execSet (r : Request) (m : Moment) (s : State) : Host.Outcome State Fault Refusal :=
  .next (((s.tick m.elapsed).request r 3 (setOp r.body)).settleFreeRun s m.sensor)

/-! ## GET (R167) -/

/-- The live and stored values of consecutive settings (R167). -/
def State.settingValues (s : State) (first count : Nat) : List Byte :=
  (List.range count).flatMap fun i => byte2 (s.setting (first + i)) ++ byte2 (s.storedSetting (first + i))

/-- What GET does (R167). -/
def getOp (body : List Byte) (s : State) : State × Answer :=
  match twoBytes body with
  | none => s.refuse .malformed
  | some (first, count) =>
    if Config.settings ≤ first ∨ count < 1 ∨ 10 < count ∨ Config.settings < first + count then s.refuse .outOfRange
    else s.answer (s.settingValues first count)

/-- GET (R167). -/
def execGet (r : Request) (s : State) : Host.Outcome State Fault Refusal :=
  .next (s.request r 4 (getOp r.body))

/-! ## RESET (R153) -/

/-- The pending RESET that a request makes: a request in ALL mode has no reply to wait for (R153, R164). -/
def Request.resets (r : Request) : PendingReset := if Request.toAll r then .ready else .waiting r.lane

/-- What RESET does (R153). -/
def resetOp (r : Request) (s : State) : State × Answer :=
  s.emptyBody r.body fun s =>
    if s.clk.reset ≠ .none then s.refuse .busy
    else (s.withClk { s.clk with reset := Request.resets r }, ⟨.done, []⟩)

/-- RESET (R153). -/
def execReset (r : Request) (s : State) : Host.Outcome State Fault Refusal :=
  .next (s.request r 5 (resetOp r))

/-! ## READ_FEED (R168) -/

/-- A period in microseconds as tenths of a millisecond (R156); one between two tenths is rounded either way (log 10). -/
def tenths (period : Nat) : Nat :=
  if period % 100 = 0 then period / 100
  else if Config.tenthRoundsUp period then period / 100 + 1 else period / 100

/-- One port in READ_FEED: state, latest measured period, mark (R168). -/
def PortMonitor.fields (m : PortMonitor) : List Byte :=
  byte1 (if m.live then 1 else 0) ++ opt3 m.history ++ flag m.mark

/-- The reply body of READ_FEED (R168). RETURN TO PREFERRED is coded as R167 codes a switch, in one byte, and a pending switch
that is none is all ones: the model's choices (log 45, 21). -/
def State.feedReport (s : State) : List Byte :=
  byte1 (feedCode s.ci.feed) ++ opt1 (s.ci.pendingSwitch.map portCode) ++ byte1 (portCode s.preferredPort) ++
  byte1 (s.setting Setting.returnToPreferred) ++ byte1 s.ci.returnCount ++
  s.ci.portA.fields ++ s.ci.portB.fields ++
  byte1 (if s.pp.captureOpen then 1 else 0) ++ byte1 s.pp.repeats ++ half s.pp.frame ++ byte2 (tenths s.pp.expected) ++
  byte1 (nameSet s.blankCauses) ++ flag s.pp.showing.dark ++ [s.pp.showing.brightness] ++ half s.pp.showing.headFrame

/-- What READ_FEED does (R168). -/
def readFeedOp (body : List Byte) (s : State) : State × Answer := s.emptyBody body fun s => s.answer s.feedReport

/-- READ_FEED (R168). -/
def execReadFeed (r : Request) (s : State) : Host.Outcome State Fault Refusal :=
  .next (s.request r 27 (readFeedOp r.body))

end Sys2Proof.Machine
end

