-- ==== Sys2Proof/Machine/Replay.lean ====
section
/-! DEFINITION. The end of start-up: bank scan, replay, reconciliation, and the form the writer takes (R140 to R142, R146). -/

namespace Sys2Proof.Machine

/-! ## The bank scan (R140) -/

/-- One generation is one above another, wrapping (R140). -/
def follows (later earlier : Nat) : Bool := decide (later = (earlier + 1) % Config.generations)

/-- The generations of the two banks are not consecutive (R140). -/
def Journal.conflict (j : Journal) : Bool :=
  j.bank0.complete && j.bank1.complete &&
    !follows j.bank1.generation j.bank0.generation && !follows j.bank0.generation j.bank1.generation

/-- The active bank that the headers choose (R140). -/
def Journal.scan (j : Journal) : Option BankId :=
  match j.bank0.complete, j.bank1.complete with
  | false, false => none
  | true, false => some .zero
  | false, true => some .one
  | true, true =>
    if follows j.bank1.generation j.bank0.generation then some .one
    else if follows j.bank0.generation j.bank1.generation then some .zero
    else if j.bank0.generation < j.bank1.generation then some .one else some .zero

/-- The bank scan: the active bank, and FRESH or BANK CONFLICT (R140). -/
def State.bankScan (s : State) : State :=
  let s1 := s.withRj { s.rj with active := s.rj.scan }
  if s.rj.scan = none then s1.notify (.journal .fresh)
  else if s.rj.conflict then s1.notify (.journal .bankConflict)
  else s1

/-! ## Replay (R141) -/

/-- The images that a replay has set, each with the number of the slot that set it. -/
abbrev Replayed := Table (Image × Nat)

/-- An image that a record of a subject can hold (R141; for the kinds of image, log 25). -/
def imageFits (subject : Nat) (image : Image) : Bool :=
  if subject < 9216 then
    match image with
    | .healthy => true
    | .spared c => decide (c < Config.channels) && decide (groupOfChannel c = groupOf subject)
    | .concealed .line => false
    | .concealed _ => true
    | .usable | .dead | .free | .failed | .normal | .held | .value _ => false
  else if subject < 18432 then decide (image = .usable ∨ image = .dead)
  else if subject < 19200 then decide (image = .free ∨ image = .failed)
  else if subject < 19440 then decide (image = .normal ∨ image = .held)
  else if subject < Config.subjects then
    match image with
    | .value v => Config.settingInRange (subject - 19440) v
    | .healthy | .spared _ | .concealed _ | .usable | .dead | .free | .failed | .normal | .held => false
  else false

/-- One slot is applied: a complete one sets its subject's image; a damaged one, one whose content cannot be an image of its
subject, and a torn one are skipped (R129, R141). -/
def Replayed.apply (r : Replayed) (x : Slot) (slot : Nat) : Replayed :=
  match x with
  | .marked subject image check =>
    if check = recordCheck subject image ∧ imageFits subject image = true then
      Table.write (fun n => (factoryImage n, 0)) r subject (image, slot)
    else r
  | .torn => r

/-- The slots are applied in order from a slot number on (R141). -/
def Replayed.applyAll (r : Replayed) : Nat → List Slot → Replayed
  | _, [] => r
  | slot, x :: rest => (Replayed.apply r x slot).applyAll (slot + 1) rest

/-- A slot that raises DAMAGED RECORD: damaged, or complete with content that cannot be an image of its subject (R141). -/
def Slot.unusable (x : Slot) : Bool :=
  match x with
  | .marked subject image _ => x.isDamaged || !imageFits subject image
  | .torn => false

/-- The slots of the active bank. -/
def Journal.activeSlots (j : Journal) : List Slot :=
  match j.active with
  | some i => (j.bank i).slots
  | none => []

/-- The replay of the active bank (R141). -/
def Journal.replay (j : Journal) : Replayed := Replayed.applyAll [] 0 j.activeSlots

/-- The DAMAGED RECORD occurrences of a replay, and their count (R141). -/
def State.noteDamaged (s : State) : State :=
  let n := s.rj.activeSlots.countP Slot.unusable
  Nat.repeat (fun t => t.notify (.journal .damagedRecord)) n (s.withRj { s.rj with damaged := min n 255 })

/-- The image in force of a subject (R141). -/
def Replayed.image (r : Replayed) (n : Nat) : Image := (Table.read (fun k => (factoryImage k, 0)) r n).1

/-- The slot of the record in force. -/
def Replayed.slot (r : Replayed) (n : Nat) : Nat := (Table.read (fun k => (factoryImage k, 0)) r n).2

/-- The subjects of one kind that the replay has set, numbered from that kind's first subject. -/
def Replayed.numbers (r : Replayed) (first count : Nat) : List Nat :=
  (r.filter fun e => decide (first ≤ e.1) && decide (e.1 < first + count)).map fun e => e.1 - first

/-! ## Settings (R141) -/

/-- The replayed value of a setting, before the check of the thermal limits. -/
def Replayed.value (r : Replayed) (n : Nat) : Nat :=
  match Replayed.image r (settingSubject n) with
  | .value v => v
  | .healthy | .spared _ | .concealed _ | .usable | .dead | .free | .failed | .normal | .held => Config.settingDefault n

/-- The replayed thermal limits agree (R141). -/
def Replayed.limitsAgree (r : Replayed) : Bool :=
  decide (Replayed.value r Setting.warmLimit + 5 ≤ Replayed.value r Setting.hotLimit)

/-- The stored value of a setting at the end of replay (R141). -/
def Replayed.stored (r : Replayed) (n : Nat) : Nat :=
  if (n = Setting.warmLimit ∨ n = Setting.hotLimit) ∧ Replayed.limitsAgree r = false then Config.settingDefault n
  else Replayed.value r n

/-- The stored settings at the end of replay (R141). -/
def Replayed.settings (r : Replayed) : Table Nat :=
  Table.ofFunction Config.settingDefault Config.settings (Replayed.stored r)

/-- The stored settings are replayed and become live, which acts as a SET of each (R141, R162). -/
def State.restoreSettings (s : State) (r : Replayed) : State :=
  ({ s with live := Replayed.settings r, stored := Replayed.settings r } : State).withCi { s.ci with returnCount := 0 }

/-! ## Reconciliation (R142) -/

/-- The cells that the replay has set. -/
def Replayed.cells (r : Replayed) : List Nat := Replayed.numbers r 0 Config.cells

/-- A cell whose SPARED record lies in a later slot names the same channel (R142, step 1). -/
def Replayed.overtaken (r : Replayed) (n c : Nat) : Bool :=
  (Replayed.cells r).any fun m =>
    decide (Replayed.image r m = .spared c) && decide (Replayed.slot r n < Replayed.slot r m)

/-- A cell's state after steps 1 and 2 of reconciliation (R142). -/
def Replayed.firstState (r : Replayed) (n : Nat) : CellState :=
  match Replayed.image r n with
  | .spared c =>
    if Replayed.image r (channelSubject c) = .failed ∨ Replayed.image r (dieSubject n) = .dead ∨
        Replayed.overtaken r n c = true then .concealed .dieDead
    else .spared c
  | .concealed reason => .concealed reason
  | .healthy | .usable | .dead | .free | .failed | .normal | .held | .value _ => .healthy

/-- A line's image is HELD. -/
def Replayed.held (r : Replayed) (l : Nat) : Bool := decide (Replayed.image r (lineSubject l) = .held)

/-- A cell's reconciled state (R142, step 3). -/
def Replayed.cellState (r : Replayed) (n : Nat) : CellState :=
  if Replayed.held r (cLineOf n) || Replayed.held r (rLineOf n) then .concealed .line else Replayed.firstState r n

/-- A die's reconciled state (R142, steps 2 to 4). -/
def Replayed.dieState (r : Replayed) (n : Nat) : DieState :=
  if Replayed.image r (dieSubject n) = .dead then .dead
  else
    match Replayed.cellState r n with
    | .spared _ => .good
    | .healthy | .suspect | .condemned | .pendingSpare _ _ | .concealed _ => .untried

/-- The cell whose reconciled state names a channel (R142, step 2). -/
def Replayed.boundCell (r : Replayed) (c : Nat) : Option Nat :=
  (Replayed.cells r).find? fun n => decide (Replayed.cellState r n = .spared c)

/-- A channel's reconciled state (R142, steps 2 to 4). -/
def Replayed.channelState (r : Replayed) (c : Nat) : ChannelState :=
  match Replayed.boundCell r c with
  | some n => .bound n
  | none => if Replayed.image r (channelSubject c) = .failed then .failed else .free

/-- The channels that the replay has set or that a SPARED image names. -/
def Replayed.channels (r : Replayed) : List Nat :=
  Replayed.numbers r 18432 Config.channels ++
    (Replayed.cells r).filterMap fun n => (Replayed.cellState r n).channel

/-- The lines whose image is HELD. -/
def Replayed.heldLines (r : Replayed) : List Nat := (Replayed.numbers r 19200 Config.lines).filter (Replayed.held r)

/-- A table built from the values of some numbers. -/
def Table.build {α : Type} [DecidableEq α] (d : Nat → α) (numbers : List Nat) (f : Nat → α) : Table α :=
  numbers.foldl (fun t n => Table.write d t n (f n)) []

/-- The reconciled tables, with the line tallies still to be computed (R142, R15). -/
def Replayed.tables (r : Replayed) (budget : Nat) : RepairEngine where
  cells := Table.build (fun _ => .healthy) (Replayed.cells r ++ (Replayed.heldLines r).flatMap lineCells)
    (Replayed.cellState r)
  dies := Table.build (fun _ => .untried) (Replayed.cells r ++ Replayed.numbers r 9216 Config.cells) (Replayed.dieState r)
  channels := Table.build (fun _ => ⟨.free, 0⟩) (Replayed.channels r) fun c => ⟨Replayed.channelState r c, 0⟩
  lines := Table.build (fun _ => ⟨.normal, 0, 0⟩) (Replayed.heldLines r) fun _ => ⟨.held, 0, 0⟩
  suspects := []
  provings := []
  budget := budget

/-- The line tallies are computed from the cell map (R116, R142). -/
def State.computeTallies (s : State) : State :=
  s.re.cells.foldl (fun t e =>
    if e.2.counted then (t.moveTally (cLineOf e.1) true).moveTally (rLineOf e.1) true else t) s

/-- The live image count is computed from the reconciled tables and the stored settings (R127, R142). -/
def State.countImages (s : State) : State := s.withRj { s.rj with liveImages := s.nonFactory.length }

/-- Reconciliation (R142). -/
def State.reconcile (s : State) (r : Replayed) : State :=
  ((s.withRe (Replayed.tables r (s.setting Setting.budgetDefault))).computeTallies).countImages

/-! ## The writer at the end of start-up (R146) -/

/-- With the supply LOW the writer that start-up leaves is HELD (R146, R139). -/
def State.stopIfLow (s : State) : State :=
  if s.cm.supply = .low then s.withRj { s.rj with writer := s.rj.writer.stopped } else s

/-- The form the writer takes at the end of start-up (R146). -/
def State.startWriter (s : State) : State :=
  if Config.dueUsed ≤ s.rj.used ∧ Config.fullImages < s.rj.liveImages then s.enterFull.stopIfLow
  else if Config.dueUsed ≤ s.rj.used ∨ s.rj.active = none then
    if s.cm.supply = .low then s.withRj { s.rj with due := true, writer := .held false }
    else s.startCompaction
  else (s.withRj { s.rj with writer := .idle }).stopIfLow

/-- Start-up ends: the part is in operation (R152, step 4). -/
def State.run (s : State) : State := s.withClk { s.clk with phase := .running }

/-- The end of start-up (R140 to R142, R146; for the place of a frame start that a restored FREE-RUN PERIOD brings at once,
log 17). -/
def State.endReplay (s : State) (sensor : Int) : State :=
  let s1 := s.bankScan.noteDamaged
  let r := s1.rj.replay
  (((s1.restoreSettings r).settleFreeRun s1 sensor).reconcile r).startWriter.run

/-- REPLAY_END (R142). -/
def execReplayEnd (m : Moment) (s : State) : Host.Outcome State Fault Refusal :=
  .next (if s.clk.phase = .starting then (s.tick m.elapsed).endReplay m.sensor else s.tick m.elapsed)

end Sys2Proof.Machine
end

