-- ==== Sys2Proof/Machine/Power.lean ====
section
/-! DEFINITION. Power and start-up (chapter 9): the supply, the reset pin, the oscillator settle, and the derate countdown. -/

namespace Sys2Proof.Machine

/-! ## What a power-up or the reset pin cuts (R129, R146) -/

/-- The record write that is cut: torn, or complete when its mark was already written (R146). -/
def Journal.cutRecord (j : Journal) (cut : Cut) : Journal :=
  match j.record with
  | some w => j.useSlot (if cut.markWritten then .complete w.subject w.image else .torn)
  | none => j

/-- The erase, header write or mark write that is cut (R129, R146). -/
def Journal.cutOperation (j : Journal) (cut : Cut) : Journal :=
  match j.operation with
  | some .erase => j.setBank j.newBank ⟨0, false, (j.bank j.newBank).slots.take cut.slotsLeft⟩
  | some .header =>
    if cut.markWritten then j.setBank j.newBank ⟨j.nextGeneration, false, (j.bank j.newBank).slots⟩ else j
  | some .mark => j.setBank j.newBank { j.bank j.newBank with complete := cut.markWritten }
  | none => j

/-- The part stops: work on the banks is cut and every block is in reset (R151, R152, R146). -/
def State.stopPart (s : State) (cut : Cut) : State :=
  let j := (s.rj.cutRecord cut).cutOperation cut
  s.resetBlocks .off j.bank0 j.bank1

/-- The oscillator settle begins, unless the reset pin or the supply still holds the part in reset (R152). -/
def State.beginSettle (s : State) : State :=
  if s.clk.pinHeld || s.clk.powerReset then s
  else s.withClk { s.clk with phase := .settling, settleFrom := s.clk.now }

/-! ## The supply (R151) -/

/-- The supply state changes. -/
def State.setSupply (s : State) (v : Supply) : State := s.withCm { s.cm with supply := v }

/-- CONDITIONS for a change of the supply, from the end of the settle on (R150, R151; log 38). -/
def State.noteSupply (s : State) : State := if s.forwarding then s.notifyConditions else s

/-- GOOD to LOW (R151): the drive derates at once, and the writer stops at its next safe point. -/
def State.supplyLow (s : State) : State :=
  let s1 := s.setSupply .low
  let s2 := (s1.withPp { s1.pp with scaleDerate := 40 }).noteSupply
  if s2.operating then s2.stopWriter else s2

/-- SUPPLY_LOW (R151). From FAIL the part stays in reset. -/
def execSupplyLow (s : State) : Host.Outcome State Fault Refusal :=
  .next (if s.clk.powerReset then (if s.cm.supply = .fail then s.setSupply .low else s)
    else if s.cm.supply = .good then s.supplyLow
    else s)

/-- The power-up reset ends with the supply GOOD (R151, R152). -/
def State.powerUp (s : State) : State :=
  ((s.setSupply .good).withClk { s.clk with powerReset := false }).beginSettle

/-- In reset and through the settle, where no frame is shown, the output scale has its value after a reset for the supply as
it is sensed (R39). From then on a supply that returns acts at the next frame start (R151). -/
def State.resetScale (s : State) : State :=
  if s.forwarding then s else s.withPp { s.pp with scaleDerate := s.cm.effectiveDerate }

/-- LOW to GOOD (R151): the count of steady GOOD begins. -/
def State.supplyGood (s : State) : State :=
  let s1 := s.setSupply .good
  ((s1.withRj { s1.rj with goodSince := s1.clk.now }).resetScale).noteSupply

/-- SUPPLY_GOOD (R151). In a power-up reset it is the power-up. -/
def execSupplyGood (elapsed : Nat) (s : State) : Host.Outcome State Fault Refusal :=
  let s1 := s.tick elapsed
  .next (if s1.cm.supply = .low then (if s1.clk.powerReset then s1.powerUp else s1.supplyGood) else s1)

/-- SUPPLY_FAIL (R151). -/
def execSupplyFail (cut : Cut) (s : State) : Host.Outcome State Fault Refusal :=
  .next (if s.clk.powerReset then s.setSupply .fail
    else
      let s1 := (s.setSupply .fail).stopPart cut
      s1.withClk { s1.clk with powerReset := true })

/-- POWER_UP (R151, R152). -/
def execPowerUp (elapsed : Nat) (s : State) : Host.Outcome State Fault Refusal :=
  let s1 := s.tick elapsed
  .next (if s1.clk.powerReset then s1.powerUp else s1)

/-! ## The reset pin and the settle (R152) -/

/-- RESET_PIN_ASSERT (R152). -/
def execResetPinAssert (cut : Cut) (s : State) : Host.Outcome State Fault Refusal :=
  .next (if s.clk.pinHeld then s
    else
      let s1 := if s.clk.powerReset then s else s.stopPart cut
      s1.withClk { s1.clk with pinHeld := true })

/-- RESET_PIN_RELEASE (R152). -/
def execResetPinRelease (elapsed : Nat) (s : State) : Host.Outcome State Fault Refusal :=
  let s1 := s.tick elapsed
  .next (if s1.clk.pinHeld then (s1.withClk { s1.clk with pinHeld := false }).beginSettle else s1)

/-- Forwarding and scanning begin, with the frame timer running from now (R39, R152). -/
def State.beginScanning (s : State) : State :=
  (s.withClk { s.clk with phase := .starting }).withPp { s.pp with frameStartAt := s.clk.now }

/-- OSCILLATOR_SETTLE (R152). -/
def execOscillatorSettle (s : State) : Host.Outcome State Fault Refusal :=
  .next (if s.clk.phase = .settling then (s.reach (s.clk.settleFrom + Config.settle)).beginScanning else s)

/-! ## The derate countdown (R149) -/

/-- One level down (R149). -/
def Derate.down : Derate → Derate
  | .d100 => .d80
  | .d80 => .d60
  | .d60 => .d40
  | .d40 => .d40

/-- One level up (R149). -/
def Derate.up : Derate → Derate
  | .d100 => .d100
  | .d80 => .d100
  | .d60 => .d80
  | .d40 => .d60

/-- The Condition Monitor after the countdown has run out; `restart` is the end of a countdown restarted now (R149). -/
def ConditionMonitor.expire (cm : ConditionMonitor) (restart : Nat) : ConditionMonitor :=
  match cm.thermal with
  | .hot => { cm with blank := true, countdown := none }
  | .warm => { cm with derate := cm.derate.down, countdown := some restart }
  | .normal =>
    { cm with
      derate := cm.derate.up
      countdown := if cm.derate.up = .d100 then none else some restart }

/-- The countdown runs out, with CONDITIONS when the derate level or thermal blank changes (R149, R150). -/
def State.expireCountdown (s : State) : State :=
  let cm := s.cm.expire s.warmHoldEnd
  if cm.derate = s.cm.derate ∧ cm.blank = s.cm.blank then s.withCm cm else (s.withCm cm).notifyConditions

/-- DERATE_COUNTDOWN_EXPIRY (R149). -/
def execDerateCountdownExpiry (s : State) : Host.Outcome State Fault Refusal :=
  .next (match s.cm.countdown with
    | some deadline => (s.reach deadline).expireCountdown
    | none => s)

end Sys2Proof.Machine
end

