-- ==== Sys2Proof/Machine/RepairRequests.lean ====
section
/-! DEFINITION. The requests of the Repair Engine: reading the tables and the suspect list (R16, R17, R18, R86), and SPARE,
RESTORE, CONCEAL, FORGIVE, REVIVE_DIE, RESTORE_CHANNEL, HOLD_LINE, RELEASE_LINE and SET_BUDGET. -/

namespace Sys2Proof.Machine

/-! ## Reading the tables (section 1.12) -/

/-- A suspect entry in READ_CELL: kind, evidence, condemned mark, or all ones (R16). -/
def State.entryFields (s : State) (u : UnitId) : List Byte :=
  match s.re.entry u with
  | some e => byte1 e.kind.code ++ byte1 e.evidence ++ flag (s.condemnedMark e)
  | none => [0xFF#8, 0xFF#8, 0xFF#8]

/-- The reason of a CONCEALED cell (R16). -/
def CellState.reason : CellState → Option Reason
  | .concealed r => some r
  | .healthy | .suspect | .condemned | .pendingSpare _ _ | .spared _ => none

/-- The phase of a PENDING-SPARE cell (R16). -/
def CellState.phase : CellState → Option Phase
  | .pendingSpare p _ => some p
  | .healthy | .suspect | .condemned | .spared _ | .concealed _ => none

/-- The frames since the proving of a PENDING-SPARE cell started (R16). -/
def RepairEngine.provingAge (re : RepairEngine) (n : Nat) : Option Nat :=
  match re.cell n with
  | .pendingSpare _ k => (re.provings.find? fun p => decide (p.channel = k)).map (·.age)
  | .healthy | .suspect | .condemned | .spared _ | .concealed _ => none

/-- The reply body of READ_CELL (R16). -/
def State.cellReport (s : State) (n : Nat) : List Byte :=
  let c := s.re.cell n
  byte2 n ++ byte1 c.code ++ opt1 (c.reason.map Reason.code) ++ opt1 (c.phase.map Phase.code) ++
  opt2 c.channel ++ opt1 (c.channel.map fun k => (s.re.channel k).strike) ++
  opt1 (s.re.provingAge n) ++ byte1 (s.re.die n).code ++
  s.entryFields ⟨.primary, n⟩ ++ s.entryFields ⟨.spare, n⟩ ++
  routeBytes (s.pp.route n) ++
  (match s.pp.pendingRoute n with | some r => routeBytes r | none => [0xFF#8, 0xFF#8, 0xFF#8]) ++
  byte1 (s.re.line (cLineOf n)).state.code ++ byte1 (s.re.line (rLineOf n)).state.code ++
  flag (decide (cellSubject n ∈ s.rj.owed))

/-- What READ_CELL does (R16). -/
def readCellOp (body : List Byte) (s : State) : State × Answer :=
  match oneNumber body with
  | none => s.refuse .malformed
  | some n => if n < Config.cells then s.answer (s.cellReport n) else s.refuse .outOfRange

/-- READ_CELL (R16). -/
def execReadCell (r : Request) (s : State) : Host.Outcome State Fault Refusal :=
  .next (s.request r 6 (readCellOp r.body))

/-- A cell is SPARED. -/
def CellState.isSpared : CellState → Bool
  | .spared _ => true
  | .healthy | .suspect | .condemned | .pendingSpare _ _ | .concealed _ => false

/-- One channel in READ_GROUP: number, state, cell named, strike (R17). -/
def RepairEngine.channelFields (re : RepairEngine) (k : Nat) : List Byte :=
  byte2 k ++ byte1 (re.channel k).state.code ++ opt2 (re.channel k).state.cell ++ byte1 (re.channel k).strike

/-- The reply body of READ_GROUP (R17). -/
def State.groupReport (s : State) (g : Nat) : List Byte :=
  (groupChannels g).flatMap s.re.channelFields ++
  byte1 ((groupChannels g).countP s.re.isFree) ++
  byte1 ((groupCells g).countP fun n => (s.re.cell n).isSpared) ++
  byte1 ((groupCells g).countP fun n => decide (s.re.die n = .dead)) ++
  byte1 s.re.provings.length

/-- What READ_GROUP does (R17). -/
def readGroupOp (body : List Byte) (s : State) : State × Answer :=
  match oneByte body with
  | none => s.refuse .malformed
  | some g => if g < Config.groups then s.answer (s.groupReport g) else s.refuse .outOfRange

/-- READ_GROUP (R17). -/
def execReadGroup (r : Request) (s : State) : Host.Outcome State Fault Refusal :=
  .next (s.request r 7 (readGroupOp r.body))

/-- The cells of a line that are CONCEALED(LINE) (R18). -/
def RepairEngine.lineConcealed (re : RepairEngine) (l : Nat) : Nat :=
  (lineCells l).countP fun n => decide (re.cell n = .concealed .line)

/-- The reply body of READ_LINE (R18); the repairs undone count is there for a HELD R-line only. That the fields of a
C-line and of an R-line differ in number is the model's choice (log 21). -/
def State.lineReport (s : State) (l : Nat) : List Byte :=
  let v := s.re.line l
  byte1 l ++
  (if l < 192 then byte1 0 ++ byte1 (l / 3) ++ byte1 (l % 3) else byte1 1 ++ byte1 (l - 192)) ++
  byte1 v.state.code ++ byte1 v.tally ++ byte1 (s.lineLimit l) ++ byte1 (s.re.lineConcealed l) ++
  (if 192 ≤ l ∧ v.state = .held then byte1 v.undone else [])

/-- What READ_LINE does (R18). -/
def readLineOp (body : List Byte) (s : State) : State × Answer :=
  match oneByte body with
  | none => s.refuse .malformed
  | some l => if l < Config.lines then s.answer (s.lineReport l) else s.refuse .outOfRange

/-- READ_LINE (R18). -/
def execReadLine (r : Request) (s : State) : Host.Outcome State Fault Refusal :=
  .next (s.request r 8 (readLineOp r.body))

/-- One entry in READ_SUSPECTS: six bytes (R86). That bits 5 and 4 of its packed byte, which no rule gives a value, are 0 is
the model's choice (log 21). -/
def State.suspectFields (s : State) (e : Entry) : List Byte :=
  unitBytes e.unit ++
  byte1 (e.kind.code * 64 + (if s.condemnedMark e then 8 else 0) + e.evidence % 8) ++
  byte1 e.due ++ half e.admitted

/-- The reply body of READ_SUSPECTS (R86). -/
def State.suspectsReport (s : State) (first : Nat) : List Byte :=
  byte1 s.re.suspects.length ++ byte1 (s.re.suspects.countP s.condemnedMark) ++
  byte1 (if s.candidate.isSome then 1 else 0) ++ opt1 (s.re.suspects.findIdx? s.condemnedMark) ++
  byte1 (s.re.provings.length * 16 + s.setting Setting.confirmThreshold) ++ byte1 first ++
  ((s.re.suspects.drop first).take 7).flatMap s.suspectFields

/-- What READ_SUSPECTS does (R86). -/
def readSuspectsOp (body : List Byte) (s : State) : State × Answer :=
  match oneByte body with
  | none => s.refuse .malformed
  | some first => if first < Config.suspects then s.answer (s.suspectsReport first) else s.refuse .outOfRange

/-- READ_SUSPECTS (R86). -/
def execReadSuspects (r : Request) (s : State) : Host.Outcome State Fault Refusal :=
  .next (s.request r 9 (readSuspectsOp r.body))

/-! ## SPARE (R107, R108) -/

/-- The cell states SPARE accepts: HEALTHY, SUSPECT, or CONCEALED with a reason other than LINE (R108, check 3). -/
def CellState.mayBeSpared : CellState → Bool
  | .healthy | .suspect => true
  | .concealed .line => false
  | .concealed _ => true
  | .condemned | .pendingSpare _ _ | .spared _ => false

/-- SPARE is taken: the primary's entry leaves the list, the proving starts, a line the tallies' rise brings to its limit
is held, and the candidate is reconsidered (R107, R92, R117, R84). -/
def State.takeSpare (s : State) (n k : Nat) : State :=
  let s1 := (s.dropEntry ⟨.primary, n⟩).startProving n k
  (if (s.re.cell n).counted then s1 else s1.judgeLimits n).reconsider

/-- The channel a SPARE would start on: the named one if it is FREE, or the one R91 chooses (R108, check 5). -/
def State.spareChannel (s : State) (n named : Nat) : Option Nat :=
  if named = allOnes2 then s.re.choose (groupOf n) else if s.re.isFree named then some named else none

/-- The range check of SPARE (R108, check 2). -/
def spareInRange (n named : Nat) : Bool :=
  decide (n < Config.cells) &&
    (decide (named = allOnes2) || (decide (named < Config.channels) && decide (groupOfChannel named = groupOf n)))

/-- What SPARE does: the six checks of R108 in order. -/
def spareOp (body : List Byte) (s : State) : State × Answer :=
  match twoNumbers body with
  | none => s.refuse .malformed
  | some (n, named) =>
    if !spareInRange n named then s.refuse .outOfRange
    else if !(s.re.cell n).mayBeSpared then s.refuse .wrongState
    else if s.re.die n = .dead then s.refuse .dieDead
    else
      match s.spareChannel n named with
      | none => s.refuse (if named = allOnes2 then .poolEmpty else .channelTaken)
      | some k =>
        if Config.provingSlots ≤ s.re.provings.length then s.refuse .busy
        else (s.takeSpare n k, ⟨.accepted, byte2 k⟩)

/-- SPARE (R107). -/
def execSpare (r : Request) (s : State) : Host.Outcome State Fault Refusal :=
  .next (s.request r 10 (spareOp r.body))

/-! ## RESTORE, CONCEAL, FORGIVE -/

/-- RESTORE accepts every state but HEALTHY and CONCEALED(LINE) (R109). -/
def CellState.mayBeRestored : CellState → Bool
  | .healthy | .concealed .line => false
  | .suspect | .condemned | .pendingSpare _ _ | .spared _ | .concealed _ => true

/-- What RESTORE does (R109). -/
def restoreOp (body : List Byte) (s : State) : State × Answer :=
  match oneNumber body with
  | none => s.refuse .malformed
  | some n =>
    if Config.cells ≤ n then s.refuse .outOfRange
    else if !(s.re.cell n).mayBeRestored then s.refuse .wrongState
    else (((s.withdraw n .healthy).clearClaim [⟨.primary, n⟩]).reconsider, ⟨.done, []⟩)

/-- RESTORE (R109). -/
def execRestore (r : Request) (s : State) : Host.Outcome State Fault Refusal :=
  .next (s.request r 11 (restoreOp r.body))

/-- CONCEAL refuses a cell that is CONCEALED with any reason (R110). -/
def CellState.isConcealed : CellState → Bool
  | .concealed _ => true
  | .healthy | .suspect | .condemned | .pendingSpare _ _ | .spared _ => false

/-- What CONCEAL does (R110). -/
def concealOp (body : List Byte) (s : State) : State × Answer :=
  match oneNumber body with
  | none => s.refuse .malformed
  | some n =>
    if Config.cells ≤ n then s.refuse .outOfRange
    else if (s.re.cell n).isConcealed then s.refuse .wrongState
    else ((s.withdraw n (.concealed .ordered)).reconsider, ⟨.done, []⟩)

/-- CONCEAL (R110). -/
def execConceal (r : Request) (s : State) : Host.Outcome State Fault Refusal :=
  .next (s.request r 12 (concealOp r.body))

/-- What FORGIVE does (R85). -/
def forgiveOp (body : List Byte) (s : State) : State × Answer :=
  match (oneNumber body).bind unitOf with
  | none => s.refuse .malformed
  | some u =>
    if Config.cells ≤ u.cell then s.refuse .outOfRange
    else if (s.re.entry u).isNone then s.refuse .wrongState
    else (((s.dropEntry u).returnUnit u).reconsider, ⟨.done, []⟩)

/-- FORGIVE (R85). -/
def execForgive (r : Request) (s : State) : Host.Outcome State Fault Refusal :=
  .next (s.request r 13 (forgiveOp r.body))

/-! ## REVIVE_DIE, RESTORE_CHANNEL -/

/-- What REVIVE_DIE does (R111). -/
def reviveDieOp (body : List Byte) (s : State) : State × Answer :=
  match oneNumber body with
  | none => s.refuse .malformed
  | some n =>
    if Config.cells ≤ n then s.refuse .outOfRange
    else if s.re.die n ≠ .dead then s.refuse .wrongState
    else (((s.setCell n (s.re.cell n) .untried).clearClaim [⟨.spare, n⟩]).reconsider, ⟨.done, []⟩)

/-- REVIVE_DIE (R111). -/
def execReviveDie (r : Request) (s : State) : Host.Outcome State Fault Refusal :=
  .next (s.request r 14 (reviveDieOp r.body))

/-- What RESTORE_CHANNEL does (R112). -/
def restoreChannelOp (body : List Byte) (s : State) : State × Answer :=
  match oneNumber body with
  | none => s.refuse .malformed
  | some k =>
    if Config.channels ≤ k then s.refuse .outOfRange
    else if (s.re.channel k).state ≠ .failed then s.refuse .wrongState
    else ((s.setChannel k ⟨.free, 0⟩).reconsider, ⟨.done, []⟩)

/-- RESTORE_CHANNEL (R112). -/
def execRestoreChannel (r : Request) (s : State) : Host.Outcome State Fault Refusal :=
  .next (s.request r 15 (restoreChannelOp r.body))

/-! ## HOLD_LINE, RELEASE_LINE -/

/-- What HOLD_LINE does (R122). -/
def holdLineOp (body : List Byte) (s : State) : State × Answer :=
  match oneByte body with
  | none => s.refuse .malformed
  | some l =>
    if Config.lines ≤ l then s.refuse .outOfRange
    else if (s.re.line l).state = .held then s.refuse .wrongState
    else ((s.hold l).reconsider, ⟨.done, []⟩)

/-- HOLD_LINE (R122). -/
def execHoldLine (r : Request) (s : State) : Host.Outcome State Fault Refusal :=
  .next (s.request r 16 (holdLineOp r.body))

/-- The line of the other kind on which a cell of line `l` lies (R120, R123). -/
def otherLineOf (l n : Nat) : Nat := if l < 192 then rLineOf n else cLineOf n

/-- The lines that cross a line (R123). -/
def crossing (l : Nat) : List Nat := if l < 192 then (List.range 48).map (192 + ·) else List.range 192

/-- A line's tally is recomputed from the cell map (R123). -/
def State.recount (s : State) (l : Nat) : State :=
  s.setLine l { s.re.line l with tally := (lineCells l).countP fun n => (s.re.cell n).counted }

/-- The cells of a line that its release returns to service: those whose other line is NORMAL (R123). -/
def State.releasedCells (s : State) (l : Nat) : List Nat :=
  (lineCells l).filter fun n => decide ((s.re.line (otherLineOf l n)).state = .normal)

/-- The release of a line, in the five steps of R123. -/
def State.release (s : State) (l : Nat) : State :=
  let freed := s.releasedCells l
  let s1 := (s.setLine l ⟨.normal, (s.re.line l).tally, 0⟩).imageChanged (lineSubject l)
    (lineImage (s.re.line l).state) .normal
  let s2 := freed.foldl (fun t n => t.setCell n .healthy (t.re.die n)) s1
  let s3 := s2.clearClaim (freed.map fun n => ⟨.primary, n⟩)
  (l :: crossing l).foldl State.recount s3

/-- What RELEASE_LINE does (R123). -/
def releaseLineOp (body : List Byte) (s : State) : State × Answer :=
  match oneByte body with
  | none => s.refuse .malformed
  | some l =>
    if Config.lines ≤ l then s.refuse .outOfRange
    else if (s.re.line l).state = .normal then s.refuse .wrongState
    else ((s.release l).reconsider, ⟨.done, []⟩)

/-- RELEASE_LINE (R123). -/
def execReleaseLine (r : Request) (s : State) : Host.Outcome State Fault Refusal :=
  .next (s.request r 17 (releaseLineOp r.body))

/-! ## SET_BUDGET -/

/-- The auto budget takes a value (R113). -/
def State.setBudget (s : State) (v : Nat) : State := s.withRe { s.re with budget := v }

/-- What SET_BUDGET does (R113): KEEP leaves the budget as it stands. -/
def setBudgetOp (body : List Byte) (s : State) : State × Answer :=
  match oneNumber body with
  | none => s.refuse .malformed
  | some v =>
    if v = allOnes2 then (s.reconsider, ⟨.done, byte2 s.re.budget ++ byte2 s.re.budget⟩)
    else if 768 < v then s.refuse .outOfRange
    else ((s.setBudget v).reconsider, ⟨.done, byte2 s.re.budget ++ byte2 v⟩)

/-- SET_BUDGET (R113). -/
def execSetBudget (r : Request) (s : State) : Host.Outcome State Fault Refusal :=
  .next (s.request r 18 (setBudgetOp r.body))

end Sys2Proof.Machine
end

