-- ==== Sys2Proof/Machine/Dispatch.lean ====
section
/-! DEFINITION. One arm for each command of the FT-6448. -/

namespace Sys2Proof.Machine

/-- The effect of a command on everything but the queue of commands that wait. -/
def exec (i : Instr) (s : State) : Host.Outcome State Fault Refusal :=
  match i with
  | .frameHead lane r m => Sys2Proof.Machine.execFrameHead lane r m s
  | .line lane r => Sys2Proof.Machine.execLine lane r s
  | .replySlot lane r => Sys2Proof.Machine.execReplySlot lane r s
  | .frameTail lane r m => Sys2Proof.Machine.execFrameTail lane r m s
  | .recordBadCheck lane bytes => Sys2Proof.Machine.execRecordBadCheck lane bytes s
  | .frameTimerExpiry sensor => Sys2Proof.Machine.execFrameTimerExpiry sensor s
  | .stale sensor => Sys2Proof.Machine.execStale sensor s
  | .provingTimeout sensor => Sys2Proof.Machine.execProvingTimeout sensor s
  | .rowGapOpen => Sys2Proof.Machine.execRowGapOpen s
  | .rowGapEnd ticks regulatedFirst => Sys2Proof.Machine.execRowGapEnd ticks regulatedFirst s
  | .portLossWatchdog lane sensor => Sys2Proof.Machine.execPortLossWatchdog lane sensor s
  | .feedReturn r m => Sys2Proof.Machine.execFeedReturn r m s
  | .unknownKind r kind => Sys2Proof.Machine.execUnknownKind r kind s
  | .identify r => Sys2Proof.Machine.execIdentify r s
  | .assignId r => Sys2Proof.Machine.execAssignId r s
  | .set r m => Sys2Proof.Machine.execSet r m s
  | .get r => Sys2Proof.Machine.execGet r s
  | .reset r => Sys2Proof.Machine.execReset r s
  | .readCell r => Sys2Proof.Machine.execReadCell r s
  | .readGroup r => Sys2Proof.Machine.execReadGroup r s
  | .readLine r => Sys2Proof.Machine.execReadLine r s
  | .readSuspects r => Sys2Proof.Machine.execReadSuspects r s
  | .spare r => Sys2Proof.Machine.execSpare r s
  | .restore r => Sys2Proof.Machine.execRestore r s
  | .conceal r => Sys2Proof.Machine.execConceal r s
  | .forgive r => Sys2Proof.Machine.execForgive r s
  | .reviveDie r => Sys2Proof.Machine.execReviveDie r s
  | .restoreChannel r => Sys2Proof.Machine.execRestoreChannel r s
  | .holdLine r => Sys2Proof.Machine.execHoldLine r s
  | .releaseLine r => Sys2Proof.Machine.execReleaseLine r s
  | .setBudget r => Sys2Proof.Machine.execSetBudget r s
  | .startSurvey r => Sys2Proof.Machine.execStartSurvey r s
  | .stopSurvey r => Sys2Proof.Machine.execStopSurvey r s
  | .readSense r => Sys2Proof.Machine.execReadSense r s
  | .clearBaselines r => Sys2Proof.Machine.execClearBaselines r s
  | .compact r => Sys2Proof.Machine.execCompact r s
  | .readJournal r => Sys2Proof.Machine.execReadJournal r s
  | .collect r => Sys2Proof.Machine.execCollect r s
  | .clear r => Sys2Proof.Machine.execClear r s
  | .readFeed r => Sys2Proof.Machine.execReadFeed r s
  | .recordWriteStart => Sys2Proof.Machine.execRecordWriteStart s
  | .recordWriteEnd verified => Sys2Proof.Machine.execRecordWriteEnd verified s
  | .compactionStart => Sys2Proof.Machine.execCompactionStart s
  | .bankEraseEnd erased => Sys2Proof.Machine.execBankEraseEnd erased s
  | .headerWriteEnd written => Sys2Proof.Machine.execHeaderWriteEnd written s
  | .completeMarkWriteEnd written => Sys2Proof.Machine.execCompleteMarkWriteEnd written s
  | .supplyLow => Sys2Proof.Machine.execSupplyLow s
  | .supplyGood elapsed => Sys2Proof.Machine.execSupplyGood elapsed s
  | .writerResume => Sys2Proof.Machine.execWriterResume s
  | .supplyFail cut => Sys2Proof.Machine.execSupplyFail cut s
  | .powerUp elapsed => Sys2Proof.Machine.execPowerUp elapsed s
  | .resetPinAssert cut => Sys2Proof.Machine.execResetPinAssert cut s
  | .resetPinRelease elapsed => Sys2Proof.Machine.execResetPinRelease elapsed s
  | .oscillatorSettle => Sys2Proof.Machine.execOscillatorSettle s
  | .resetPoint => Sys2Proof.Machine.execResetPoint s
  | .replayEnd m => Sys2Proof.Machine.execReplayEnd m s
  | .derateCountdownExpiry => Sys2Proof.Machine.execDerateCountdownExpiry s

end Sys2Proof.Machine
end

