-- ==== Sys2Proof/Machine/Outputs.lean ====
section
/-! DEFINITION. The outputs of the part that are computed from its state: what the C-line outputs and the spare channels
carry while a row is driven, and in a row gap (R6, R28, R31, R33, R34). -/

namespace Sys2Proof.Machine

/-- The value driven for a pixel value under a brightness and a derate level (R33). -/
def driven (value brightness derate : Nat) : Nat := value * brightness * derate / (255 * 100)

/-- The value driven for a cell (R33). -/
def State.drivenValue (s : State) (n : Nat) : Nat :=
  driven (s.pp.showing.pixel n).toNat s.pp.scaleBrightness.toNat s.pp.scaleDerate

/-- Picture current flows while a row is driven: the scan engine runs, no blank cause is present, and no row gap is open,
since a gap comes after a driven row and carries no picture current (R28, R34, R152). -/
def State.lit (s : State) : Bool := s.forwarding && !s.black && s.pp.gap.isNone

/-- What C-line output `line` carries while row `row` is driven: nothing in a row gap (R28, R31, R34). -/
def State.cLineDrive (s : State) (row line : Nat) : Nat :=
  let n := cellAt row (line / 3) (line % 3)
  match s.pp.route n with
  | .primary => if s.lit then s.drivenValue n else 0
  | .spare _ | .blank => 0

/-- What spare channel `channel` carries into the die of cell `n` while the cell's row is driven: picture current only while
it is connected to that die by the channel table and the cell's active route names it (R6, R31, R34). A channel that has left
the cell inside a frame carries nothing for it until the next frame start: deduced from R6 (log 41). -/
def State.spareDrive (s : State) (n channel : Nat) : Nat :=
  match s.pp.route n with
  | .spare c =>
    if c = channel ∧ (s.re.channel channel).state.cell = some n ∧ s.lit = true then s.drivenValue n else 0
  | .primary | .blank => 0

end Sys2Proof.Machine
end

