-- ==== Sys2Proof/Safety.lean ====
section
/-! DEFINITION. What the part keeps true of its state, block by block, and the words in which the statements speak of
requests. -/

namespace Sys2Proof.Machine

/-! ## Canonical tables -/

/-- The Sense Unit's tables are canonical: the baselines, and the row cursors of a RUNNING survey. -/
def SenseUnit.canonical (u : SenseUnit) : Prop :=
  Table.wf (fun _ => Baseline.none) u.baselines ∧
  ∀ v, u.survey = some v → Table.wf (fun _ => (⟨0, false⟩ : Cursor)) v.cursors

/-- The Pixel Path's tables are canonical. -/
def PixelPath.canonical (p : PixelPath) : Prop :=
  Table.wf (fun _ => Route.blank) p.active ∧ Table.wf (fun _ => (none : Option Route)) p.pendingRoutes ∧
  Table.wf (fun _ => (0 : Half)) p.filling.pixels ∧ Table.wf (fun _ => (0 : Half)) p.showing.pixels ∧
  Table.wf (fun _ => false) p.received

/-- The Repair Engine's tables are canonical. -/
def RepairEngine.canonical (r : RepairEngine) : Prop :=
  Table.wf (fun _ => CellState.healthy) r.cells ∧ Table.wf (fun _ => DieState.untried) r.dies ∧
  Table.wf (fun _ => (⟨.free, 0⟩ : Channel)) r.channels ∧ Table.wf (fun _ => (⟨.normal, 0, 0⟩ : Line)) r.lines

/-- A settings table is canonical. -/
def settingsCanonical (t : Table Nat) : Prop := Table.wf Config.settingDefault t

/-- The table of notice records is canonical. -/
def noticesCanonical (t : Table Notice) : Prop := Table.wf (fun _ => (⟨0, none⟩ : Notice)) t

/-- Every table of the state is canonical, so that equal contents are equal data: the model's own form (log 40). -/
def State.tablesCanonical (s : State) : Prop :=
  s.su.canonical ∧ s.pp.canonical ∧ s.re.canonical ∧ settingsCanonical s.live ∧ settingsCanonical s.stored ∧
  noticesCanonical s.nu

/-! ## Bounds -/

/-- A direction whose queue holds at most 8 replies and which has considered at most 8 requests (R158, R163). -/
def DirectionState.bounded (d : DirectionState) : Prop :=
  d.queue.length ≤ Config.queueLength ∧ d.considered ≤ Config.requestsPerFrame

/-- Both directions are bounded. -/
def ChainInterface.bounded (c : ChainInterface) : Prop := c.forward.bounded ∧ c.reverse.bounded

/-- The notice records are canonical, and no count exceeds 255 (R171). -/
def noticesBounded (t : Table Notice) : Prop := noticesCanonical t ∧ ∀ e ∈ t, e.2.count ≤ 255

/-- At most 8 channels hold a proving slot (R88). -/
def RepairEngine.slotsBounded (r : RepairEngine) : Prop := r.provings.length ≤ Config.provingSlots

/-- The suspect list holds at most 32 entries (R75). -/
def RepairEngine.listBounded (r : RepairEngine) : Prop := r.suspects.length ≤ Config.suspects

/-- No subject appears twice in the owed list (R128). -/
def Journal.owedOnce (j : Journal) : Prop := j.owed.Nodup

/-! ## Requests -/

/-- A request record addresses the tile and is taken (R163, R164): forwarding runs, the record is well formed and among the
first eight of its frame, it addresses the tile, and its reply has room unless it has none. -/
def State.accepts (s : State) (r : Request) : Bool :=
  s.forwarding && Request.inRange r && s.mayConsider r.lane && s.addresses r && (Request.toAll r || s.hasRoom r.lane)

/-- The state in which a taken request is decided: its record sent on and counted (R155, R163). -/
def State.heard (s : State) (r : Request) (kind : Byte) : State :=
  (s.send r.lane (Request.bytes r kind)).consider r.lane

/-- The state with the reply of a request queued on its direction, unless it came in ALL mode (R164). -/
def State.answered (s : State) (r : Request) (kind : Byte) (frame : Half) (status : Status) (body : List Byte) : State :=
  if Request.toAll r then s else s.queueReply r.lane ⟨r.tag, kind, status.code, frame, body⟩

/-- A request that is taken while the part is in operation (R163, R164). -/
def State.serves (s : State) (r : Request) : Prop := s.accepts r = true ∧ s.operating = true

/-- The state after a taken request that is refused: nothing changes but its record's passage and its reply, without a body
(R164). -/
def State.refused (s : State) (r : Request) (kind : Byte) (status : Status) : State :=
  (s.heard r kind).answered r kind s.pp.frame status []

/-! ## Frames -/

/-- `u` differs from `s` at most in what an event of the Repair Engine may change: its tables and lists, the owed list with
the live image count and the unrecorded flag, the pending routes, the notices, the measurement in flight and the
baselines. -/
def State.repairOnly (s u : State) : Prop :=
  u = { s with
    re := u.re
    rj := { s.rj with owed := u.rj.owed, liveImages := u.rj.liveImages, unrecorded := u.rj.unrecorded }
    pp := { s.pp with pendingRoutes := u.pp.pendingRoutes }
    su := { s.su with inFlight := u.su.inFlight, baselines := u.su.baselines }
    nu := u.nu }

/-! ## The maps of the Repair Engine agree -/

/-- A channel names the cell that names it (R8, R11). -/
def RepairEngine.channelsAgree (r : RepairEngine) : Prop :=
  ∀ n k, (r.cell n = .pendingSpare .proving k ↔ (r.channel k).state = .proving n) ∧
    (r.cell n = .pendingSpare .recording k ↔ (r.channel k).state = .recording n) ∧
    (r.cell n = .spared k ↔ (r.channel k).state = .bound n)

/-- A proving record stands for a PENDING-SPARE cell in its phase on its channel (R88). -/
def RepairEngine.provingsAgree (r : RepairEngine) : Prop :=
  ∀ p ∈ r.provings, r.cell p.cell = .pendingSpare p.phase p.channel

/-- A suspect entry's unit is a SUSPECT or CONDEMNED primary, or the SUSPECT or CONDEMNED die of a SPARED cell (R75). -/
def RepairEngine.suspectsAgree (r : RepairEngine) : Prop :=
  ∀ e ∈ r.suspects,
    match e.unit.side with
    | .primary => r.cell e.unit.cell = .suspect ∨ r.cell e.unit.cell = .condemned
    | .spare => (r.die e.unit.cell = .suspect ∨ r.die e.unit.cell = .condemned) ∧ (r.cell e.unit.cell).isSpared = true

/-- Every primary cell of a HELD line is CONCEALED(LINE) (R13). -/
def RepairEngine.linesAgree (r : RepairEngine) : Prop :=
  ∀ l, (r.line l).state = .held → ∀ n ∈ lineCells l, r.cell n = .concealed .line

/-- No cell whose die is DEAD is in PENDING-SPARE or SPARED (R96). -/
def RepairEngine.noDeadDieServes (r : RepairEngine) : Prop := ∀ n, r.die n = .dead → (r.cell n).channel = none

/-- The maps of the Repair Engine agree with one another. -/
def RepairEngine.consistent (r : RepairEngine) : Prop :=
  r.channelsAgree ∧ r.provingsAgree ∧ r.suspectsAgree ∧ r.linesAgree ∧ r.noDeadDieServes

/-! ## Numbers in range, counts, and the writer's work -/

/-- Cells, dies, channels, lines and stored settings past the last of their kind are as reset left them, a cell names a
channel of its own group, and the sweep and the measurement in flight stand at a cell (R1, R6, R7, R12, R62). -/
def State.inRange (s : State) : Prop :=
  (∀ n, 9216 ≤ n → s.re.cell n = .healthy ∧ s.re.die n = .untried) ∧ (∀ k, 768 ≤ k → s.re.channel k = ⟨.free, 0⟩) ∧
  (∀ l, 240 ≤ l → s.re.line l = ⟨.normal, 0, 0⟩) ∧ (∀ i, 43 ≤ i → s.storedSetting i = Config.settingDefault i) ∧
  (∀ n k, (s.re.cell n).channel = some k → groupOfChannel k = groupOf n) ∧ s.su.sweepCursor < 9216 ∧
  ∀ m u purpose channel, s.su.inFlight = some m → m.grant = .unit u purpose channel → u.cell < 9216

/-- The tally of every line is the number of its counted cells (R116). -/
def RepairEngine.tallied (r : RepairEngine) : Prop :=
  ∀ l < 240, (r.line l).tally = (lineCells l).countP fun n => (r.cell n).counted

/-- The live image count is the number of subjects whose image is not the factory image (R127). -/
def State.liveCounted (s : State) : Prop :=
  s.rj.liveImages = (List.range 19483).countP fun n => decide (s.imageOf n ≠ factoryImage n)

/-- What is in progress beside each writer state (R130 to R139): step ERASE an erase or, of an erased bank, a header write;
step SNAPSHOT no operation; step FINISH the mark; ERASING-OLD an erase; WRITING and FULL no operation; and IDLE, HELD and
FAULTED nothing at all. -/
def Journal.orderly (j : Journal) : Prop :=
  match j.writer with
  | .compacting .erase => j.record = none ∧
      (j.operation = some .erase ∨ j.operation = some .header ∧ (j.bank j.newBank).slots = [])
  | .compacting .snapshot => j.operation = none
  | .compacting .finish => j.record = none ∧ j.operation = some .mark
  | .erasingOld => j.operation = some .erase
  | .writing | .full => j.operation = none
  | .idle | .held _ | .faulted => j.record = none ∧ j.operation = none

/-- The journal's work is that of its writer state, the writer is IDLE while the part is not in operation, and neither reset
runs beside a running part (R146, R151, R152). -/
def State.orderly (s : State) : Prop :=
  s.rj.orderly ∧ (s.operating = false → s.rj.writer = .idle) ∧
  (s.clk.pinHeld = true ∨ s.clk.powerReset = true → s.clk.phase = .off)

/-! ## Settings in range, the law of the suspect list, and a part at rest -/

/-- Every live and every stored setting lies in its range, and HOT LIMIT at least 5 °C above WARM LIMIT in both (R141, R150,
R167). -/
def State.settingsInRange (s : State) : Prop :=
  (∀ i < 43, Config.settingInRange i (s.setting i) = true ∧ Config.settingInRange i (s.storedSetting i) = true) ∧
  s.setting 20 + 5 ≤ s.setting 21 ∧ s.storedSetting 20 + 5 ≤ s.storedSetting 21

/-- A unit is SUSPECT: its cell for a primary, its die for a spare (R3, R8, R10). -/
def RepairEngine.isSuspected (r : RepairEngine) (u : UnitId) : Prop :=
  match u.side with
  | .primary => r.cell u.cell = .suspect
  | .spare => r.die u.cell = .suspect

/-- A unit is CONDEMNED: its cell for a primary, its die for a spare (R3, R8, R10). -/
def RepairEngine.isCondemned (r : RepairEngine) (u : UnitId) : Prop :=
  match u.side with
  | .primary => r.cell u.cell = .condemned
  | .spare => r.die u.cell = .condemned

/-- The law of the suspect list: never two entries for one unit; evidence from 1 to CONFIRM THRESHOLD; a unit on the list
CONDEMNED exactly when its evidence equals the threshold; and an entry for every unit that is SUSPECT or CONDEMNED (R75,
R81). -/
def State.suspectsLawful (s : State) : Prop :=
  (s.re.suspects.map (·.unit)).Nodup ∧
  (∀ e ∈ s.re.suspects, 1 ≤ e.evidence ∧ e.evidence ≤ s.setting 13 ∧
    (s.re.isCondemned e.unit ↔ e.evidence = s.setting 13)) ∧
  ∀ u, s.re.isSuspected u ∨ s.re.isCondemned u → ∃ e ∈ s.re.suspects, e.unit = u

/-- A part that is not in operation is at rest: its Repair Engine, its settings and its owed list are as a reset leaves them,
START-UP blanks it, no gap is open, nothing is measured, no survey runs and no RESET is pending (R15, R30, R35, R72, R146,
R152, R164). -/
def State.restsUntilOperation (s : State) : Prop :=
  s.operating = false →
    s.re = RepairEngine.reset ∧ s.live = [] ∧ s.stored = [] ∧ s.rj.owed = [] ∧ s.rj.liveImages = 0 ∧
    s.pp.startUp = true ∧ s.pp.gap = none ∧ s.su.inFlight = none ∧ s.su.survey = none ∧ s.clk.reset = .none

/-! ## Routes -/

/-- The law of the routes: once START-UP has cleared, the route that waits for a cell, or without one its active route, is
the route that its state calls for (R14, R31, R35). -/
def State.routesFollow (s : State) : Prop :=
  s.pp.startUp = false → ∀ n < 9216, (s.pp.pendingRoute n).getD (s.pp.route n) = s.re.calledRoute n

/-! ## Words for the statements about the survey -/

/-- What setting the wrapped mark of `row` makes of a RUNNING survey `v`: while another row of the pass is not wrapped only
the mark; with the last mark the pass ends, and with the last pass the survey, DONE, with SURVEY ENDED (R66, R67, R70).
`left` is the survey afterwards, `before` and `after` the records of SURVEY ENDED. -/
def Survey.wrapsRow (v : Survey) (row : Nat) (left : Option Survey) (before after : Notice) : Prop :=
  ((∃ other < 48, other ≠ row ∧ (v.cursor other).wrapped = false) → after = before ∧
    ∃ w, left = some w ∧ w.requested = v.requested ∧ w.done = v.done ∧ w.units = v.units ∧ w.bad = v.bad ∧
      w.cursor row = ⟨0, true⟩ ∧ ∀ other, other ≠ row → w.cursor other = v.cursor other) ∧
  ((∀ other < 48, other ≠ row → (v.cursor other).wrapped = true) →
    (v.done + 1 ≠ v.requested → after = before ∧
      ∃ w, left = some w ∧ w.requested = v.requested ∧ w.done = v.done + 1 ∧ w.units = v.units ∧ w.bad = v.bad ∧
        ∀ other, w.cursor other = ⟨0, false⟩) ∧
    (v.done + 1 = v.requested → left = none ∧
      after = ⟨min (before.count + 1) 255, some (.surveyEnded .done v.requested v.units v.bad)⟩))

/-! ## Words for the statements about requests and settings -/

/-- What a request with one number in its body is answered when all it does is report: MALFORMED for another body,
OUT-OF-RANGE from `limit` on, else DONE with the report, and nothing else changes. -/
def State.reportsByNumber (s : State) (r : Request) (kind : Byte) (c : Instr) (number : Option Nat) (limit : Nat)
    (report : Nat → List Byte) : Prop :=
  (number = none → exec c s = .next (s.refused r kind .malformed)) ∧
  (∀ n, number = some n → limit ≤ n → exec c s = .next (s.refused r kind .outOfRange)) ∧
  ∀ n, number = some n → n < limit → exec c s = .next ((s.heard r kind).answered r kind s.pp.frame .done (report n))

/-- What a request with an empty body is answered when all it does is report. -/
def State.reportsAtOnce (s : State) (r : Request) (kind : Byte) (c : Instr) (report : List Byte) : Prop :=
  (r.body ≠ [] → exec c s = .next (s.refused r kind .malformed)) ∧
  (r.body = [] → exec c s = .next ((s.heard r kind).answered r kind s.pp.frame .done report))

/-- `u` is `s` with cell `n` withdrawn from repair into state `c`: its entries off the list, the channel it names FREE with
its strike kept and without a proving record, its die out of suspicion, and its subject owed when its image changes; every
other cell, die, channel, entry and record as it was (R8, R10, R103, R106). -/
def State.withdrawn (s : State) (n : Nat) (c : CellState) (u : State) : Prop :=
  s.repairOnly u ∧ u.nu = s.nu ∧ u.re.budget = s.re.budget ∧
  u.re.cell n = c ∧ u.re.die n = (s.re.die n).afterLeaving ∧
  (∀ m, m ≠ n → u.re.cell m = s.re.cell m ∧ u.re.die m = s.re.die m) ∧
  u.re.suspects = s.re.suspects.filter (fun e => decide (e.unit.cell ≠ n)) ∧
  (∀ k, (s.re.cell n).channel = some k → u.re.channel k = ⟨.free, (s.re.channel k).strike⟩) ∧
  (∀ k, (s.re.cell n).channel ≠ some k → u.re.channel k = s.re.channel k) ∧
  u.re.provings = s.re.provings.filter (fun p => decide ((s.re.cell n).channel ≠ some p.channel)) ∧
  (cellImage (s.re.cell n) ≠ cellImage c → cellSubject n ∈ u.rj.owed) ∧
  (routeFor (s.re.cell n) (s.re.die n) ≠ u.re.calledRoute n → u.pp.pendingRoute n = some (u.re.calledRoute n))

/-- `u` is `s` with the live value of setting `n`, and with the persist flag its stored value too, become `v`: a changed
stored value is owed and moves the live image count, and nothing else changes (R143). -/
def State.settingChanged (s : State) (n v : Nat) (persist : Bool) (u : State) : Prop :=
  u = { s with
    live := u.live
    stored := u.stored
    rj := { s.rj with owed := u.rj.owed, liveImages := u.rj.liveImages, unrecorded := u.rj.unrecorded } } ∧
  u.setting n = v ∧ u.storedSetting n = (if persist then v else s.storedSetting n) ∧
  (∀ j, j ≠ n → u.setting j = s.setting j ∧ u.storedSetting j = s.storedSetting j) ∧
  (u.storedSetting n = s.storedSetting n → u.rj = s.rj) ∧
  (u.storedSetting n ≠ s.storedSetting n → u.rj.owed = oweList s.rj.owed (settingSubject n))

/-- The command that a request of a kind is (R164); the time that a SET carries is `m`. -/
def requestCommand (r : Request) (kind : Byte) (m : Moment) : Instr :=
  match kind.toNat with
  | 1 => .identify r
  | 2 => .assignId r
  | 3 => .set r m
  | 4 => .get r
  | 5 => .reset r
  | 6 => .readCell r
  | 7 => .readGroup r
  | 8 => .readLine r
  | 9 => .readSuspects r
  | 10 => .spare r
  | 11 => .restore r
  | 12 => .conceal r
  | 13 => .forgive r
  | 14 => .reviveDie r
  | 15 => .restoreChannel r
  | 16 => .holdLine r
  | 17 => .releaseLine r
  | 18 => .setBudget r
  | 19 => .startSurvey r
  | 20 => .stopSurvey r
  | 21 => .readSense r
  | 22 => .clearBaselines r
  | 23 => .compact r
  | 24 => .readJournal r
  | 25 => .collect r
  | 26 => .clear r
  | 27 => .readFeed r
  | _ => .unknownKind r kind

end Sys2Proof.Machine
end

