-- ==== Sys2Proof/Certificates/Slice0/Obligations.lean ====
section
/-! DEFINITION. The statements about the part that the provers are asked for. `exec c s = .next t` in a conclusion says that
the command completes, and in which state. -/

open Sys2Proof Sys2Proof.Machine

/-! ## The step -/

/-- A step runs the command at the front of the queue on the queue's rest; with no command waiting it leaves the part
as it is (the model's choice, log 2). -/
def Obligations.StepRunsTheFrontCommand : Prop :=
  (∀ (c : Instr) (rest : List Instr) (s : State),
    step { s with pending := c :: rest } = exec c { s with pending := rest }) ∧
  ∀ s : State, s.pending = [] → step s = .next s

/-- No command stops the part, and none touches the queue of those that wait. -/
def Obligations.EveryCommandCompletesAndLeavesTheQueue : Prop :=
  ∀ (c : Instr) (s : State), ∃ t, exec c s = .next t ∧ t.pending = s.pending

/-! ## Invariants -/

/-- Every step keeps both reply queues at no more than 8 replies, both decoders at no more than 8 requests considered
in a frame, every notice count at 255 or below, the suspect list at no more than 32 entries, the proving slots at no
more than 8, and the owed list free of doubles (R75, R88, R128, R158, R163, R171). -/
def Obligations.StepsKeepEveryBound : Prop :=
  ∀ s t : State, step s = .next t →
    (s.ci.bounded → t.ci.bounded) ∧ (noticesBounded s.nu → noticesBounded t.nu) ∧
    (s.re.listBounded → t.re.listBounded) ∧ (s.re.slotsBounded → t.re.slotsBounded) ∧
    (s.rj.owedOnce → t.rj.owedOnce)

/-- Every step keeps every table of the state canonical: the baselines and a running survey's row cursors, the Pixel
Path's routes, buffers and received marks, the cell, die, channel and line maps, the live and stored settings, and the
notice records. The canonical form is the MODEL'S OWN CHOICE and no rule of the spec (DESIGN CHOICE, log 40); the rules
cited only name the tables (R15, R26, R32, R46, R66, R167, R171). -/
def Obligations.StepsKeepTheTablesCanonical : Prop :=
  ∀ s t : State, s.tablesCanonical → step s = .next t → t.tablesCanonical

/-- Every step keeps the maps of the Repair Engine in agreement: channels with cells, provings and suspect entries with
units, HELD lines with their cells, and no cell with a DEAD die in PENDING-SPARE or SPARED (R11, R13, R75, R88, R96).
With them it keeps every number in its range, and a cell's channel in the cell's own group (R6, R12); every line's
tally the number of its counted cells (R116); and the live image count the number of subjects whose image is not the
factory image (R127). It also keeps the journal's work that of its writer state (R130, R133, R134, R137, R139), every
setting in its range with the thermal limits 5 °C apart (R150, R167), the law of the suspect list, under which a unit
on it is CONDEMNED exactly when its evidence equals CONFIRM THRESHOLD (R75, R81), and a part that is not in operation
as its reset left it (R146, R152). And it keeps the law of the routes: once START-UP has cleared, every cell's pending
route, or without one its active route, is the route its state calls for, so that every change of the called-for route
is posted in the event that makes it (R14, R31). -/
def Obligations.StepsKeepTheRepairMapsConsistent : Prop :=
  ∀ s t : State, step s = .next t →
    (s.re.consistent → t.re.consistent) ∧ (s.re.consistent → s.inRange → t.inRange) ∧
    (s.re.consistent → s.inRange → s.re.tallied → t.re.tallied) ∧
    (s.re.consistent → s.inRange → s.liveCounted → t.liveCounted) ∧ (s.orderly → t.orderly) ∧
    (s.settingsInRange → t.settingsInRange) ∧
    (s.re.consistent → s.settingsInRange → s.suspectsLawful → t.suspectsLawful) ∧
    (s.orderly → s.restsUntilOperation → t.restsUntilOperation) ∧
    (s.pp.canonical → s.restsUntilOperation → s.routesFollow → t.routesFollow)

/-- The invariants that the steps keep hold of the part after reset, the canonical form of its tables (the model's own,
log 40) among them. -/
def Obligations.TheInvariantsHoldAfterReset : Prop :=
  State.reset.ci.bounded ∧ noticesBounded State.reset.nu ∧ State.reset.re.listBounded ∧ State.reset.re.slotsBounded ∧
  State.reset.tablesCanonical ∧ State.reset.rj.owedOnce ∧ State.reset.re.consistent ∧ State.reset.inRange ∧
  State.reset.re.tallied ∧ State.reset.liveCounted ∧ State.reset.orderly ∧ State.reset.settingsInRange ∧
  State.reset.suspectsLawful ∧ State.reset.restsUntilOperation ∧ State.reset.routesFollow

/-! ## Reset, power and start-up (chapter 9) -/

/-- What a reset leaves in every block (R15, R39, R57, R72, R87, R115, R125, R146, R153, R154, R169, R175). The part is
at the instant of a first power-up (the model's choice, log 5), with erased banks (the model's choice, log 6); that no
bank is active until the bank scan has chosen one is the model's choice too (log 7). -/
def Obligations.ResetLeavesTheStatedValues : Prop :=
  (∀ n, State.reset.re.cell n = .healthy ∧ State.reset.re.die n = .untried) ∧
  (∀ k, State.reset.re.channel k = ⟨.free, 0⟩) ∧ (∀ l, State.reset.re.line l = ⟨.normal, 0, 0⟩) ∧
  State.reset.re.suspects = [] ∧ State.reset.re.provings = [] ∧ State.reset.re.budget = 32 ∧
  (∀ n, State.reset.pp.route n = .blank ∧ State.reset.pp.pendingRoute n = none) ∧
  State.reset.pp.startUp = true ∧ State.reset.pp.stale = false ∧ State.reset.pp.repeats = 0 ∧
  State.reset.pp.frame = 0 ∧ State.reset.pp.captureOpen = false ∧
  (∀ u, State.reset.su.baseline u = .none) ∧ State.reset.su.status = .ok ∧ State.reset.su.condition = .sound ∧
  State.reset.su.history = [] ∧ State.reset.su.survey = none ∧ State.reset.su.sweepCursor = 0 ∧
  State.reset.su.goodMin = 1023 ∧ State.reset.su.goodMax = 0 ∧
  State.reset.ci.feed = none ∧ (∀ p, (State.reset.ci.port p).live = false) ∧
  (∀ p, (State.reset.ci.direction p).hop = none ∧ (State.reset.ci.direction p).queue = []) ∧
  State.reset.cm.thermal = .normal ∧ State.reset.cm.derate = .d100 ∧ State.reset.cm.blank = false ∧
  State.reset.cm.countdown = none ∧ (∀ k, State.reset.notice k = ⟨0, none⟩) ∧
  (∀ n, State.reset.setting n = Config.settingDefault n ∧ State.reset.storedSetting n = Config.settingDefault n) ∧
  State.reset.rj.active = none ∧ State.reset.rj.owed = [] ∧ State.reset.rj.unrecorded = false ∧
  State.reset.clk.reset = .none ∧ State.reset.pending = []

/-- A supply that fails, and the reset pin, put every block in reset at once and stop the part, also where the part is
in the other reset already (R151, R152). That no bank is active and the writer is IDLE until the bank scan is the
model's choice (log 7), and so is that the pin's edge changes nothing where the pin is held already (log 3). -/
def Obligations.SupplyFailureAndResetPinStopThePart : Prop :=
  ∀ (s : State) (cut : Cut),
    (s.clk.powerReset = false → ∃ t, exec (.supplyFail cut) s = .next t ∧
      t.clk = { s.clk with phase := .off, reset := .none, powerReset := true } ∧
      t.cm = ConditionMonitor.resetWith .fail ∧ t.re = RepairEngine.reset ∧ t.su = SenseUnit.reset ∧
      t.ci = ChainInterface.reset ∧ t.live = [] ∧ t.stored = [] ∧ t.nu = [] ∧ t.pp.startUp = true ∧
      t.rj.active = none ∧ t.rj.writer = .idle ∧ t.rj.owed = [] ∧ t.rj.record = none ∧ t.rj.operation = none) ∧
    (s.clk.powerReset = true →
      exec (.supplyFail cut) s = .next { s with cm := { s.cm with supply := .fail } }) ∧
    (s.clk.pinHeld = false → s.clk.powerReset = false → ∃ t, exec (.resetPinAssert cut) s = .next t ∧
      t.clk = { s.clk with phase := .off, reset := .none, pinHeld := true } ∧
      t.cm = ConditionMonitor.resetWith s.cm.supply ∧ t.re = RepairEngine.reset ∧ t.su = SenseUnit.reset ∧
      t.ci = ChainInterface.reset ∧ t.live = [] ∧ t.stored = [] ∧ t.nu = [] ∧ t.pp.startUp = true ∧
      t.rj.active = none ∧ t.rj.writer = .idle ∧ t.rj.owed = [] ∧ t.rj.record = none ∧ t.rj.operation = none) ∧
    (s.clk.pinHeld = false → s.clk.powerReset = true →
      exec (.resetPinAssert cut) s = .next { s with clk := { s.clk with pinHeld := true } }) ∧
    (s.clk.pinHeld = true → exec (.resetPinAssert cut) s = .next s)

/-- What a failing supply and the reset pin leave of the work they cut: a record write's slot is torn, or complete when
its mark was written; a bank under erase has no header; a header or a complete mark stands when it was written; every
other bank is as it was (R129, R146). The rules name these outcomes and no more. Three things are the model's choice
(log 24): that the cutting command's operand says which of them a cut finds; that one flag of it serves a record's
mark, a header write and a mark write alike; and that an erase clears slots from the last one down, so that a cut one
leaves the first slots of its bank. -/
def Obligations.CutWorkLeavesTheBanksAsStated : Prop :=
  ∀ (s : State) (cut : Cut), s.clk.powerReset = false → s.clk.pinHeld = false →
    ∀ c ∈ [Instr.supplyFail cut, Instr.resetPinAssert cut], ∃ t, exec c s = .next t ∧
      (∀ w i, s.rj.record = some w → s.rj.writesTo = some i → s.rj.operation = none ∨ i ≠ s.rj.newBank →
        t.rj.bank i = { s.rj.bank i with
          slots := (s.rj.bank i).slots ++ [if cut.markWritten then .complete w.subject w.image else .torn] }) ∧
      (s.rj.record = none ∨ s.rj.writesTo ≠ some s.rj.newBank →
        (s.rj.operation = some .erase →
          t.rj.bank s.rj.newBank = ⟨0, false, (s.rj.bank s.rj.newBank).slots.take cut.slotsLeft⟩) ∧
        (s.rj.operation = some .header → cut.markWritten = true →
          t.rj.bank s.rj.newBank = ⟨s.rj.nextGeneration, false, (s.rj.bank s.rj.newBank).slots⟩) ∧
        (s.rj.operation = some .header → cut.markWritten = false →
          t.rj.bank s.rj.newBank = s.rj.bank s.rj.newBank) ∧
        (s.rj.operation = some .mark →
          t.rj.bank s.rj.newBank = { s.rj.bank s.rj.newBank with complete := cut.markWritten })) ∧
      (∀ i, s.rj.record = none ∨ s.rj.writesTo ≠ some i → s.rj.operation = none ∨ i ≠ s.rj.newBank →
        t.rj.bank i = s.rj.bank i)

/-- The reset point of a RESET request: every block is in reset but for the frames in passage, the supply and the
banks, and start-up goes on from the bank scan (R153, R146). The model's own are: that the command is the frame timer's
frame start (DEDUCED, log 4) and changes nothing while no reset is due (log 3), that no bank is active until the bank
scan (log 7), that an open row gap ends with it (log 50), and that each direction stays inside its frame in passage
with the record it sent last (DEDUCED, log 30).
What becomes of work on a bank that is finished first is a free value (log 11), so the banks are stated where no work
is in progress. -/
def Obligations.ResetPointClearsTheBlocks : Prop :=
  ∀ s : State,
    (s.forwarding = true → s.clk.reset = .ready → ∃ t, exec .resetPoint s = .next t ∧
      t.clk = { s.clk with phase := .starting, reset := .none, now := max s.clk.now s.timerEnd, free := s.clk.free + 3 } ∧
      t.pp.frameStartAt = t.clk.now ∧ t.pp.startUp = true ∧ (∀ n, t.pp.route n = .blank) ∧ t.pp.gap = none ∧
      t.cm = ConditionMonitor.resetWith s.cm.supply ∧ t.re = RepairEngine.reset ∧ t.su = SenseUnit.reset ∧
      t.live = [] ∧ t.stored = [] ∧ t.nu = [] ∧ t.ci.feed = none ∧
      (∀ p, t.ci.port p = PortMonitor.reset ∧ t.ci.direction p =
        { DirectionState.reset with inFrame := (s.ci.direction p).inFrame, sent := (s.ci.direction p).sent }) ∧
      t.rj.active = none ∧ t.rj.owed = [] ∧ t.rj.record = none ∧ t.rj.operation = none ∧
      (s.rj.record = none → s.rj.operation = none → t.rj.bank0 = s.rj.bank0 ∧ t.rj.bank1 = s.rj.bank1)) ∧
    (s.clk.reset ≠ .ready → exec .resetPoint s = .next s)

/-- Start-up reaches the bank scan through the oscillator settle: power-up and the pin's release begin it unless the
other reset still holds, and its end, 4 ms later, starts forwarding and scanning (R151, R152). -/
def Obligations.StartUpRunsThroughTheSettle : Prop :=
  ∀ (s : State) (elapsed : Nat),
    (s.clk.powerReset = true → s.clk.pinHeld = false → exec (.powerUp elapsed) s = .next
      { s with
        cm := { s.cm with supply := .good }
        clk := { s.clk with
          now := s.clk.now + elapsed, powerReset := false, phase := .settling, settleFrom := s.clk.now + elapsed } }) ∧
    (s.clk.powerReset = true → s.clk.pinHeld = true → exec (.powerUp elapsed) s = .next
      { s with
        cm := { s.cm with supply := .good }
        clk := { s.clk with now := s.clk.now + elapsed, powerReset := false } }) ∧
    (s.clk.pinHeld = true → s.clk.powerReset = false → exec (.resetPinRelease elapsed) s = .next
      { s with clk := { s.clk with
          now := s.clk.now + elapsed, pinHeld := false, phase := .settling, settleFrom := s.clk.now + elapsed } }) ∧
    (s.clk.pinHeld = true → s.clk.powerReset = true → exec (.resetPinRelease elapsed) s = .next
      { s with clk := { s.clk with now := s.clk.now + elapsed, pinHeld := false } }) ∧
    (s.clk.phase = .settling → exec .oscillatorSettle s = .next
      { s with
        clk := { s.clk with now := max s.clk.now (s.clk.settleFrom + 4000), phase := .starting }
        pp := { s.pp with frameStartAt := max s.clk.now (s.clk.settleFrom + 4000) } })

/-- A supply gone LOW derates the drive at once, raises CONDITIONS, and stops the writer: at once when nothing is in
progress, after the work in progress otherwise: the end of the new bank's erase or of its header write then ends the
compaction without its mark, due again and with every subject that its walk took owed again, and the end of the old
bank's erase leaves the writer HELD. A supply back to GOOD starts the count of steady supply (R135, R139, R150,
R151). In reset and through the settle a change between the two sets the output scale to 40 with the supply LOW and to
the derate level with it GOOD (R39), and that no CONDITIONS is raised there is the model's reading (DEDUCED, log 38). -/
def Obligations.SupplyLowAndGoodActAsStated : Prop :=
  (∀ (s : State) (c : Instr) (bank : Bank), s.operating = true → s.rj.stopping = true →
    (c, s.rj.operation, s.rj.compacting, bank) ∈ [(Instr.bankEraseEnd true, some Operation.erase, true, ⟨0, false, []⟩),
      (.headerWriteEnd true, some .header, s.rj.compacting,
        ⟨s.rj.nextGeneration, false, (s.rj.bank s.rj.newBank).slots⟩)] →
    ∃ t, exec c s = .next t ∧ t = { s with rj := t.rj } ∧ t.rj.writer = .held false ∧ t.rj.due = true ∧
      t.rj.stopping = false ∧ t.rj.operation = none ∧ t.rj.heldReports = [] ∧ t.rj.bank s.rj.newBank = bank ∧
      t.rj.bank s.rj.newBank.other = s.rj.bank s.rj.newBank.other ∧
      (∀ n, n ∈ t.rj.owed ↔ n ∈ s.rj.owed ∨ n ∈ s.rj.walkTaken)) ∧
  (∀ s : State, s.operating = true → s.rj.stopping = true → s.rj.operation = some .erase → s.rj.writer = .erasingOld →
    s.rj.record = none →
    exec (.bankEraseEnd true) s = .next (s.withRj { s.rj.setBank s.rj.newBank ⟨0, false, []⟩ with
      operation := none, writer := .held false, stopping := false })) ∧
  (∀ (s : State) (elapsed : Nat), s.clk.powerReset = false → s.forwarding = false →
    (s.cm.supply = .good → exec .supplyLow s = .next { s with
      cm := { s.cm with supply := .low }, pp := { s.pp with scaleDerate := 40 } }) ∧
    (s.cm.supply = .low → exec (.supplyGood elapsed) s = .next { s with
      clk := { s.clk with now := s.clk.now + elapsed }
      cm := { s.cm with supply := .good }
      pp := { s.pp with scaleDerate := s.cm.derate.percent }
      rj := { s.rj with goodSince := s.clk.now + elapsed } })) ∧
  ∀ (s : State) (elapsed : Nat), s.clk.powerReset = false → s.operating = true →
    (s.cm.supply = .good → ∃ t, exec .supplyLow s = .next t ∧ t.cm = { s.cm with supply := .low } ∧
      t.pp = { s.pp with scaleDerate := 40 } ∧
      t = { s with cm := t.cm, pp := t.pp, rj := t.rj, nu := t.nu } ∧
      t.notice 13 = ⟨min ((s.notice 13).count + 1) 255, some (.conditions s.cm.thermal s.cm.derate .low)⟩ ∧
      (∀ k, k ≠ 13 → t.notice k = s.notice k) ∧
      (s.rj.record = none → s.rj.operation = none →
        t.rj = { s.rj with writer := s.rj.writer.stopped, stopping := false }) ∧
      (s.rj.record ≠ none ∨ s.rj.operation ≠ none → t.rj = { s.rj with stopping := true })) ∧
    (s.cm.supply = .low → ∃ t, exec (.supplyGood elapsed) s = .next t ∧ t.cm = { s.cm with supply := .good } ∧
      t.rj = { s.rj with goodSince := s.clk.now + elapsed } ∧ t.clk = { s.clk with now := s.clk.now + elapsed } ∧
      t = { s with cm := t.cm, clk := t.clk, rj := t.rj, nu := t.nu } ∧
      t.notice 13 = ⟨min ((s.notice 13).count + 1) 255, some (.conditions s.cm.thermal s.cm.derate .good)⟩ ∧
      (∀ k, k ≠ 13 → t.notice k = s.notice k))

/-- The countdown's end: thermal blank on while HOT, one derate level down while WARM and one up while NORMAL, the
countdown started again but at 100 % or while HOT, and CONDITIONS when the level or thermal blank changes (R149, R150). -/
def Obligations.TheCountdownStepsTheDerateLevel : Prop :=
  ∀ (s : State) (d : Nat), s.cm.countdown = some d →
    ∃ t, exec .derateCountdownExpiry s = .next t ∧ t.clk = { s.clk with now := max s.clk.now d } ∧
      t = { s with clk := t.clk, cm := t.cm, nu := t.nu } ∧
      (s.cm.thermal = .hot → t.cm = { s.cm with blank := true, countdown := none }) ∧
      (s.cm.thermal = .warm → t.cm.derate.percent = max 40 (s.cm.derate.percent - 20) ∧
        t.cm = { s.cm with derate := t.cm.derate, countdown := some (t.clk.now + s.setting 22 * 1000000) }) ∧
      (s.cm.thermal = .normal → t.cm.derate.percent = min 100 (s.cm.derate.percent + 20) ∧
        t.cm = { s.cm with
          derate := t.cm.derate
          countdown := if t.cm.derate = .d100 then none else some (t.clk.now + s.setting 22 * 1000000) }) ∧
      (t.cm.derate = s.cm.derate → t.cm.blank = s.cm.blank → t.nu = s.nu) ∧
      (t.cm.derate ≠ s.cm.derate ∨ t.cm.blank ≠ s.cm.blank →
        t.notice 13 = ⟨min ((s.notice 13).count + 1) 255, some (.conditions t.cm.thermal t.cm.derate t.cm.supply)⟩ ∧
        ∀ k, k ≠ 13 → t.notice k = s.notice k)

/-- A sensor reading is clamped to −40..+125 °C and rounded to a whole degree nearest to it (which one exactly half way
is a free value, log 8), and the thermal state follows the table of R147 for limits at least 5 °C apart. -/
def Obligations.SamplesAreRoundedAndMoveTheThermalState : Prop :=
  (∀ sensor : Int, -40 ≤ roundDegrees sensor ∧ roundDegrees sensor ≤ 125 ∧
    (sensor ≤ -40000 → roundDegrees sensor = -40) ∧ (125000 ≤ sensor → roundDegrees sensor = 125) ∧
    (-40000 ≤ sensor → sensor ≤ 125000 →
      sensor - 500 ≤ 1000 * roundDegrees sensor ∧ 1000 * roundDegrees sensor ≤ sensor + 500)) ∧
  ∀ t warm hot : Int, warm + 5 ≤ hot →
    (hot ≤ t → ∀ b, Thermal.after b t warm hot = .hot) ∧
    (warm ≤ t → t < hot → Thermal.after .normal t warm hot = .warm ∧ Thermal.after .warm t warm hot = .warm ∧
      Thermal.after .hot t warm hot = if hot - 5 < t then .hot else .warm) ∧
    (warm - 5 < t → t < warm → Thermal.after .normal t warm hot = .normal ∧ Thermal.after .warm t warm hot = .warm ∧
      Thermal.after .hot t warm hot = .warm) ∧
    (t ≤ warm - 5 → ∀ b, Thermal.after b t warm hot = .normal)

/-- Start-up ends with the active bank that the headers choose (of two complete banks whose generations are not
consecutive the one with the greater generation, bank 0 if they are equal), the settings live as they are stored, the
budget at BUDGET DEFAULT, no suspect and no proving, the damaged count of the active bank, and the writer in the form
its used count and live image count call for, HELD with the supply LOW. JOURNAL is raised with FRESH without a complete
bank, with BANK CONFLICT for generations that are not consecutive, with DAMAGED RECORD for each damaged record, and
with FULL for a FULL writer, in that order (R139, R140, R141, R142, R146, R152). -/
def Obligations.ReplayEndBringsThePartIntoOperation : Prop :=
  ∀ (s : State) (m : Moment), s.clk.phase = .starting → s.clk.reset ≠ .ready →
    ∃ t, exec (.replayEnd m) s = .next t ∧
      t.clk = { s.clk with now := s.clk.now + m.elapsed, phase := .running } ∧
      t.live = t.stored ∧ t.re.budget = t.setting 17 ∧ t.re.suspects = [] ∧ t.re.provings = [] ∧
      (s.rj.bank0.complete = false → s.rj.bank1.complete = false → t.rj.active = none) ∧
      (s.rj.bank0.complete = true → s.rj.bank1.complete = false → t.rj.active = some .zero) ∧
      (s.rj.bank0.complete = false → s.rj.bank1.complete = true → t.rj.active = some .one) ∧
      (s.rj.bank0.complete = true → s.rj.bank1.complete = true →
        s.rj.bank1.generation = (s.rj.bank0.generation + 1) % 16777216 → t.rj.active = some .one) ∧
      (s.rj.bank0.complete = true → s.rj.bank1.complete = true →
        s.rj.bank1.generation ≠ (s.rj.bank0.generation + 1) % 16777216 →
        s.rj.bank0.generation = (s.rj.bank1.generation + 1) % 16777216 → t.rj.active = some .zero) ∧
      (s.rj.bank0.complete = true → s.rj.bank1.complete = true →
        s.rj.bank1.generation ≠ (s.rj.bank0.generation + 1) % 16777216 →
        s.rj.bank0.generation ≠ (s.rj.bank1.generation + 1) % 16777216 →
        t.rj.active = some (if s.rj.bank0.generation < s.rj.bank1.generation then .one else .zero)) ∧
      (t.rj.active = none → t.rj.damaged = 0 ∧
        t.notice 14 = ⟨min ((s.notice 14).count + 1) 255, some (.journal .fresh)⟩) ∧
      (∀ i conflict damaged full, t.rj.active = some i →
        conflict = (if s.rj.bank0.complete = true ∧ s.rj.bank1.complete = true ∧
          s.rj.bank1.generation ≠ (s.rj.bank0.generation + 1) % 16777216 ∧
          s.rj.bank0.generation ≠ (s.rj.bank1.generation + 1) % 16777216 then 1 else 0) →
        damaged = (s.rj.bank i).slots.countP Slot.unusable →
        full = (if 896 ≤ t.rj.used ∧ 960 < t.rj.liveImages then 1 else 0) →
        t.rj.damaged = min damaged 255 ∧
        (conflict + damaged + full = 0 → t.notice 14 = s.notice 14) ∧
        (conflict + damaged + full ≠ 0 → t.notice 14 =
          ⟨min ((s.notice 14).count + (conflict + damaged + full)) 255, some (.journal
            (if full = 1 then .full else if damaged ≠ 0 then .damagedRecord else .bankConflict))⟩)) ∧
      t.cm.supply = s.cm.supply ∧
      (t.cm.supply ≠ .low →
        (896 ≤ t.rj.used → 960 < t.rj.liveImages → t.rj.writer = .full) ∧
        (896 ≤ t.rj.used ∨ t.rj.active = none → t.rj.liveImages ≤ 960 → t.rj.writer = .compacting .erase) ∧
        (t.rj.used < 896 → t.rj.active ≠ none → t.rj.writer = .idle)) ∧
      (t.cm.supply = .low →
        (896 ≤ t.rj.used → 960 < t.rj.liveImages → t.rj.writer = .held true) ∧
        (896 ≤ t.rj.used ∨ t.rj.active = none → t.rj.liveImages ≤ 960 → t.rj.writer = .held false ∧ t.rj.due = true) ∧
        (t.rj.used < 896 → t.rj.active ≠ none → t.rj.writer = .held false))

/-- Replay leaves each subject with the image of its last usable record, which that record's slot set, and with its
factory image without one. A record is usable when its image is one of its subject: of a cell HEALTHY, SPARED with a
channel of its group or CONCEALED for a reason but LINE, of a die USABLE or DEAD, of a channel FREE or FAILED, of a line
NORMAL or HELD, of a setting a value in its range, and of no subject above 19,482 (R141; that an image of another kind
is unusable is DEDUCED, log 25). A record written whole holds the check code of its subject and image; a slot whose check
code is another one and a torn slot set nothing (R129, R141; the bytes of an image are the model's choice, log 23).
Reconciliation takes a SPARED cell to CONCEALED(DIE DEAD) when its channel's image is FAILED, its die's DEAD, or a
record in a later slot names its channel for another cell, and every cell of a HELD line to CONCEALED(LINE); it leaves
no channel to two cells, a channel BOUND to the cell that still names it, else FAILED or FREE by its image, and a die
DEAD by its image, GOOD under a SPARED cell, else UNTRIED (R142). REPLAY-END leaves these in the tables: every cell,
die and channel so, every strike count 0, every line by its image with the tally of its counted cells and none undone,
every setting live and stored by its image, the thermal limits at their defaults where they are closer than 5 °C, the
live image count, and, from a part at rest, an empty owed list (R15, R116, R125, R127, R141, R142). -/
def Obligations.ReplayAndReconciliationRebuildTheTables : Prop :=
  ((∀ (slots later : List Slot) (n : Nat) (image : Image), imageFits n image = true →
    (∀ other, .complete n other ∈ later → imageFits n other = false) →
    Replayed.image (Replayed.applyAll [] 0 (slots ++ .complete n image :: later)) n = image ∧
    Replayed.slot (Replayed.applyAll [] 0 (slots ++ .complete n image :: later)) n = slots.length) ∧
  (∀ (slots : List Slot) (n : Nat), (∀ other, .complete n other ∈ slots → imageFits n other = false) →
    Replayed.image (Replayed.applyAll [] 0 slots) n = factoryImage n)) ∧
  ((∀ n image, Slot.complete n image = .marked n image (checkCode (byte2 n ++ image.bytes))) ∧
  (∀ (r : Replayed) (k n : Nat) (image : Image) (check : Half) (later : List Slot),
    check ≠ checkCode (byte2 n ++ image.bytes) →
    Replayed.applyAll r k (.marked n image check :: later) = Replayed.applyAll r (k + 1) later) ∧
  (∀ (r : Replayed) (k n : Nat) (image : Image) (check : Half) (later : List Slot), imageFits n image = false →
    Replayed.applyAll r k (.marked n image check :: later) = Replayed.applyAll r (k + 1) later) ∧
  (∀ (r : Replayed) (k : Nat) (later : List Slot),
    Replayed.applyAll r k (.torn :: later) = Replayed.applyAll r (k + 1) later)) ∧
  ((∀ n image, imageFits n image = true ↔
    (n < 9216 ∧ (image = .healthy ∨ (∃ c < 768, c / 4 = groupOf n ∧ image = .spared c) ∨
      ∃ reason, reason ≠ .line ∧ image = .concealed reason)) ∨
    (9216 ≤ n ∧ n < 18432 ∧ (image = .usable ∨ image = .dead)) ∨
    (18432 ≤ n ∧ n < 19200 ∧ (image = .free ∨ image = .failed)) ∨
    (19200 ≤ n ∧ n < 19440 ∧ (image = .normal ∨ image = .held)) ∨
    (19440 ≤ n ∧ n < 19483 ∧ ∃ v, image = .value v ∧ (Config.settingRow (n - 19440)).low ≤ v ∧
      v ≤ (Config.settingRow (n - 19440)).high)) ∧
  (∀ n image check, Slot.unusable (.marked n image check) = true ↔
    check ≠ checkCode (byte2 n ++ image.bytes) ∨ imageFits n image = false) ∧ Slot.unusable .torn = false) ∧
  (∀ (slots : List Slot) (r : Replayed), r = Replayed.applyAll [] 0 slots →
    (∀ n < 9216,
      (Replayed.image r (lineSubject (cLineOf n)) = .held ∨ Replayed.image r (lineSubject (rLineOf n)) = .held →
        Replayed.cellState r n = .concealed .line) ∧
      (Replayed.image r (lineSubject (cLineOf n)) ≠ .held → Replayed.image r (lineSubject (rLineOf n)) ≠ .held →
        (Replayed.image r n = .healthy → Replayed.cellState r n = .healthy) ∧
        (∀ reason, Replayed.image r n = .concealed reason → Replayed.cellState r n = .concealed reason) ∧
        ∀ c, Replayed.image r n = .spared c →
          (Replayed.image r (channelSubject c) = .failed ∨ Replayed.image r (dieSubject n) = .dead ∨
              (∃ m < 9216, Replayed.image r m = .spared c ∧ Replayed.slot r n < Replayed.slot r m) →
            Replayed.cellState r n = .concealed .dieDead) ∧
          (Replayed.image r (channelSubject c) ≠ .failed → Replayed.image r (dieSubject n) ≠ .dead →
              (∀ m < 9216, Replayed.image r m = .spared c → Replayed.slot r m ≤ Replayed.slot r n) →
            Replayed.cellState r n = .spared c)) ∧
      (Replayed.image r (dieSubject n) = .dead → Replayed.dieState r n = .dead) ∧
      (Replayed.image r (dieSubject n) ≠ .dead → (∀ c, Replayed.cellState r n ≠ .spared c) →
        Replayed.dieState r n = .untried) ∧
      ∀ c, Replayed.cellState r n = .spared c →
        (∀ m, Replayed.cellState r m = .spared c → m = n) ∧ Replayed.dieState r n = .good ∧
        Replayed.channelState r c = .bound n) ∧
    ∀ c < 768, (∀ n, Replayed.cellState r n ≠ .spared c) →
      Replayed.channelState r c = if Replayed.image r (channelSubject c) = .failed then .failed else .free) ∧
  ∀ (s : State) (m : Moment), s.clk.phase = .starting → s.clk.reset ≠ .ready →
    ∃ t, exec (.replayEnd m) s = .next t ∧ ∀ (slots : List Slot) (r : Replayed),
      slots = (match t.rj.active with | some i => (s.rj.bank i).slots | none => []) →
      r = Replayed.applyAll [] 0 slots →
      (∀ n < 9216, t.re.cell n = Replayed.cellState r n ∧ t.re.die n = Replayed.dieState r n) ∧
      (∀ c < 768, t.re.channel c = ⟨Replayed.channelState r c, 0⟩) ∧
      (∀ l < 240,
        (t.re.line l).state = (if Replayed.image r (lineSubject l) = .held then .held else .normal) ∧
        (t.re.line l).tally = (lineCells l).countP (fun n => (t.re.cell n).counted) ∧ (t.re.line l).undone = 0) ∧
      (∀ i < 43, t.setting i = t.storedSetting i ∧
        (i ≠ 20 → i ≠ 21 → .value (t.storedSetting i) = Replayed.image r (settingSubject i))) ∧
      (∀ warm hot, Replayed.image r (settingSubject 20) = .value warm → Replayed.image r (settingSubject 21) = .value hot →
        (t.storedSetting 20, t.storedSetting 21) = if warm + 5 ≤ hot then (warm, hot) else (70, 85)) ∧
      t.liveCounted ∧ (s.restsUntilOperation → t.rj.owed = [])

/-! ## The chain (chapter 10) -/

/-- A head raises the hop position of its direction to its hop count plus 1, at most 255, and is sent on with that
count and every other field as it came; a damaged head is sent on as it came, and the hop position stays (R157). -/
def Obligations.HeadsAreForwardedWithTheirHopRaised : Prop :=
  ∀ (s : State) (lane : Port), s.forwarding = true →
    (∀ (r : HeadRecord) (m : Moment), s.clk.reset ≠ .ready → ∃ t, exec (.frameHead lane r m) s = .next t ∧
      (t.ci.direction lane).hop = some (min (r.hopCount.toNat + 1) 255) ∧
      (t.ci.direction lane).sent =
        HeadRecord.bytes { r with hopCount := BitVec.ofNat 8 (min (r.hopCount.toNat + 1) 255) } ∧
      (t.ci.direction lane).queue = (s.ci.direction lane).queue ∧
      t.ci.direction (otherPort lane) = s.ci.direction (otherPort lane)) ∧
    (∀ bytes, goodRecord bytes = false → ∃ t, exec (.recordBadCheck lane bytes) s = .next t ∧
      (t.ci.direction lane).hop = (s.ci.direction lane).hop ∧ (t.ci.direction lane).sent = bytes)

/-- A head on the LIVE feed: its period is measured unless the interval is void, compared with the one in the history
and put in its place, with the mark and CADENCE CHANGE when the two differ by more than the tolerance; and it opens a
capture in an empty FILLING under the live window (R20, R21, R160, R163). Nothing else changes. -/
def Obligations.AHeadOnTheLiveFeedMeasuresAndOpensACapture : Prop :=
  ∀ (s : State) (lane : Port) (r : HeadRecord) (m : Moment),
    s.forwarding = true → s.ci.feed = some lane → (s.ci.port lane).live = true → s.ci.pendingSwitch = none →
    ∃ t, exec (.frameHead lane r m) s = .next t ∧
      t = { s with clk := t.clk, ci := t.ci, pp := t.pp, nu := t.nu } ∧
      t.clk = { s.clk with now := s.clk.now + m.elapsed } ∧
      t.pp = { s.pp with
        captureOpen := true
        window := ⟨s.setting 0, s.setting 1, decide (s.setting 2 = 1), decide (s.setting 3 = 1)⟩
        filling := ⟨[], r.flags.getLsbD 0, r.brightness, r.frameNumber⟩
        received := [] } ∧
      t.ci.port (otherPort lane) = s.ci.port (otherPort lane) ∧ t.ci.feed = s.ci.feed ∧
      t.ci.pendingSwitch = none ∧ t.ci.returnCount = s.ci.returnCount ∧ t.ci.leftNone = s.ci.leftNone ∧
      t.ci.direction (otherPort lane) = s.ci.direction (otherPort lane) ∧
      t.ci.direction lane = { s.ci.direction lane with
        hop := (t.ci.direction lane).hop, considered := 0, inFrame := true, sent := (t.ci.direction lane).sent } ∧
      (t.ci.port lane).live = true ∧ (t.ci.port lane).lastHead = t.clk.now ∧ (t.ci.port lane).voided = false ∧
      ((s.ci.port lane).voided = true → (t.ci.port lane).history = (s.ci.port lane).history ∧
        (t.ci.port lane).mark = (s.ci.port lane).mark ∧ t.nu = s.nu) ∧
      ((s.ci.port lane).voided = false →
        (t.ci.port lane).history = some (t.clk.now - (s.ci.port lane).lastHead) ∧
        ((s.ci.port lane).history = none → (t.ci.port lane).mark = (s.ci.port lane).mark ∧ t.nu = s.nu) ∧
        (∀ old new, (s.ci.port lane).history = some old → new = t.clk.now - (s.ci.port lane).lastHead →
          (new ≤ old + s.setting 26 → old ≤ new + s.setting 26 →
            (t.ci.port lane).mark = (s.ci.port lane).mark ∧ t.nu = s.nu) ∧
          (old + s.setting 26 < new ∨ new + s.setting 26 < old →
            (t.ci.port lane).mark = true ∧
            t.notice 11 = ⟨min ((s.notice 11).count + 1) 255, some (.cadenceChange lane old new)⟩ ∧
            ∀ k, k ≠ 11 → t.notice k = s.notice k)))

/-- With the feed NONE a head makes its port LIVE and the feed, and opens the first capture there; the first such change
after a reset raises no FEED CHANGED (R161). That the capture is open with this head's FILLING also where the change of
the feed brings a frame start at once, which then comes before it, is DEDUCED (log 17). -/
def Obligations.AHeadBringsTheFeedOutOfNone : Prop :=
  ∀ (s : State) (lane : Port) (r : HeadRecord) (m : Moment),
    s.forwarding = true → s.clk.reset ≠ .ready → s.ci.feed = none →
    ∃ t, exec (.frameHead lane r m) s = .next t ∧ t.ci.feed = some lane ∧ (t.ci.port lane).live = true ∧
      t.ci.leftNone = true ∧ t.ci.returnCount = 0 ∧ t.ci.pendingSwitch = none ∧ t.pp.captureOpen = true ∧
      t.pp.filling = ⟨[], r.flags.getLsbD 0, r.brightness, r.frameNumber⟩ ∧ t.pp.received = [] ∧
      (s.ci.leftNone = false → t.notice 10 = s.notice 10) ∧
      (s.ci.leftNone = true → ∃ cause,
        t.notice 10 = ⟨min ((s.notice 10).count + 1) 255, some (.feedChanged (some lane) cause)⟩)

/-- The head that takes the return count to 120 brings the feed back to the preferred port, with FEED CHANGED for the
cause RETURN and a capture opened there; one before it only adds to the count (R162). That FEED_RETURN is that head
itself, with all a head does, is DEDUCED (log 4), and so is that the head which makes the preferred port LIVE is
counted (log 18), and that a frame start which the change of the feed brings at once comes before its capture opens
(log 17). -/
def Obligations.TheReturnCountBringsTheFeedBack : Prop :=
  ∀ (s : State) (r : HeadRecord) (m : Moment),
    s.forwarding = true → s.clk.reset ≠ .ready → s.setting 25 = 1 → s.ci.pendingSwitch = none →
    s.ci.feed = some (otherPort s.preferredPort) →
    (s.ci.returnCount = 119 → ∀ c ∈ [Instr.feedReturn r m, Instr.frameHead s.preferredPort r m],
      ∃ t, exec c s = .next t ∧ t.ci.feed = some s.preferredPort ∧ t.ci.returnCount = 0 ∧
        (t.ci.port s.preferredPort).live = true ∧ t.pp.captureOpen = true ∧
        t.pp.filling = ⟨[], r.flags.getLsbD 0, r.brightness, r.frameNumber⟩ ∧
        t.notice 10 = ⟨min ((s.notice 10).count + 1) 255, some (.feedChanged (some s.preferredPort) .feedReturn)⟩) ∧
    (s.ci.returnCount < 119 → ∃ t, exec (.frameHead s.preferredPort r m) s = .next t ∧
      t.ci.feed = s.ci.feed ∧ t.ci.returnCount = s.ci.returnCount + 1 ∧ t.pp.captureOpen = s.pp.captureOpen ∧
      t.notice 10 = s.notice 10)

/-- A LIVE port without a good head for 100 ms becomes ABSENT with an empty history and its mark as it was; lost as the
feed, it leaves the other LIVE port as the pending switch, or the feed NONE when there is none, and lost as the pending
switch it leaves the feed NONE; a loss or change of the feed discards the capture in progress and empties FILLING, and
the shown frame stays (R24, R160, R161). The next good head on the pending switch's port makes that port the feed, with
FEED CHANGED for the cause LOSS and a capture opened there; one on the old feed port first drops the switch, and the
feed stays where it was (R161). That either head's capture is open also where that head brings a frame start at once,
which then comes before it, is DEDUCED (log 17). -/
def Obligations.APortIsLostAfter100Milliseconds : Prop :=
  (∀ (s : State) (lane : Port) (r : HeadRecord) (m : Moment),
    s.forwarding = true → s.clk.reset ≠ .ready →
    (s.ci.feed = some (otherPort lane) → s.ci.pendingSwitch = some lane →
      ∃ t, exec (.frameHead lane r m) s = .next t ∧ t.ci.feed = some lane ∧ t.ci.pendingSwitch = none ∧
        (t.ci.port lane).live = true ∧ t.ci.returnCount = 0 ∧ t.pp.captureOpen = true ∧
        t.pp.filling = ⟨[], r.flags.getLsbD 0, r.brightness, r.frameNumber⟩ ∧ t.pp.received = [] ∧
        t.pp.showing = s.pp.showing ∧
        t.notice 10 = ⟨min ((s.notice 10).count + 1) 255, some (.feedChanged (some lane) .loss)⟩) ∧
    (s.ci.feed = some lane → s.ci.pendingSwitch = some (otherPort lane) →
      ∃ t, exec (.frameHead lane r m) s = .next t ∧ t.ci.feed = some lane ∧ t.ci.pendingSwitch = none ∧
        (t.ci.port lane).live = true ∧ t.pp.captureOpen = true ∧
        t.pp.filling = ⟨[], r.flags.getLsbD 0, r.brightness, r.frameNumber⟩ ∧ t.pp.received = [] ∧
        t.notice 10 = s.notice 10)) ∧
  ∀ (s : State) (lane : Port) (sensor : Int),
    s.forwarding = true → s.clk.reset ≠ .ready → (s.ci.port lane).live = true →
    ∃ t, exec (.portLossWatchdog lane sensor) s = .next t ∧
      t.clk.now = max s.clk.now ((s.ci.port lane).lastHead + 100000) ∧
      t.ci.port lane = { s.ci.port lane with live := false, history := none } ∧
      t.ci.port (otherPort lane) = s.ci.port (otherPort lane) ∧
      (∀ p, t.ci.direction p = s.ci.direction p) ∧
      (lane = s.preferredPort → t.ci.returnCount = 0) ∧
      (s.ci.feed = some lane → (s.ci.port (otherPort lane)).live = true →
        t.ci.feed = some lane ∧ t.ci.pendingSwitch = some (otherPort lane) ∧ t.ci.returnCount = 0 ∧
        t.notice 10 = s.notice 10) ∧
      (s.ci.feed = some lane → (s.ci.port (otherPort lane)).live = false →
        t.ci.feed = none ∧ t.ci.pendingSwitch = none ∧
        t.notice 10 = ⟨min ((s.notice 10).count + 1) 255, some (.feedChanged none .loss)⟩) ∧
      (s.ci.feed ≠ some lane → s.ci.feed ≠ none → s.ci.pendingSwitch = some lane →
        t.ci.feed = none ∧ t.ci.pendingSwitch = none ∧
        t.notice 10 = ⟨min ((s.notice 10).count + 1) 255, some (.feedChanged none .loss)⟩) ∧
      (s.ci.feed ≠ some lane → s.ci.pendingSwitch ≠ some lane →
        t.ci.feed = s.ci.feed ∧ t.ci.pendingSwitch = s.ci.pendingSwitch ∧ t.notice 10 = s.notice 10 ∧ t.pp = s.pp) ∧
      (s.ci.feed = some lane ∨ s.ci.feed ≠ none ∧ s.ci.pendingSwitch = some lane →
        t.pp.captureOpen = false ∧ t.pp.filling = ⟨[], false, 0, 0⟩ ∧ t.pp.received = [] ∧
        t.pp.showing = s.pp.showing)

/-- A LINE record on the feed port, in an open capture that is not DARK, on a wall row that a tile row takes, gives
each tile column whose wall column it carries that wall pixel and marks it received; every other pixel, and everything
but the record sent on, stays. A LINE record that no capture takes is only sent on as it came. Tile column c takes wall
column ORIGIN COLUMN + c, or ORIGIN COLUMN + 63 − c DESCENDING, and tile row r wall row ORIGIN ROW + r, or ORIGIN ROW +
47 − r DESCENDING (R19, R22, R155). -/
def Obligations.ALineIsTakenIntoTheWindow : Prop :=
  (∀ w : Window,
    (∀ c < 64, w.wallColumn c = if w.columnDescending then w.originColumn + 63 - c else w.originColumn + c) ∧
    (∀ r < 48, w.wallRow r = if w.rowDescending then w.originRow + 47 - r else w.originRow + r) ∧
    ∀ row column, siteAt row column = row * 64 + column) ∧
  (∀ (s : State) (lane : Port) (r : LineRecord) (row : Nat),
    s.forwarding = true → LineRecord.inRange r = true → s.ci.feed = some lane → s.pp.captureOpen = true →
    s.pp.filling.dark = false → row < 48 → s.pp.window.wallRow row = r.wallRow →
    ∃ t, exec (.line lane r) s = .next t ∧
      (∀ i c, (hi : i < r.pixels.length) → c < 64 → s.pp.window.wallColumn c = r.firstColumn + i →
        r.firstColumn + i < 4096 →
        t.pp.filling.pixel (cellAt row c 0) = r.pixels[i].red ∧
        t.pp.filling.pixel (cellAt row c 1) = r.pixels[i].green ∧
        t.pp.filling.pixel (cellAt row c 2) = r.pixels[i].blue ∧ t.pp.got (siteAt row c) = true) ∧
      (∀ row' c, row' < 48 → c < 64 → row' ≠ row ∨ s.pp.window.wallColumn c < r.firstColumn ∨
          r.firstColumn + r.pixels.length ≤ s.pp.window.wallColumn c ∨ 4096 ≤ s.pp.window.wallColumn c →
        t.pp.got (siteAt row' c) = s.pp.got (siteAt row' c) ∧
        ∀ k < 3, t.pp.filling.pixel (cellAt row' c k) = s.pp.filling.pixel (cellAt row' c k)) ∧
      (t.ci.direction lane).sent = LineRecord.bytes r ∧
      t = { s.send lane (LineRecord.bytes r) with
        pp := { s.pp with
          filling := { s.pp.filling with pixels := t.pp.filling.pixels }, received := t.pp.received } }) ∧
  ∀ (s : State) (lane : Port) (r : LineRecord), s.forwarding = true →
    s.ci.feed ≠ some lane ∨ s.pp.captureOpen = false ∨ s.pp.filling.dark = true ∨
      (∀ row < 48, s.pp.window.wallRow row ≠ r.wallRow) →
    exec (.line lane r) s = .next (s.send lane (LineRecord.bytes r))

/-- An EMPTY slot takes the oldest reply of its direction, with the tile's identity, hop and flags as they stand, and
clears replies-lost; the DONE reply of a RESET makes the reset due. Every other slot passes unchanged (R153, R158). The
flags are the attention summary, which is the least priority of the pending kinds or 8 for NONE, replies-lost in bit 4,
unrecorded in bit 5 and black in bit 6 (R156, R172). Two things are the model's choice: that bit 7 of the flags is 0
(log 21), and the source hop 0 while the hop position is unknown (log 46). -/
def Obligations.ASlotTakesTheOldestReply : Prop :=
  (∀ (s : State) (lane : Port), (∀ k < 15, s.setting (28 + k) ≤ 7) → ∃ summary ≤ 8,
    s.replyFlags lane = BitVec.ofNat 8 (summary + (if (s.ci.direction lane).repliesLost then 16 else 0) +
      (if s.rj.unrecorded then 32 else 0) + (if s.black then 64 else 0)) ∧
    ((∀ k < 15, (s.notice k).count = 0) → summary = 8) ∧
    (∀ k < 15, (s.notice k).count ≠ 0 → summary ≤ s.setting (28 + k)) ∧
    (summary ≠ 8 → ∃ k < 15, (s.notice k).count ≠ 0 ∧ summary = s.setting (28 + k))) ∧
  ∀ (s : State) (lane : Port) (r : SlotRecord), s.forwarding = true → SlotRecord.inRange r = true →
    (∀ reply rest, (s.ci.direction lane).queue = reply :: rest → r.state = 0 →
      ∃ t, exec (.replySlot lane r) s = .next t ∧
        t = { s.setDirection lane { s.ci.direction lane with
          queue := rest
          repliesLost := false
          sent := SlotRecord.bytes {
            state := 1
            sourceId := BitVec.ofNat 16 (s.setting 23)
            sourceHop := BitVec.ofNat 8 ((s.ci.direction lane).hop.getD 0)
            sourceDirection := match lane with | .a => 0 | .b => 1
            tag := reply.tag
            kind := reply.kind
            status := reply.status
            flags := s.replyFlags lane
            queued := BitVec.ofNat 8 rest.length
            takenFrame := reply.takenFrame
            bodyLength := BitVec.ofNat 8 reply.body.length
            bodyArea := (reply.body ++ List.replicate 48 0).take 48 } } with clk := t.clk } ∧
        (s.clk.reset = .waiting lane → reply.kind = 5 → reply.status = 0 →
          t.clk = { s.clk with reset := .ready }) ∧
        (s.clk.reset ≠ .waiting lane ∨ reply.kind ≠ 5 ∨ reply.status ≠ 0 → t.clk = s.clk)) ∧
    ((s.ci.direction lane).queue = [] ∨ r.state ≠ 0 →
      exec (.replySlot lane r) s = .next (s.send lane (SlotRecord.bytes r)))

/-- A tail on either port: while attention is set its count goes up by 1, at most 255, and a first attention ID of 0
becomes the TILE ID; while attention is clear it passes unchanged; and the request decoder's frame ends. Nothing else
changes in the chain. Off the feed port nothing else changes at all; on a feed port that is not LIVE the capture is
CLOSED, and there is no frame start. Attention is set exactly while some pending kind has a priority at or below
ATTENTION LEVEL (R23, R25, R159, R163, R172). -/
def Obligations.TailsAreMarkedWhileAttentionIsSet : Prop :=
  (∀ (s : State) (lane : Port) (r : TailRecord) (m : Moment), s.forwarding = true → s.ci.feed ≠ some lane →
    exec (.frameTail lane r m) s = .next ((s.tick m.elapsed).setDirection lane { s.ci.direction lane with
      inFrame := false
      sent := TailRecord.bytes (if s.attention then
          ⟨BitVec.ofNat 8 (min (r.attentionCount.toNat + 1) 255),
            if r.firstAttentionId = 0 then BitVec.ofNat 16 (s.setting 23) else r.firstAttentionId⟩
        else r) })) ∧
  (∀ (s : State) (lane : Port) (r : TailRecord) (m : Moment) (marked : TailRecord), s.forwarding = true →
    s.ci.feed = some lane →
    marked = (if s.attention then
        ⟨BitVec.ofNat 8 (min (r.attentionCount.toNat + 1) 255),
          if r.firstAttentionId = 0 then BitVec.ofNat 16 (s.setting 23) else r.firstAttentionId⟩
      else r) →
    ((s.ci.port lane).live = false → exec (.frameTail lane r m) s = .next
      (((s.tick m.elapsed).setDirection lane { s.ci.direction lane with
        inFrame := false, sent := TailRecord.bytes marked }).withPp { s.pp with captureOpen := false })) ∧
    ((s.ci.port lane).live = true → s.clk.reset ≠ .ready → ∃ t, exec (.frameTail lane r m) s = .next t ∧
      t.ci = (s.setDirection lane { s.ci.direction lane with
        inFrame := false, sent := TailRecord.bytes marked }).ci)) ∧
  ∀ s : State, s.attention = true ↔ ∃ k < 15, (s.notice k).count ≠ 0 ∧ s.setting (28 + k) ≤ s.setting 27

/-- A tail on the LIVE feed is a frame start: a complete FILLING becomes the shown frame and the repeat count 0, and
without one the shown frame is shown again, the count rises, and STALE is set from 30 repeats on; FILLING is emptied,
the capture closed, the frame counter raised and the frame timer restarted. FILLING is complete in two cases only: an
open capture of a DARK frame, or one with every pixel inside the wall received (R23, R25, R26). -/
def Obligations.ATailOnTheLiveFeedStartsAFrame : Prop :=
  (∀ pp : PixelPath, pp.complete = true ↔ pp.captureOpen = true ∧ (pp.filling.dark = true ∨
    ∀ row < 48, ∀ c < 64, pp.window.wallRow row < 4096 → pp.window.wallColumn c < 4096 →
      pp.got (siteAt row c) = true)) ∧
  ∀ (s : State) (lane : Port) (r : TailRecord) (m : Moment),
    s.forwarding = true → s.clk.reset ≠ .ready → s.ci.feed = some lane → (s.ci.port lane).live = true →
    ∃ t, exec (.frameTail lane r m) s = .next t ∧
      t.clk = { s.clk with now := s.clk.now + m.elapsed } ∧
      (s.pp.complete = true → t.pp.showing = s.pp.filling ∧ t.pp.repeats = 0 ∧ t.pp.stale = false) ∧
      (s.pp.complete = false → t.pp.showing = s.pp.showing ∧ t.pp.repeats = min (s.pp.repeats + 1) 255 ∧
        (t.pp.stale = true ↔ s.pp.stale = true ∨ 30 ≤ min (s.pp.repeats + 1) 255)) ∧
      t.pp.captureOpen = false ∧ t.pp.filling = ⟨[], false, 0, 0⟩ ∧ t.pp.received = [] ∧
      t.pp.frame = s.pp.frame + 1 ∧ t.pp.frameStartAt = s.clk.now + m.elapsed ∧ t.pp.nextGap = 0 ∧
      t.pp.gap = s.pp.gap ∧ t.pp.window = s.pp.window ∧
      (∀ n, t.setting n = s.setting n ∧ t.storedSetting n = s.storedSetting n)

/-- A record that is no good record is sent on as it came; one with a bad check voids the interval between the heads
around it, and nothing else changes (R155, R156, R160). -/
def Obligations.ADamagedRecordVoidsTheInterval : Prop :=
  ∀ (s : State) (lane : Port) (bytes : List Byte), s.forwarding = true → goodRecord bytes = false →
    (goodCheck bytes = false → exec (.recordBadCheck lane bytes) s =
      .next ((s.send lane bytes).setPort lane { s.ci.port lane with voided := true })) ∧
    (goodCheck bytes = true → exec (.recordBadCheck lane bytes) s = .next (s.send lane bytes))

/-! ## Frame starts and the pixel path (chapters 2 and 9) -/

/-- The frame timer's end is a frame start that shows the shown frame again: the repeat count rises and STALE is set
from 30 repeats on; the expected period is latched; the temperature is sampled and the thermal state set, with the
countdown, thermal blank and CONDITIONS following a change of it; the sense status follows, and a running survey is CUT
on a frame that is not DARK or is a HOLD frame; the due counts of the entries without a condemned mark fall by 1, and
no entry joins the list; the output scale is latched. STALE names the frame start at which the repeat count reaches 30
(R25, R26, R33, R52, R60, R68, R104, R147, R148, R150; log 4, and log 16 for the order of the blocks). -/
def Obligations.TheFrameTimerStartsARepeatedFrame : Prop :=
  (∀ s : State,
    (∀ p, s.ci.feed = some p → (s.ci.port p).live = true → s.timerEnd = s.pp.frameStartAt + 2 * s.pp.expected) ∧
    ((∀ p, s.ci.feed = some p → (s.ci.port p).live = false) → s.timerEnd = s.pp.frameStartAt + s.setting 4 * 100)) ∧
  ∀ (s : State) (sensor : Int), s.forwarding = true → s.clk.reset ≠ .ready →
    (∃ t, exec (.frameTimerExpiry sensor) s = .next t ∧ (s.pp.repeats = 29 → exec (.stale sensor) s = .next t) ∧
      t.clk = { s.clk with now := max s.clk.now s.timerEnd } ∧ t.ci = s.ci ∧ t.live = s.live ∧ t.stored = s.stored ∧
      t.pp.showing = s.pp.showing ∧ t.pp.repeats = min (s.pp.repeats + 1) 255 ∧
      (t.pp.stale = true ↔ s.pp.stale = true ∨ 30 ≤ min (s.pp.repeats + 1) 255) ∧
      t.pp.captureOpen = false ∧ t.pp.filling = ⟨[], false, 0, 0⟩ ∧ t.pp.frame = s.pp.frame + 1 ∧
      t.pp.frameStartAt = max s.clk.now s.timerEnd ∧ t.pp.nextGap = 0 ∧
      t.cm.temp = some (roundDegrees sensor) ∧
      t.cm.thermal = s.cm.thermal.after (roundDegrees sensor) (s.setting 20) (s.setting 21) ∧
      t.cm.derate = s.cm.derate ∧ t.cm.supply = s.cm.supply ∧
      t.su.sweepCount = 0 ∧ t.su.condition = s.su.condition ∧ t.su.baselines = s.su.baselines ∧
      t.su.status = (if roundDegrees sensor < -20 ∨ 75 < roundDegrees sensor then .hold
        else match s.su.condition with | .sound => .ok | .failed => .faulted) ∧
      t.pp.scaleBrightness = s.pp.showing.brightness ∧
      t.pp.scaleDerate = (if s.cm.supply = .low then 40 else s.cm.derate.percent) ∧
      (∀ p period, s.ci.feed = some p → (s.ci.port p).live = true → (s.ci.port p).history = some period →
        t.pp.expected = max 8300 (min period 41700)) ∧
      ((∀ p, s.ci.feed = some p → (s.ci.port p).live = false ∨ (s.ci.port p).history = none) →
        t.pp.expected = s.setting 4 * 100) ∧
      (t.cm.thermal = s.cm.thermal → t.cm.countdown = s.cm.countdown ∧ t.cm.blank = s.cm.blank ∧
        t.notice 13 = s.notice 13) ∧
      (t.cm.thermal ≠ s.cm.thermal →
        t.notice 13 = ⟨min ((s.notice 13).count + 1) 255, some (.conditions t.cm.thermal s.cm.derate s.cm.supply)⟩ ∧
        (s.cm.thermal = .hot → t.cm.blank = false) ∧ (s.cm.thermal ≠ .hot → t.cm.blank = s.cm.blank) ∧
        (s.cm.thermal = .normal → t.cm.thermal = .warm →
          t.cm.countdown = some (s.cm.countdown.getD (t.clk.now + s.setting 22 * 1000000))) ∧
        (t.cm.thermal = .hot → t.cm.countdown =
          some (min (s.cm.countdown.getD (t.clk.now + 60000000)) (t.clk.now + 60000000))) ∧
        (s.cm.thermal = .hot → t.cm.thermal = .warm →
          t.cm.countdown = some (t.clk.now + s.setting 22 * 1000000)) ∧
        (t.cm.thermal = .normal → t.cm.countdown =
          if s.cm.derate = .d100 then none else some (t.clk.now + s.setting 22 * 1000000))) ∧
      (s.pp.showing.dark = false ∨ t.su.status = .hold → t.su.survey = none ∧
        ∀ v, s.su.survey = some v → t.notice 9 =
          ⟨min ((s.notice 9).count + 1) 255, some (.surveyEnded .cut v.done v.units v.bad)⟩) ∧
      (s.su.survey = none ∨ (s.pp.showing.dark = true ∧ t.su.status ≠ .hold) →
        t.su.survey = s.su.survey ∧ t.notice 9 = s.notice 9) ∧
      (∀ e ∈ t.re.suspects, ∃ x ∈ s.re.suspects,
        e = { x with due := if x.evidence = s.setting 13 then x.due else x.due - 1 }) ∧
      ((∀ x ∈ s.re.suspects, x.evidence ≠ s.setting 13) → (∀ p ∈ s.re.provings, p.age < 119) →
        t.re = { s.re with
          suspects := s.re.suspects.map fun x => { x with due := x.due - 1 }
          provings := s.re.provings.map fun p => { p with age := p.age + 1 } })) ∧
    (s.pp.repeats ≠ 29 → exec (.stale sensor) s = .next s)

/-- A frame start applies every pending route and empties the set; the first one in operation after a reset instead
clears START-UP and gives every cell the route its state calls for by the table of R14 (R31, R35). Stated where the
Repair Engine has nothing of its own to do at the frame start, which could post more routes in it. -/
def Obligations.AFrameStartAppliesThePendingRoutes : Prop :=
  (∀ (r : RepairEngine) (n : Nat),
    (r.cell n = .healthy ∨ r.cell n = .suspect → r.calledRoute n = .primary) ∧
    (∀ k, r.cell n = .spared k → (r.die n = .good ∨ r.die n = .suspect → r.calledRoute n = .spare k) ∧
      (r.die n = .condemned → r.calledRoute n = .blank)) ∧
    (r.cell n = .condemned ∨ (∃ phase k, r.cell n = .pendingSpare phase k) ∨ (∃ reason, r.cell n = .concealed reason) →
      r.calledRoute n = .blank)) ∧
  ∀ (s : State) (sensor : Int), s.forwarding = true → s.clk.reset ≠ .ready → s.pp.canonical →
    s.re.suspects = [] → s.re.provings = [] →
    ∃ t, exec (.frameTimerExpiry sensor) s = .next t ∧ t.pp.pendingRoutes = [] ∧ t.re = s.re ∧ t.rj = s.rj ∧
      (s.operating = true → s.pp.startUp = true → t.pp.startUp = false ∧
        ∀ n < 9216, t.pp.route n = s.re.calledRoute n) ∧
      (s.operating = false ∨ s.pp.startUp = false → t.pp.startUp = s.pp.startUp ∧
        ∀ n, t.pp.route n = (s.pp.pendingRoute n).getD (s.pp.route n))

/-- Nothing is driven while a blank cause is present, in an open row gap, or while the scan engine stands; otherwise a
cell is driven through the output that its active route names, at its pixel value times brightness and derate level, a
spare channel only while the channel table connects it to the cell's die (R6, R28, R31, R33, R34). The output is black
exactly while START-UP, STALE, MUTE, THERMAL or DARK is present, and MUTE is present exactly while its setting is ON and
the feed port's CADENCE CHANGE mark is set (R34, R36). That a channel which has left the cell inside a frame carries
nothing for it until the next frame start is deduced from R6 by the model (log 41). -/
def Obligations.TheActiveRouteDrivesTheCell : Prop :=
  (∀ s : State,
    (s.black = true ↔ s.pp.startUp = true ∨ s.pp.stale = true ∨ s.mute = true ∨ s.cm.blank = true ∨
      s.pp.showing.dark = true) ∧
    (s.mute = true ↔ s.setting 5 = 1 ∧ ∃ p, s.ci.feed = some p ∧ (s.ci.port p).mark = true)) ∧
  ∀ (s : State) (row column colour k : Nat), row < 48 → column < 64 → colour < 3 →
    (s.black = true ∨ s.forwarding = false ∨ s.pp.gap ≠ none →
      s.cLineDrive row (column * 3 + colour) = 0 ∧ s.spareDrive (cellAt row column colour) k = 0) ∧
    (s.black = false → s.forwarding = true → s.pp.gap = none →
      s.cLineDrive row (column * 3 + colour) =
        (if s.pp.route (cellAt row column colour) = .primary then
          (s.pp.showing.pixel (cellAt row column colour)).toNat * s.pp.scaleBrightness.toNat * s.pp.scaleDerate / 25500
        else 0) ∧
      s.spareDrive (cellAt row column colour) k =
        (if s.pp.route (cellAt row column colour) = .spare k ∧
            ((s.re.channel k).state = .proving (cellAt row column colour) ∨
              (s.re.channel k).state = .recording (cellAt row column colour) ∨
              (s.re.channel k).state = .bound (cellAt row column colour)) then
          (s.pp.showing.pixel (cellAt row column colour)).toNat * s.pp.scaleBrightness.toNat * s.pp.scaleDerate / 25500
        else 0))

/-- The frame start that is the 120th of a proving ends it: its cell becomes CONCEALED(UNPROVEN) and its channel takes
no strike; PROVING_TIMEOUT names such a frame start of the frame timer (R104; log 4). -/
def Obligations.AProvingTimesOutAt120Frames : Prop :=
  ∀ (s : State) (sensor : Int) (p : Proving), s.forwarding = true → s.clk.reset ≠ .ready → s.re.consistent →
    p ∈ s.re.provings → p.age = 119 →
    ∃ t, exec (.provingTimeout sensor) s = .next t ∧ exec (.frameTimerExpiry sensor) s = .next t ∧
      t.re.cell p.cell = .concealed .unproven ∧ (∀ q ∈ t.re.provings, q.cell ≠ p.cell) ∧
      (t.re.channel p.channel).strike = (s.re.channel p.channel).strike ∧
      ((s.notice 2).count < (t.notice 2).count ∨ 255 ≤ (t.notice 2).count)

/-! ## Measuring (chapters 3 and 4) -/

/-- A row gap opens with its index and frame, and the arbiter decides it: none in a HOLD frame, gap 0 alone for the
reference check in a FAULTED one; else gap 0 to the reference, and every other gap to the first proving of its row,
before the first due retest of its row, before the survey's next qualifying cell of the row while the row has not
wrapped, before the sweep when its next cell lies in the row and the rate allows (R28, R58, R63). A proving claims
while it is in its proving phase, an entry while its due count is 0 and it is not condemned, each the first in its list
of those in the row (R59, R61); the sweep's next cell is the first qualifying one at or after its cursor, wrapping
(R62). A survey search that reaches the row's end without a qualifying cell sets the row's wrapped mark and uses no
gap: with the last mark the pass ends, and with the last pass the survey, DONE (R66, R67, R70; that the gap then stays
unused is DEDUCED, log 19). -/
def Obligations.TheArbiterGrantsTheGap : Prop :=
  (∀ (s : State) (row : Nat),
    (s.mayOpenGap = true ↔ s.forwarding = true ∧ s.pp.startUp = false ∧ s.pp.gap = none ∧ s.pp.nextGap < 384) ∧
    (∀ p, s.provingClaim row = some p ↔ ∃ front back, s.re.provings = front ++ p :: back ∧ p.phase = .proving ∧
      rowOf p.cell = row ∧ ∀ x ∈ front, x.phase = .proving → rowOf x.cell ≠ row) ∧
    (s.provingClaim row = none ↔ ∀ x ∈ s.re.provings, x.phase = .proving → rowOf x.cell ≠ row) ∧
    (∀ e, s.retestClaim row = some e ↔ ∃ front back, s.re.suspects = front ++ e :: back ∧ e.due = 0 ∧
      e.evidence ≠ s.setting 13 ∧ rowOf e.unit.cell = row ∧
      ∀ x ∈ front, x.due = 0 → x.evidence ≠ s.setting 13 → rowOf x.unit.cell ≠ row) ∧
    (s.retestClaim row = none ↔
      ∀ x ∈ s.re.suspects, x.due = 0 → x.evidence ≠ s.setting 13 → rowOf x.unit.cell ≠ row) ∧
    (∀ n, (s.re.cell n = .healthy → s.re.servingUnit n = some (⟨.primary, n⟩, none)) ∧
      (∀ k, s.re.cell n = .spared k → s.re.die n = .good → s.re.servingUnit n = some (⟨.spare, n⟩, some k)) ∧
      (s.re.cell n ≠ .healthy → (∀ k, s.re.cell n = .spared k → s.re.die n ≠ .good) → s.re.servingUnit n = none) ∧
      s.re.pulseChannel ⟨.primary, n⟩ = none ∧
      ∀ k, s.re.cell n = .spared k → s.re.pulseChannel ⟨.spare, n⟩ = some k) ∧
    (s.su.sweepCursor < 9216 →
      (s.sweepNext = none ↔ ∀ n < 9216, s.re.servingUnit n = none) ∧
      ∀ n, s.sweepNext = some n ↔ n < 9216 ∧ s.re.servingUnit n ≠ none ∧
        (s.su.sweepCursor ≤ n ∧ (∀ x, s.su.sweepCursor ≤ x → x < n → s.re.servingUnit x = none) ∨
          n < s.su.sweepCursor ∧ (∀ x < n, s.re.servingUnit x = none) ∧
            ∀ x, s.su.sweepCursor ≤ x → x < 9216 → s.re.servingUnit x = none))) ∧
  (∀ s : State, s.mayOpenGap = true →
    ∃ t, exec .rowGapOpen s = .next t ∧ t = { s with pp := t.pp, su := t.su, nu := t.nu } ∧
      t.pp = { s.pp with nextGap := s.pp.nextGap + 1, gap := some ⟨s.pp.nextGap, s.pp.frame⟩ } ∧
      (s.su.status = .hold → t.su = s.su ∧ t.nu = s.nu) ∧
      (s.su.status ≠ .hold → s.pp.nextGap = 0 → t.nu = s.nu ∧
        t.su = { s.su with inFlight := some ⟨.reference, 0, s.pp.frame, s.cm.temp, false, false, false, false⟩ }) ∧
      (s.su.status = .faulted → s.pp.nextGap ≠ 0 → t.su = s.su ∧ t.nu = s.nu) ∧
      (s.su.status = .ok → s.pp.nextGap ≠ 0 →
        (∀ p, s.provingClaim (s.pp.nextGap % 48) = some p → t.nu = s.nu ∧
          t.su = { s.su with inFlight := some ⟨.unit ⟨.spare, p.cell⟩ .proving (some p.channel), s.pp.nextGap,
            s.pp.frame, s.cm.temp, false, false, false, false⟩ }) ∧
        (s.provingClaim (s.pp.nextGap % 48) = none →
          (∀ e, s.retestClaim (s.pp.nextGap % 48) = some e → t.nu = s.nu ∧
            t.su = { s.su with inFlight := some ⟨.unit e.unit .retest (s.re.pulseChannel e.unit), s.pp.nextGap,
              s.pp.frame, s.cm.temp, false, false, false, false⟩ }) ∧
          (s.retestClaim (s.pp.nextGap % 48) = none → s.su.survey = none → t.nu = s.nu ∧
            (∀ n u channel, s.sweepNext = some n → rowOf n = s.pp.nextGap % 48 → s.su.sweepCount < s.setting 11 →
              s.re.servingUnit n = some (u, channel) →
              t.su = { s.su with
                sweepCursor := (n + 1) % 9216
                sweepCount := s.su.sweepCount + 1
                inFlight := some ⟨.unit u .sweep channel, s.pp.nextGap, s.pp.frame, s.cm.temp, false, false, false,
                  false⟩ }) ∧
            ((∀ n, s.sweepNext = some n → rowOf n ≠ s.pp.nextGap % 48) ∨ s.setting 11 ≤ s.su.sweepCount →
              t.su = s.su))))) ∧
  (∀ (s : State) (v : Survey), s.mayOpenGap = true → s.su.status = .ok → s.pp.nextGap ≠ 0 →
    s.provingClaim (s.pp.nextGap % 48) = none → s.retestClaim (s.pp.nextGap % 48) = none → s.su.survey = some v →
    ∃ t, exec .rowGapOpen s = .next t ∧
      ((v.cursor (s.pp.nextGap % 48)).wrapped = true → t.su = s.su ∧ t.nu = s.nu) ∧
      ((v.cursor (s.pp.nextGap % 48)).wrapped = false →
        (∀ x, (v.cursor (s.pp.nextGap % 48)).position ≤ x → x < 192 →
          s.re.servingUnit (s.pp.nextGap % 48 * 192 + x) = none) →
        v.wrapsRow (s.pp.nextGap % 48) t.su.survey (s.notice 9) (t.notice 9) ∧
        t.su = { s.su with survey := t.su.survey, inFlight := t.su.inFlight } ∧
        (s.su.inFlight = none → t.su.inFlight = none) ∧ ∀ j, j ≠ 9 → t.notice j = s.notice j)) ∧
  (∀ (s : State) (v : Survey) (q : Nat) (u : UnitId) (channel : Option Nat),
    s.mayOpenGap = true → s.su.status = .ok → s.pp.nextGap ≠ 0 → s.provingClaim (s.pp.nextGap % 48) = none →
    s.retestClaim (s.pp.nextGap % 48) = none → s.su.survey = some v →
    (v.cursor (s.pp.nextGap % 48)).wrapped = false → (v.cursor (s.pp.nextGap % 48)).position ≤ q → q < 192 →
    (∀ x, (v.cursor (s.pp.nextGap % 48)).position ≤ x → x < q →
      s.re.servingUnit (s.pp.nextGap % 48 * 192 + x) = none) →
    s.re.servingUnit (s.pp.nextGap % 48 * 192 + q) = some (u, channel) →
    ∃ t w, exec .rowGapOpen s = .next t ∧ t.nu = s.nu ∧ t.su = { s.su with
        survey := some w
        inFlight := some ⟨.unit u .survey channel, s.pp.nextGap, s.pp.frame, s.cm.temp, false, false, true,
          decide (q = 191)⟩ } ∧
      w.requested = v.requested ∧ w.done = v.done ∧ w.units = v.units ∧ w.bad = v.bad ∧
      w.cursor (s.pp.nextGap % 48) = ⟨if q = 191 then 0 else q + 1, false⟩ ∧
      (∀ row, row ≠ s.pp.nextGap % 48 → w.cursor row = v.cursor row))

/-- A raw count is compensated for the frame temperature's distance from 30 °C, truncated toward zero, within 0..1023;
the first of the four tests that it meets decides its class; and a GOOD verdict teaches the baseline entry: three
counts are gathered, the fourth sets the mean, and a SET entry then moves one tick toward the count (R43, R44, R46). -/
def Obligations.CountsAreCompensatedClassifiedAndLearned : Prop :=
  (∀ (raw tempco : Nat) (t : Int),
    (30 ≤ t → (compensated raw (some t) tempco : Int) = max 0 (min 1023 (raw - (t - 30) * tempco / 16))) ∧
    (t ≤ 30 → (compensated raw (some t) tempco : Int) = min 1023 (raw + (30 - t) * tempco / 16))) ∧
  (∀ (s : State) (raw comp : Nat) (b : Baseline),
    (s.setting 6 ≤ raw → s.classify raw comp b = .bad .openFault) ∧
    (raw < s.setting 6 → comp < s.setting 7 → s.classify raw comp b = .bad .shortFault) ∧
    (raw < s.setting 6 → s.setting 7 ≤ comp → (∀ v, b ≠ .set v) → s.classify raw comp b = .good) ∧
    (∀ v, raw < s.setting 6 → s.setting 7 ≤ comp → b = .set v →
      s.classify raw comp b =
        if (s.setting 8 + 1) * 6 < comp - v ∨ (s.setting 8 + 1) * 6 < v - comp then .bad .driftFault else .good)) ∧
  (∀ c, Baseline.next .none c = .learning 1 c) ∧
  (∀ n sum c, n < 3 → Baseline.next (.learning n sum) c = .learning (n + 1) (sum + c)) ∧
  (∀ sum c, Baseline.next (.learning 3 sum) c = .set ((sum + c) / 4)) ∧
  (∀ v c, v < c → Baseline.next (.set v) c = .set (v + 1)) ∧
  (∀ v c, c < v → Baseline.next (.set v) c = .set (v - 1)) ∧ (∀ v, Baseline.next (.set v) v = .set v)

/-- The end of a granted gap forms one verdict: it is counted, a GOOD one feeds the least and greatest count and
teaches the unit's baseline unless its update is dropped, and no measurement is in flight and no gap open any more. A
verdict of a grant that the running survey made adds 1 to its units measured and, when it is bad, 1 to its bad
verdicts; where that grant took the row's last position, the row's wrapped mark is then set, which can end the pass,
and with the last pass the survey, DONE (R66, R67, R70); any other verdict leaves the survey. The end of an unused gap
only closes it (R28, R42 to R47, R53). -/
def Obligations.AGapEndCountsItsVerdict : Prop :=
  (∀ (s : State) (ticks : Nat) (regulated : Bool), s.su.inFlight = none →
    exec (.rowGapEnd ticks regulated) s = .next { s with pp := { s.pp with gap := none } }) ∧
  ∀ (s : State) (m : Measurement) (u : UnitId) (purpose : Purpose) (channel : Option Nat) (ticks : Nat)
    (regulated : Bool) (raw comp : Nat),
    s.pp.gap.isSome = true → s.su.inFlight = some m → m.grant = .unit u purpose channel →
    raw = (if m.cut = true ∧ regulated = false then 1023 else min ticks 1023) →
    comp = compensated raw m.temp (s.setting 9) →
    ∃ t, exec (.rowGapEnd ticks regulated) s = .next t ∧ t.pp.gap = none ∧ t.su.inFlight = none ∧
      t.clk = s.clk ∧ t.live = s.live ∧ t.stored = s.stored ∧ t.ci = s.ci ∧ t.cm = s.cm ∧
      t.su.status = s.su.status ∧ t.su.condition = s.su.condition ∧ t.su.history = s.su.history ∧
      t.su.sweepCursor = s.su.sweepCursor ∧
      (s.classify raw comp (s.su.baseline u) = .good →
        t.su.goodCount = min (s.su.goodCount + 1) 65535 ∧ t.su.openCount = s.su.openCount ∧
        t.su.shortCount = s.su.shortCount ∧ t.su.driftCount = s.su.driftCount ∧
        t.su.goodMin = min s.su.goodMin comp ∧ t.su.goodMax = max s.su.goodMax comp ∧
        (m.dropUpdate = true → t.su.baselines = s.su.baselines) ∧
        (m.dropUpdate = false → t.su.baseline u = (s.su.baseline u).next comp ∧
          ∀ x, x.key ≠ u.key → t.su.baseline x = s.su.baseline x)) ∧
      (∀ k, s.classify raw comp (s.su.baseline u) = .bad k →
        t.su.goodCount = s.su.goodCount ∧ t.su.goodMin = s.su.goodMin ∧ t.su.goodMax = s.su.goodMax ∧
        t.su.openCount = (if k = .openFault then min (s.su.openCount + 1) 65535 else s.su.openCount) ∧
        t.su.shortCount = (if k = .shortFault then min (s.su.shortCount + 1) 65535 else s.su.shortCount) ∧
        t.su.driftCount = (if k = .driftFault then min (s.su.driftCount + 1) 65535 else s.su.driftCount) ∧
        t.su.baselines = s.su.baselines) ∧
      (m.surveyed = false ∨ s.su.survey = none → t.su.survey = s.su.survey ∧ t.notice 9 = s.notice 9) ∧
      ∀ v w, m.surveyed = true → s.su.survey = some v →
        w = { v with
          units := v.units + 1
          bad := if s.classify raw comp (s.su.baseline u) = .good then v.bad else v.bad + 1 } →
        (m.wraps = false → t.su.survey = some w ∧ t.notice 9 = s.notice 9) ∧
        (m.wraps = true → w.wrapsRow (m.index % 48) t.su.survey (s.notice 9) (t.notice 9))

/-- Reference results move the condition: three bad ones running make it FAILED and the status FAULTED, cut a survey
and raise SENSE FAULT for ENTERED; three good ones running make it SOUND and the status OK again, with LEFT; the latest
eight results are kept (R49, R50, R51, R68). A gap 0 that a frame start found open can end in a HOLD frame: that its
result then counts and moves the condition, while the status stays HOLD for that frame (R52), is DEDUCED (log 20). -/
def Obligations.ThreeReferenceResultsMoveTheCondition : Prop :=
  ∀ (s : State) (m : Measurement) (ticks : Nat) (regulated good : Bool),
    s.pp.gap.isSome = true → s.su.inFlight = some m → m.grant = .reference →
    (good = true ↔ 512 ≤ min ticks 1023 + s.setting 10 ∧ min ticks 1023 ≤ 512 + s.setting 10) →
    ∃ t, exec (.rowGapEnd ticks regulated) s = .next t ∧ t = { s with pp := t.pp, su := t.su, nu := t.nu } ∧
      t.pp = { s.pp with gap := none } ∧ t.su.inFlight = none ∧ t.su.baselines = s.su.baselines ∧
      t.su.history = latestEight (s.su.history ++ [⟨min ticks 1023, good⟩]) ∧
      (s.su.condition = .sound → good = true →
        t.su.condition = .sound ∧ t.su.badRun = 0 ∧ t.su.status = s.su.status ∧ t.nu = s.nu) ∧
      (s.su.condition = .sound → good = false → s.su.badRun + 1 < 3 →
        t.su.condition = .sound ∧ t.su.badRun = s.su.badRun + 1 ∧ t.su.status = s.su.status ∧ t.nu = s.nu) ∧
      (s.su.condition = .sound → good = false → 3 ≤ s.su.badRun + 1 →
        t.su.condition = .failed ∧ t.su.badRun = 0 ∧ t.su.goodRun = 0 ∧
        t.su.status = (if s.su.status = .hold then .hold else .faulted) ∧ t.su.survey = none ∧
        t.notice 12 = ⟨min ((s.notice 12).count + 1) 255, some (.senseFault true)⟩ ∧
        (∀ v, s.su.survey = some v → t.notice 9 =
          ⟨min ((s.notice 9).count + 1) 255, some (.surveyEnded .cut v.done v.units v.bad)⟩)) ∧
      (s.su.condition = .failed → good = false →
        t.su.condition = .failed ∧ t.su.goodRun = 0 ∧ t.su.status = s.su.status ∧ t.nu = s.nu) ∧
      (s.su.condition = .failed → good = true → s.su.goodRun + 1 < 3 →
        t.su.condition = .failed ∧ t.su.goodRun = s.su.goodRun + 1 ∧ t.su.status = s.su.status ∧ t.nu = s.nu) ∧
      (s.su.condition = .failed → good = true → 3 ≤ s.su.goodRun + 1 →
        t.su.condition = .sound ∧ t.su.badRun = 0 ∧ t.su.goodRun = 0 ∧
        t.su.status = (if s.su.status = .hold then .hold else .ok) ∧
        t.notice 12 = ⟨min ((s.notice 12).count + 1) 255, some (.senseFault false)⟩)

/-! ## Suspects, decisions and provings (chapters 5 and 6) -/

/-- A bad SWEEP or SURVEY verdict on a qualifying unit, with room in the list, admits the unit: an entry at the list's
end with evidence 1 and the live interval as its due count, and the unit SUSPECT. Nothing is owed and no route is
posted (R76, R77). Stated where no condemned entry waits, whose decision could end the same event, and for the
thresholds that the setting's range allows. With the list full, a DRIFT verdict, or any verdict where no uncondemned
DRIFT entry stands on the list, is refused with LIST FULL and changes nothing else; otherwise the most recently
admitted uncondemned DRIFT entry is evicted, its unit returned, and the new unit admitted, with LIST FULL for the
evicted unit (R78, R79), in every state that agreeing maps and the law of the suspect list allow (R81); either way the
candidate is then reconsidered (R84). -/
def Obligations.ABadVerdictAdmitsItsUnit : Prop :=
  (∀ (r : RepairEngine) (n : Nat), (r.qualifies ⟨.primary, n⟩ = true ↔ r.cell n = .healthy) ∧
    (r.qualifies ⟨.spare, n⟩ = true ↔ (∃ k, r.cell n = .spared k) ∧ r.die n = .good)) ∧
  (∀ (s : State) (m : Measurement) (u : UnitId) (purpose : Purpose) (channel : Option Nat) (ticks : Nat)
    (regulated : Bool) (k : FaultKind) (raw : Nat),
    s.pp.gap.isSome = true → s.su.inFlight = some m → m.grant = .unit u purpose channel →
    purpose = .sweep ∨ purpose = .survey →
    raw = (if m.cut = true ∧ regulated = false then 1023 else min ticks 1023) →
    s.classify raw (compensated raw m.temp (s.setting 9)) (s.su.baseline u) = .bad k →
    s.re.qualifies u = true → s.re.suspects.length < 32 → s.candidate = none → 2 ≤ s.setting 13 →
    ∃ t, exec (.rowGapEnd ticks regulated) s = .next t ∧
      t.re = { s.re with suspects := t.re.suspects, cells := t.re.cells, dies := t.re.dies } ∧
      t.re.suspects = s.re.suspects ++ [⟨u, k, 1, s.setting 12, s.pp.frame⟩] ∧
      (u.side = .primary → t.re.cell u.cell = .suspect ∧ t.re.die u.cell = s.re.die u.cell) ∧
      (u.side = .spare → t.re.die u.cell = .suspect ∧ t.re.cell u.cell = s.re.cell u.cell) ∧
      (∀ n, n ≠ u.cell → t.re.cell n = s.re.cell n ∧ t.re.die n = s.re.die n) ∧
      t.rj = s.rj ∧ t.pp = { s.pp with gap := none } ∧ ∀ j, j ≠ 9 → t.notice j = s.notice j) ∧
  ∀ (s : State) (m : Measurement) (u : UnitId) (purpose : Purpose) (channel : Option Nat) (ticks : Nat)
    (regulated : Bool) (k : FaultKind) (raw : Nat),
    s.pp.gap.isSome = true → s.su.inFlight = some m → m.grant = .unit u purpose channel →
    purpose = .sweep ∨ purpose = .survey →
    raw = (if m.cut = true ∧ regulated = false then 1023 else min ticks 1023) →
    s.classify raw (compensated raw m.temp (s.setting 9)) (s.su.baseline u) = .bad k →
    s.re.qualifies u = true → 32 ≤ s.re.suspects.length → s.re.consistent → s.suspectsLawful →
    ∃ v : State, exec (.rowGapEnd ticks regulated) s = .next v.reconsider ∧ v.rj = s.rj ∧
      v.pp = { s.pp with gap := none } ∧ (∀ j, j ≠ 8 → j ≠ 9 → v.notice j = s.notice j) ∧
      (k = .driftFault ∨ (∀ e ∈ s.re.suspects, e.kind = .driftFault → e.evidence = s.setting 13) →
        v.re = s.re ∧ v.notice 8 = ⟨min ((s.notice 8).count + 1) 255, some (.listFull false u)⟩) ∧
      (∀ front back e, k ≠ .driftFault → s.re.suspects = front ++ e :: back → e.kind = .driftFault →
        e.evidence ≠ s.setting 13 → (∀ x ∈ back, x.kind = .driftFault → x.evidence = s.setting 13) →
        v.notice 8 = ⟨min ((s.notice 8).count + 1) 255, some (.listFull true e.unit)⟩ ∧
        v.re = { s.re with suspects := v.re.suspects, cells := v.re.cells, dies := v.re.dies } ∧
        v.re.suspects = s.re.suspects.filter (fun x => decide (x.unit ≠ e.unit)) ++
          [⟨u, k, 1, s.setting 12, s.pp.frame⟩] ∧
        (e.unit.side = .primary → v.re.cell e.unit.cell = .healthy ∧ v.re.die e.unit.cell = s.re.die e.unit.cell) ∧
        (e.unit.side = .spare → v.re.die e.unit.cell = .good ∧ v.re.cell e.unit.cell = s.re.cell e.unit.cell) ∧
        (u.side = .primary → v.re.cell u.cell = .suspect ∧ v.re.die u.cell = s.re.die u.cell) ∧
        (u.side = .spare → v.re.die u.cell = .suspect ∧ v.re.cell u.cell = s.re.cell u.cell) ∧
        ∀ n, n ≠ u.cell → n ≠ e.unit.cell → v.re.cell n = s.re.cell n ∧ v.re.die n = s.re.die n)

/-- A retest moves the evidence of its uncondemned entry by one and reloads its due count: a GOOD one down, and from 1
off the list with the unit returned; a bad one up, with the more severe kind, and at CONFIRM THRESHOLD the unit is
CONDEMNED with FAULT CONFIRMED (R61, R74, R75, R80, R81). A condemned primary is counted and its tallies rise by 1
(R116): where that brings neither of its lines to its limit the cell stays CONDEMNED; a NORMAL line that it brings to
its limit is held in the same event, with LINE HELD, and the cell is CONCEALED(LINE) with it, no entry of it left
(R117, R119, R120). The candidate is reconsidered (R84). -/
def Obligations.RetestsMoveTheEvidence : Prop :=
  (∀ a b : FaultKind, a.moreSevere b = (if a = .shortFault ∨ b = .shortFault then .shortFault
    else if a = .openFault ∨ b = .openFault then .openFault else .driftFault)) ∧
  (∀ c : CellState, c.counted = true ↔ c = .condemned ∨ (∃ phase k, c = .pendingSpare phase k) ∨ (∃ k, c = .spared k) ∨
    ∃ reason, c = .concealed reason ∧ reason ≠ .ordered ∧ reason ≠ .line) ∧
  (∀ (s : State) (l : Nat), s.lineLimit l = s.setting (if l < 192 then 18 else 19)) ∧
  ∀ (s : State) (m : Measurement) (u : UnitId) (channel : Option Nat) (ticks : Nat) (regulated : Bool) (e : Entry)
    (cls : VerdictClass) (raw : Nat),
    s.pp.gap.isSome = true → s.su.inFlight = some m → m.grant = .unit u .retest channel →
    raw = (if m.cut = true ∧ regulated = false then 1023 else min ticks 1023) →
    cls = s.classify raw (compensated raw m.temp (s.setting 9)) (s.su.baseline u) →
    s.re.entry u = some e → e.evidence ≠ s.setting 13 →
    ∃ v : State, exec (.rowGapEnd ticks regulated) s = .next v.reconsider ∧
      (cls = .good → e.evidence ≤ 1 →
        v.re.suspects = s.re.suspects.filter (fun x => decide (x.unit ≠ u)) ∧
        (∀ j, j ≠ 9 → v.notice j = s.notice j) ∧
        (u.side = .primary → v.re.cell u.cell = .healthy) ∧ (u.side = .spare → v.re.die u.cell = .good)) ∧
      (cls = .good → 1 < e.evidence →
        v.re = { s.re with suspects := s.re.suspects.map fun x =>
          if x.unit = u then { x with evidence := x.evidence - 1, due := s.setting 12 } else x } ∧
        ∀ j, j ≠ 9 → v.notice j = s.notice j) ∧
      (∀ k, cls = .bad k → e.evidence + 1 ≠ s.setting 13 →
        v.re = { s.re with suspects := s.re.suspects.map fun x => if x.unit = u then
          { x with kind := e.kind.moreSevere k, evidence := x.evidence + 1, due := s.setting 12 } else x } ∧
        ∀ j, j ≠ 9 → v.notice j = s.notice j) ∧
      (∀ k, cls = .bad k → e.evidence + 1 = s.setting 13 →
        v.notice 0 = ⟨min ((s.notice 0).count + 1) 255, some (.faultConfirmed u (e.kind.moreSevere k))⟩ ∧
        (u.side = .spare → v.re.die u.cell = .condemned ∧ v.re.cell u.cell = s.re.cell u.cell) ∧
        (u.side = .primary → (s.re.line (cLineOf u.cell)).tally + 1 < s.lineLimit (cLineOf u.cell) →
          (s.re.line (rLineOf u.cell)).tally + 1 < s.lineLimit (rLineOf u.cell) →
          v.re.cell u.cell = .condemned ∧ v.re.die u.cell = s.re.die u.cell) ∧
        (∀ l ∈ [cLineOf u.cell, rLineOf u.cell], u.side = .primary → u.cell < 9216 → s.re.cell u.cell = .suspect →
          (s.re.line l).state = .normal → s.lineLimit l ≤ (s.re.line l).tally + 1 →
          (v.re.line l).state = .held ∧ v.re.cell u.cell = .concealed .line ∧
          (∀ x ∈ v.re.suspects, x.unit.cell ≠ u.cell) ∧
          ((s.notice 7).count < (v.notice 7).count ∨ 255 ≤ (v.notice 7).count)))

/-- The decision for a condemned primary is the first outcome of R89's table: REFERRED under a REFER policy, DIE DEAD
with a dead die, BUDGET with no budget, POOL EMPTY without a free channel, and otherwise a proving on the chosen
channel, which costs one of the budget. The channel chosen is the lowest of the group that is FREE with strike 0, and
without one the lowest that is FREE, and none is chosen only where no channel of the group is FREE. An outcome that
leaves the condemned cell CONCEALED owes its subject. The decision for a condemned die leaves it DEAD, its cell
CONCEALED(DIE DEAD), both subjects owed, and its channel with a strike step, the second of which raises CHANNEL FAILED.
The four outcomes that leave the primary CONCEALED raise FAULT REFERRED with their reason, or POOL EMPTY, and a proving
that takes the last of the budget raises BUDGET SPENT; no other notice is raised. An entry taken for decision leaves
the list, and its decision is then made. Reconsidering takes the candidate, the first entry in the list whose evidence
equals CONFIRM THRESHOLD, while there is one that no missing proving slot blocks (R74, R83, R84, R89 to R95). The group
of a cell is row div 4 × 16 + column div 4 (R5). -/
def Obligations.ADecisionTakesTheFirstOutcome : Prop :=
  (∀ row < 48, ∀ column < 64, ∀ colour < 3,
    groupOf ((row * 64 + column) * 3 + colour) = row / 4 * 16 + column / 4) ∧
  (∀ (s : State) (n : Nat) (kind : FaultKind),
    (s.refers kind = true → (s.decidePrimary n kind).re.cell n = .concealed .referred) ∧
    (s.refers kind = false →
      (s.re.die n = .dead → (s.decidePrimary n kind).re.cell n = .concealed .dieDead) ∧
      (s.re.die n ≠ .dead →
        (s.re.budget = 0 → (s.decidePrimary n kind).re.cell n = .concealed .budget) ∧
        (s.re.budget ≠ 0 →
          (s.re.choose (groupOf n) = none → (s.decidePrimary n kind).re.cell n = .concealed .poolEmpty) ∧
          (∀ c, s.re.choose (groupOf n) = some c →
            (s.decidePrimary n kind).re.cell n = .pendingSpare .proving c ∧
            ((s.decidePrimary n kind).re.channel c).state = .proving n ∧
            (s.decidePrimary n kind).re.provings = s.re.provings ++ [⟨n, c, .proving, 0, 0⟩] ∧
            (s.decidePrimary n kind).re.budget = s.re.budget - 1)))) ∧
    (∀ reason, reason ≠ .poolEmpty → (s.decidePrimary n kind).re.cell n = .concealed reason →
      (s.decidePrimary n kind).notice 2 = ⟨min ((s.notice 2).count + 1) 255, some (.faultReferred n reason)⟩ ∧
      ∀ j, j ≠ 2 → (s.decidePrimary n kind).notice j = s.notice j) ∧
    (∀ reason, s.re.cell n = .condemned → (s.decidePrimary n kind).re.cell n = .concealed reason →
      cellSubject n ∈ (s.decidePrimary n kind).rj.owed) ∧
    ((s.decidePrimary n kind).re.cell n = .concealed .poolEmpty →
      (s.decidePrimary n kind).notice 5 = ⟨min ((s.notice 5).count + 1) 255, some (.poolEmpty (groupOf n))⟩ ∧
      ∀ j, j ≠ 5 → (s.decidePrimary n kind).notice j = s.notice j) ∧
    (∀ c, (s.decidePrimary n kind).re.cell n = .pendingSpare .proving c →
      (s.re.budget = 1 → (s.decidePrimary n kind).notice 6 =
        ⟨min ((s.notice 6).count + 1) 255, some .budgetSpent⟩) ∧
      ∀ j, j ≠ 6 ∨ s.re.budget ≠ 1 → (s.decidePrimary n kind).notice j = s.notice j) ∧
    (∀ m, m ≠ n → (s.decidePrimary n kind).re.cell m = s.re.cell m ∧ (s.decidePrimary n kind).re.die m = s.re.die m) ∧
    s.repairOnly (s.decidePrimary n kind)) ∧
  (∀ (r : RepairEngine) (g : Nat), r.choose g = none ↔ ∀ j, g * 4 ≤ j → j < g * 4 + 4 → (r.channel j).state ≠ .free) ∧
  (∀ (r : RepairEngine) (g k : Nat), r.choose g = some k →
    g * 4 ≤ k ∧ k < g * 4 + 4 ∧ (r.channel k).state = .free ∧
    ((r.channel k).strike = 0 → ∀ j, g * 4 ≤ j → j < k → ¬((r.channel j).state = .free ∧ (r.channel j).strike = 0)) ∧
    ((r.channel k).strike ≠ 0 → (∀ j, g * 4 ≤ j → j < k → (r.channel j).state ≠ .free) ∧
      ∀ j, g * 4 ≤ j → j < g * 4 + 4 → ¬((r.channel j).state = .free ∧ (r.channel j).strike = 0))) ∧
  (∀ (s : State) (n k : Nat), s.re.cell n = .spared k →
    (s.decideDie n).re.cell n = .concealed .dieDead ∧ (s.decideDie n).re.die n = .dead ∧
    (s.decideDie n).re.channel k = (if (s.re.channel k).strike = 0 then ⟨.free, 1⟩ else ⟨.failed, 0⟩) ∧
    (s.decideDie n).notice 3 = ⟨min ((s.notice 3).count + 1) 255, some (.spareDieDead n)⟩ ∧
    ((s.re.channel k).strike = 0 → ∀ j, j ≠ 3 → (s.decideDie n).notice j = s.notice j) ∧
    ((s.re.channel k).strike ≠ 0 →
      (s.decideDie n).notice 4 = ⟨min ((s.notice 4).count + 1) 255, some (.channelFailed k)⟩ ∧
      ∀ j, j ≠ 3 → j ≠ 4 → (s.decideDie n).notice j = s.notice j) ∧
    cellSubject n ∈ (s.decideDie n).rj.owed ∧ (s.re.die n ≠ .dead → dieSubject n ∈ (s.decideDie n).rj.owed) ∧
    ((s.re.channel k).strike ≠ 0 → (s.re.channel k).state = .bound n → channelSubject k ∈ (s.decideDie n).rj.owed) ∧
    s.repairOnly (s.decideDie n)) ∧
  (∀ (s u : State) (e : Entry),
    u = { s with re := { s.re with suspects := s.re.suspects.filter fun x => decide (x.unit ≠ e.unit) } } →
    (e.unit.side = .primary → s.decideEntry e = u.decidePrimary e.unit.cell e.kind) ∧
    (e.unit.side = .spare → s.decideEntry e = u.decideDie e.unit.cell)) ∧
  (∀ s : State,
    (s.refers .openFault = true ↔ s.setting 14 = 1) ∧ (s.refers .shortFault = true ↔ s.setting 15 = 1) ∧
    (s.refers .driftFault = true ↔ s.setting 16 = 1) ∧
    ∀ e, s.needsSlot e = true ↔ e.unit.side = .primary ∧ s.refers e.kind = false ∧ s.re.die e.unit.cell ≠ .dead ∧
      s.re.budget ≠ 0 ∧ ∃ k, k / 4 = groupOf e.unit.cell ∧ (s.re.channel k).state = .free) ∧
  (∀ s : State, (s.candidate = none ↔ ∀ x ∈ s.re.suspects, x.evidence ≠ s.setting 13) ∧
    ∀ e, s.candidate = some e ↔ ∃ front back, s.re.suspects = front ++ e :: back ∧ e.evidence = s.setting 13 ∧
      ∀ x ∈ front, x.evidence ≠ s.setting 13) ∧
  ∀ s : State, (s.candidate = none → s.reconsider = s) ∧
    ∀ e, s.candidate = some e →
      (s.needsSlot e = true → 8 ≤ s.re.provings.length → s.reconsider = s) ∧
      (s.needsSlot e = false ∨ s.re.provings.length < 8 → s.reconsider = (s.decideEntry e).reconsider)

/-- Two GOOD verdicts pass a proving: its channel RECORDING with strike 0, its die GOOD, its cell in the recording
phase. A bad one fails it: die DEAD with SPARE DIE DEAD, cell CONCEALED(DIE DEAD), and the channel FREE with a strike,
or FAILED for its second with CHANNEL FAILED (R95, R97 to R99). With a FULL or FAULTED writer the passed proving is
bound at once, with SPARED and the unrecorded flag (R102). The end of a gap granted to a proving hands its verdict to
that proving while the channel is PROVING for the cell, and the candidate is then reconsidered (R84, R97). A verdict
that is stale (a PROVING one for a channel that is not PROVING for the cell, a RETEST one without an uncondemned entry,
a SWEEP or SURVEY one for a unit that no longer qualifies) and a GOOD SWEEP or SURVEY one change nothing outside the
Sense Unit and its SURVEY ENDED (R76, R97). -/
def Obligations.TwoGoodVerdictsPassAProving : Prop :=
  (∀ (s : State) (m : Measurement) (u : UnitId) (purpose : Purpose) (channel : Option Nat) (ticks : Nat)
    (regulated : Bool) (cls : VerdictClass) (raw : Nat),
    s.pp.gap.isSome = true → s.su.inFlight = some m → m.grant = .unit u purpose channel →
    raw = (if m.cut = true ∧ regulated = false then 1023 else min ticks 1023) →
    cls = s.classify raw (compensated raw m.temp (s.setting 9)) (s.su.baseline u) →
    ∃ t, t = { s with su := t.su, pp := { s.pp with gap := none }, nu := t.nu } ∧ t.su.inFlight = none ∧
      (∀ j, j ≠ 9 → t.notice j = s.notice j) ∧
      (∀ k, purpose = .proving → channel = some k → (s.re.channel k).state = .proving u.cell →
        exec (.rowGapEnd ticks regulated) s = .next (t.provingVerdict u.cell k cls).reconsider) ∧
      ((purpose = .proving ∧ ∀ k, channel = some k → (s.re.channel k).state ≠ .proving u.cell) ∨
        (purpose = .retest ∧ ∀ e, s.re.entry u = some e → e.evidence = s.setting 13) ∨
        ((purpose = .sweep ∨ purpose = .survey) ∧ (cls = .good ∨ s.re.qualifies u = false)) →
        exec (.rowGapEnd ticks regulated) s = .next t)) ∧
  (∀ (s : State) (p : Proving) (t : State),
    s.re.provings.find? (fun q => decide (q.channel = p.channel)) = some p → p.goodRun ≠ 0 →
    s.re.cell p.cell = .pendingSpare .proving p.channel → s.rj.blocked = true →
    t = s.provingVerdict p.cell p.channel .good →
    s.repairOnly t ∧ t.re.cell p.cell = .spared p.channel ∧ t.re.die p.cell = .good ∧
    t.re.channel p.channel = ⟨.bound p.cell, 0⟩ ∧ (∀ q ∈ t.re.provings, q.channel ≠ p.channel) ∧
    t.re.suspects = s.re.suspects ∧ (∀ n, n ≠ p.cell → t.re.cell n = s.re.cell n ∧ t.re.die n = s.re.die n) ∧
    (∀ j, j ≠ p.channel → t.re.channel j = s.re.channel j) ∧ cellSubject p.cell ∈ t.rj.owed ∧
    t.rj.unrecorded = true ∧
    t.notice 1 = ⟨min ((s.notice 1).count + 1) 255, some (.spared p.cell p.channel)⟩ ∧
    ∀ j, j ≠ 1 → t.notice j = s.notice j) ∧
  ∀ (s : State) (p : Proving) (verdict : VerdictClass) (t : State),
    s.re.provings.find? (fun q => decide (q.channel = p.channel)) = some p →
    s.re.cell p.cell = .pendingSpare .proving p.channel → s.rj.blocked = false →
    t = s.provingVerdict p.cell p.channel verdict →
    s.repairOnly t ∧
    (∀ n, n ≠ p.cell → t.re.cell n = s.re.cell n ∧ t.re.die n = s.re.die n) ∧
    (∀ j, j ≠ p.channel → t.re.channel j = s.re.channel j) ∧ t.re.suspects = s.re.suspects ∧
    (verdict = .good → t.nu = s.nu) ∧
    (verdict = .good → p.goodRun = 0 →
      t.re.provings = s.re.provings.map (fun q => if q.channel = p.channel then { q with goodRun := 1 } else q) ∧
      t.re.cells = s.re.cells ∧ t.re.channels = s.re.channels) ∧
    (verdict = .good → p.goodRun ≠ 0 →
      t.re.provings = s.re.provings.map (fun q => if q.channel = p.channel then { q with phase := .recording } else q) ∧
      t.re.cell p.cell = .pendingSpare .recording p.channel ∧ t.re.die p.cell = .good ∧
      t.re.channel p.channel = ⟨.recording p.cell, 0⟩ ∧ cellSubject p.cell ∈ t.rj.owed) ∧
    (∀ k, verdict = .bad k →
      t.re.provings = s.re.provings.filter (fun q => decide (q.channel ≠ p.channel)) ∧
      t.re.cell p.cell = .concealed .dieDead ∧ t.re.die p.cell = .dead ∧
      t.re.channel p.channel = (if (s.re.channel p.channel).strike = 0 then ⟨.free, 1⟩ else ⟨.failed, 0⟩) ∧
      cellSubject p.cell ∈ t.rj.owed ∧ (s.re.die p.cell ≠ .dead → dieSubject p.cell ∈ t.rj.owed) ∧
      t.notice 3 = ⟨min ((s.notice 3).count + 1) 255, some (.spareDieDead p.cell)⟩ ∧
      ((s.re.channel p.channel).strike = 0 → ∀ j, j ≠ 3 → t.notice j = s.notice j) ∧
      ((s.re.channel p.channel).strike ≠ 0 →
        t.notice 4 = ⟨min ((s.notice 4).count + 1) 255, some (.channelFailed p.channel)⟩ ∧
        ∀ j, j ≠ 3 → j ≠ 4 → t.notice j = s.notice j))

/-! ## Requests: taking and refusing (R163, R164) -/

/-- A request that is not taken has no effect of its own: one past the eighth of its frame is only sent on, one that
does not address the tile is only counted, and one whose direction's queue is full loses its reply, which the
replies-lost flag says. A request is considered inside a frame while fewer than 8 of that frame have been; it addresses
the tile in ID mode with the TILE ID if that is not 0, in HOP mode with a known hop position of its direction, and in
ALL mode; and a reply has room in a queue of fewer than 8. While start-up lasts every taken request but IDENTIFY is
answered BUSY, whatever its kind; in operation a kind outside 1..27 is answered UNKNOWN-KIND, and an ASSIGN-ID that is
not addressed by hop NOT-PERMITTED (R152, R155, R163, R164, R166). -/
def Obligations.RequestsAreTurnedAwayAsStated : Prop :=
  (∀ (s : State) (lane : Port),
    (s.mayConsider lane = true ↔ (s.ci.direction lane).inFrame = true ∧ (s.ci.direction lane).considered < 8) ∧
    (s.hasRoom lane = true ↔ (s.ci.direction lane).queue.length < 8)) ∧
  (∀ (s : State) (r : Request),
    (s.addresses r = true ↔ r.mode = 0 ∧ s.setting 23 ≠ 0 ∧ r.destination.toNat = s.setting 23 ∨
      r.mode = 1 ∧ (s.ci.direction r.lane).hop = some r.destination.toNat ∨ r.mode = 2) ∧
    (Request.toAll r = true ↔ r.mode = 2) ∧
    (s.accepts r = true ↔ s.forwarding = true ∧ r.body.length ≤ 24 ∧ s.mayConsider r.lane = true ∧
      s.addresses r = true ∧ (r.mode = 2 ∨ s.hasRoom r.lane = true))) ∧
  (∀ (s : State) (r : Request) (kind : Byte) (m : Moment), s.forwarding = true → Request.inRange r = true → kind ≠ 3 →
    (s.mayConsider r.lane = false →
      exec (requestCommand r kind m) s = .next (s.send r.lane (Request.bytes r kind))) ∧
    (s.mayConsider r.lane = true → s.addresses r = false →
      exec (requestCommand r kind m) s = .next (s.heard r kind)) ∧
    (s.mayConsider r.lane = true → s.addresses r = true → Request.toAll r = false → s.hasRoom r.lane = false →
      exec (requestCommand r kind m) s = .next ((s.heard r kind).loseReply r.lane))) ∧
  (∀ (s : State) (r : Request) (kind : Byte) (m : Moment), s.accepts r = true →
    (s.operating = false → kind ≠ 1 → kind ≠ 3 →
      exec (requestCommand r kind m) s = .next (s.refused r kind .busy)) ∧
    (s.operating = false → (s.tick m.elapsed).accepts r = true ∧
      exec (.set r m) s = .next ((s.tick m.elapsed).refused r 3 .busy)) ∧
    (s.operating = true → knownKind kind = false →
      exec (.unknownKind r kind) s = .next (s.refused r kind .unknownKind)) ∧
    (s.operating = true → r.mode.toNat ≠ 1 → exec (.assignId r) s = .next (s.refused r 2 .notPermitted)))

/-! ## Reads -/

/-- READ-CELL, READ-GROUP, READ-LINE, READ-SUSPECTS, READ-JOURNAL, COLLECT, READ-FEED, GET and IDENTIFY report their
blocks field by field and change nothing; IDENTIFY is answered at any time from the start of forwarding on, with the
journal's part absent during start-up (R16, R17, R18, R86, R145, R156, R165, R167, R168, R170, R173). The rules name
the fields; these are the model's own: the packing of READ-LINE and READ-JOURNAL and IDENTIFY's writer state without
its step (log 21), the number of a HELD writer's state to return to, that this is the state it would take if it resumed
now, and the reason's number in a FAULT REFERRED detail (log 21), open bits 0 in an entry's packed byte and all ones
for a pending switch or a next kind that is none (log 21), the head state WAITING wherever there is a candidate
(log 34), used count and torn slots 0 without an active bank (log 44), RETURN TO PREFERRED in one byte (log 45), and
the rounding of the expected period, a free value (log 10). -/
def Obligations.ReadsReportAndChangeNothing : Prop :=
  (∀ (s : State) (r : Request), s.serves r →
    s.reportsByNumber r 6 (.readCell r) (oneNumber r.body) 9216 (fun n =>
      byte2 n ++ byte1 (s.re.cell n).code ++
      (match s.re.cell n with | .concealed reason => byte1 reason.code | _ => [0xFF]) ++
      (match s.re.cell n with | .pendingSpare phase _ => byte1 phase.code | _ => [0xFF]) ++
      (match (s.re.cell n).channel with
        | some k => byte2 k ++ byte1 (s.re.channel k).strike
        | none => [0xFF, 0xFF, 0xFF]) ++
      (match s.re.cell n with
        | .pendingSpare _ k =>
          match s.re.provings.find? (fun p => decide (p.channel = k)) with
          | some p => byte1 p.age
          | none => [0xFF]
        | _ => [0xFF]) ++
      byte1 (s.re.die n).code ++
      ([⟨.primary, n⟩, ⟨.spare, n⟩].flatMap fun u =>
        match s.re.entry u with
        | some e => byte1 e.kind.code ++ byte1 e.evidence ++ [if e.evidence = s.setting 13 then 1 else 0]
        | none => [0xFF, 0xFF, 0xFF]) ++
      ([some (s.pp.route n), s.pp.pendingRoute n].flatMap fun route =>
        match route with
        | some .primary => [0, 0xFF, 0xFF]
        | some (.spare k) => 1 :: byte2 k
        | some .blank => [2, 0xFF, 0xFF]
        | none => [0xFF, 0xFF, 0xFF]) ++
      [if (s.re.line (cLineOf n)).state = .held then 1 else 0, if (s.re.line (rLineOf n)).state = .held then 1 else 0,
        if n ∈ s.rj.owed then 1 else 0]) ∧
    s.reportsByNumber r 7 (.readGroup r) (oneByte r.body) 192 (fun g =>
      (groupChannels g).flatMap (fun k => byte2 k ++ byte1 (s.re.channel k).state.code ++
        opt2 (s.re.channel k).state.cell ++ byte1 (s.re.channel k).strike) ++
      byte1 ((groupChannels g).countP s.re.isFree) ++
      byte1 ((groupCells g).countP fun n => (s.re.cell n).isSpared) ++
      byte1 ((groupCells g).countP fun n => decide (s.re.die n = .dead)) ++ byte1 s.re.provings.length) ∧
    s.reportsByNumber r 8 (.readLine r) (oneByte r.body) 240 (fun l =>
      byte1 l ++ (if l < 192 then 0 :: byte1 (l / 3) ++ byte1 (l % 3) else 1 :: byte1 (l - 192)) ++
      [if (s.re.line l).state = .held then 1 else 0] ++ byte1 (s.re.line l).tally ++
      byte1 (s.setting (if l < 192 then 18 else 19)) ++
      byte1 ((lineCells l).countP fun n => decide (s.re.cell n = .concealed .line)) ++
      (if 192 ≤ l ∧ (s.re.line l).state = .held then byte1 (s.re.line l).undone else [])) ∧
    s.reportsByNumber r 9 (.readSuspects r) (oneByte r.body) 32 (fun first =>
      byte1 s.re.suspects.length ++ byte1 (s.re.suspects.countP fun e => decide (e.evidence = s.setting 13)) ++
      (match s.re.suspects.findIdx? (fun e => decide (e.evidence = s.setting 13)) with
        | some i => 1 :: byte1 i
        | none => [0, 0xFF]) ++
      byte1 (s.re.provings.length * 16 + s.setting 13) ++ byte1 first ++
      ((s.re.suspects.drop first).take 7).flatMap fun e =>
        byte2 ((match e.unit.side with | .primary => 0 | .spare => 16384) + e.unit.cell) ++
        byte1 (e.kind.code * 64 + (if e.evidence = s.setting 13 then 8 else 0) + e.evidence % 8) ++
        byte1 e.due ++ byte2 e.admitted.toNat)) ∧
  (∀ (s : State) (r : Request), s.serves r →
    s.reportsAtOnce r 24 (.readJournal r) (
      (match s.rj.writer with
        | .idle => [0, 0xFF, 0xFF]
        | .writing => [1, 0xFF, 0xFF]
        | .compacting .erase => [2, 0, 0xFF]
        | .compacting .snapshot => [2, 1, 0xFF]
        | .compacting .finish => [2, 2, 0xFF]
        | .erasingOld => [3, 0xFF, 0xFF]
        | .held true => [4, 0xFF, 5]
        | .held false =>
          [4, 0xFF, if s.rj.due then (if 960 < s.rj.liveImages then 5 else 2) else if s.rj.owed = [] then 0 else 1]
        | .full => [5, 0xFF, 0xFF]
        | .faulted => [6, 0xFF, 0xFF] : List Byte) ++
      [if s.rj.due then 1 else 0] ++
      (match s.rj.active with
        | none => [2, 0xFF, 0xFF, 0xFF, 0, 0, 0, 0]
        | some i => (match i with | .zero => 0 | .one => 1) :: byte3 (s.rj.bank i).generation ++
          byte2 (s.rj.bank i).slots.length ++ byte2 ((s.rj.bank i).slots.countP fun x => decide (x = .torn))) ++
      (match s.rj.writer with | .compacting .snapshot => byte2 s.rj.walk | _ => [0xFF, 0xFF]) ++
      byte2 s.rj.liveImages ++ byte2 s.rj.owed.length ++
      (match s.rj.owed with | n :: _ => byte2 n | [] => [0xFF, 0xFF]) ++
      [if s.rj.unrecorded then 1 else 0] ++ byte1 s.rj.damaged) ∧
    (∀ kinds : Nat → List Nat,
      (∀ first, kinds first = (List.range 15).filter fun k => decide (first ≤ k) && decide ((s.notice k).count ≠ 0)) →
      s.reportsByNumber r 25 (.collect r) (oneByte r.body) 15 (fun first =>
        (List.range 15).flatMap (fun k => byte1 (s.notice k).count) ++ byte1 (min (kinds first).length 4) ++
        ((kinds first).take 4).flatMap (fun k => match (s.notice k).detail with | some d => d.bytes | none => []) ++
        (match (kinds first).drop 4 with | k :: _ => byte1 k | [] => [0xFF]))) ∧
    s.reportsAtOnce r 27 (.readFeed r) (
      ([match s.ci.feed with | some .a => 0 | some .b => 1 | none => 2,
        match s.ci.pendingSwitch with | some .a => 0 | some .b => 1 | none => 0xFF,
        if s.setting 24 = 0 then 0 else 1] : List Byte) ++ byte1 (s.setting 25) ++ byte1 s.ci.returnCount ++
      ([Port.a, Port.b].flatMap fun p => ([if (s.ci.port p).live then 1 else 0] : List Byte) ++
        (match (s.ci.port p).history with | some period => byte3 period | none => [0xFF, 0xFF, 0xFF]) ++
        [if (s.ci.port p).mark then 1 else 0]) ++
      [if s.pp.captureOpen then 1 else 0] ++ byte1 s.pp.repeats ++ byte2 s.pp.frame.toNat ++
      byte2 (tenths s.pp.expected) ++
      byte1 ((if s.pp.startUp then 1 else 0) + (if s.pp.stale then 2 else 0) + (if s.mute then 4 else 0) +
        (if s.cm.blank then 8 else 0) + (if s.pp.showing.dark then 16 else 0)) ++
      [if s.pp.showing.dark then 1 else 0, s.pp.showing.brightness] ++ byte2 s.pp.showing.headFrame.toNat) ∧
    (twoBytes r.body = none → exec (.get r) s = .next (s.refused r 4 .malformed)) ∧
    (∀ first count, twoBytes r.body = some (first, count) → first ≥ 43 ∨ count = 0 ∨ 10 < count ∨ 43 < first + count →
      exec (.get r) s = .next (s.refused r 4 .outOfRange)) ∧
    (∀ first count, twoBytes r.body = some (first, count) → 1 ≤ count → count ≤ 10 → first + count ≤ 43 →
      exec (.get r) s = .next ((s.heard r 4).answered r 4 s.pp.frame .done ((List.range count).flatMap fun i =>
        byte2 (s.setting (first + i)) ++ byte2 (s.storedSetting (first + i)))))) ∧
  (∀ (s : State) (r : Request), s.accepts r = true →
    s.reportsAtOnce r 1 (.identify r) (byte2 6448 ++ [0x43#8] ++ byte1 (if s.operating then 1 else 0) ++
      byte2 (s.setting 23) ++ byte1 (s.ci.forward.hop.getD 0) ++ byte1 (s.ci.reverse.hop.getD 0) ++
      ([match s.ci.feed with | some .a => 0 | some .b => 1 | none => 2] : List Byte) ++
      (if s.operating then
        ([match s.rj.writer with
          | .idle => 0 | .writing => 1 | .compacting _ => 2 | .erasingOld => 3 | .held _ => 4 | .full => 5 | .faulted => 6,
          match s.rj.active with | some .zero => 0 | some .one => 1 | none => 2] : List Byte) ++
        byte2 s.rj.liveImages ++ ([if s.rj.unrecorded then 1 else 0] : List Byte)
      else ([0xFF, 0xFF, 0xFF, 0xFF, 0xFF] : List Byte)))) ∧
  ([CellState.healthy, .suspect, .condemned, .pendingSpare .proving 0, .spared 0, .concealed .line].map CellState.code =
      [0, 1, 2, 3, 4, 5] ∧
    [Reason.referred, .poolEmpty, .dieDead, .budget, .unproven, .ordered, .line].map Reason.code = [0, 1, 2, 3, 4, 5, 6] ∧
    [Phase.proving, .recording].map Phase.code = [0, 1] ∧
    [DieState.untried, .good, .suspect, .condemned, .dead].map DieState.code = [0, 1, 2, 3, 4] ∧
    [ChannelState.free, .proving 0, .recording 0, .bound 0, .failed].map ChannelState.code = [0, 1, 2, 3, 4] ∧
    [FaultKind.openFault, .shortFault, .driftFault].map FaultKind.code = [0, 1, 2]) ∧
  ((∀ (u : UnitId) (unit : List Byte),
      unit = byte2 ((match u.side with | .primary => 0 | .spare => 16384) + u.cell) →
      (∀ k, (Detail.faultConfirmed u k).bytes = [0] ++ unit ++ byte1 k.code) ∧
      ∀ evicted, (Detail.listFull evicted u).bytes = [8, if evicted then 0 else 1] ++ unit) ∧
    (∀ n k, (Detail.spared n k).bytes = [1] ++ byte2 n ++ byte2 k) ∧
    (∀ n, [Reason.referred, .dieDead, .budget, .unproven].map (fun r => (Detail.faultReferred n r).bytes) =
      [0, 1, 2, 3].map fun code => [2] ++ byte2 n ++ [code]) ∧
    (∀ n, (Detail.spareDieDead n).bytes = [3] ++ byte2 n) ∧ (∀ k, (Detail.channelFailed k).bytes = [4] ++ byte2 k) ∧
    (∀ g, (Detail.poolEmpty g).bytes = [5] ++ byte1 g) ∧ Detail.budgetSpent.bytes = [6] ∧
    (∀ l, (Detail.lineHeld l).bytes = [7] ++ byte1 l) ∧
    (∀ outcome passes units bad, (Detail.surveyEnded outcome passes units bad).bytes =
      ([9, match outcome with | .done => 0 | .cut => 1 | .stopped => 2] : List Byte) ++ byte1 passes ++ byte2 units ++ byte2 bad) ∧
    (∀ feed cause, (Detail.feedChanged feed cause).bytes =
      [10, match feed with | some .a => 0 | some .b => 1 | none => 2,
        match cause with | .loss => 0 | .feedReturn => 1]) ∧
    (∀ lane old new, (Detail.cadenceChange lane old new).bytes =
      ([11, match lane with | .a => 0 | .b => 1] : List Byte) ++ byte3 old ++ byte3 new) ∧
    (∀ entered, (Detail.senseFault entered).bytes = [12, if entered then 0 else 1]) ∧
    (∀ thermal derate supply, (Detail.conditions thermal derate supply).bytes =
      [13, match thermal with | .normal => 0 | .warm => 1 | .hot => 2,
        match derate with | .d100 => 100 | .d80 => 80 | .d60 => 60 | .d40 => 40,
        match supply with | .good => 0 | .low => 1 | .fail => 2]) ∧
    ∀ event, (Detail.journal event).bytes = [14, match event with
      | .fresh => 0 | .damagedRecord => 1 | .bankConflict => 2 | .compacted => 3 | .full => 4 | .faulted => 5])

/-- READ-SENSE reports the Sense Unit field by field and with CLEAR brings its statistics back to their starting
values; CLEAR-BASELINES empties the baseline table, and a measurement of a unit in flight teaches no baseline (R48,
R53, R54, R156). That an absent temperature is reported as -128, the passes of an IDLE survey as all ones and the open bits of
a reference result as 0 is the model's choice (log 21). -/
def Obligations.ReadSenseAndClearBaselinesActAsStated : Prop :=
  ∀ (s : State) (r : Request) (learning known : Nat) (report : List Byte), s.serves r →
    learning = (s.su.baselines.countP fun e => match e.2 with | .learning _ _ => true | _ => false) →
    known = (s.su.baselines.countP fun e => match e.2 with | .set _ => true | _ => false) →
    report = ([match s.su.status with | .ok => 0 | .hold => 1 | .faulted => 2,
        match s.su.condition with | .sound => 0 | .failed => 1] : List Byte) ++
      byte1 s.su.badRun ++ byte1 s.su.goodRun ++
      [match s.cm.temp with | some t => BitVec.ofInt 8 t | none => 0x80] ++
      byte2 s.su.goodCount ++ byte2 s.su.openCount ++ byte2 s.su.shortCount ++ byte2 s.su.driftCount ++
      byte2 s.su.goodMin ++ byte2 s.su.goodMax ++
      byte1 s.su.history.length ++
      (s.su.history.flatMap fun x => byte2 (x.raw + if x.good then 32768 else 0)) ++
      byte2 (18432 - learning - known) ++ byte2 learning ++ byte2 known ++
      (match s.su.survey with | some v => [1] ++ byte1 v.done ++ byte1 v.requested | none => [0, 0xFF, 0xFF]) ++
      byte2 s.su.sweepCursor →
    (oneByte r.body = none → exec (.readSense r) s = .next (s.refused r 21 .malformed)) ∧
    (∀ n, oneByte r.body = some n → 1 < n → exec (.readSense r) s = .next (s.refused r 21 .outOfRange)) ∧
    (oneByte r.body = some 0 →
      exec (.readSense r) s = .next ((s.heard r 21).answered r 21 s.pp.frame .done report)) ∧
    (oneByte r.body = some 1 → exec (.readSense r) s = .next (({ s.heard r 21 with su := { s.su with
        goodCount := 0, openCount := 0, shortCount := 0, driftCount := 0, goodMin := 1023, goodMax := 0 } }
      : State).answered r 21 s.pp.frame .done report)) ∧
    (r.body ≠ [] → exec (.clearBaselines r) s = .next (s.refused r 22 .malformed)) ∧
    (r.body = [] → ∃ u : State, exec (.clearBaselines r) s = .next (u.answered r 22 s.pp.frame .done []) ∧
      u = { s.heard r 22 with su := { s.su with baselines := [], inFlight := u.su.inFlight } } ∧
      (s.su.inFlight = none → u.su.inFlight = none) ∧
      (∀ m, s.su.inFlight = some m →
        u.su.inFlight = some { m with dropUpdate := m.dropUpdate || decide (m.grant ≠ .reference) }))

/-! ## Settings (R143, R166, R167) -/

/-- SET gives a setting its value, live and with the persist flag stored as well, and hands a changed stored value to
the journal; it is answered with both values. ASSIGN-ID does so for the TILE ID. No other setting changes. SET is
refused in the order of R167's checks: a body that is no setting, value and flag; a setting above 42; the TILE ID; a
value outside the range, or a thermal limit closer than 5 °C to the other one, live or, for a stored value, stored;
only the time that the command carries then goes on; every other value is taken (R143, R150, R166, R167). A new CONFIRM
THRESHOLD adjusts the entries, and a lower one condemns the units whose evidence reaches it, each with FAULT CONFIRMED,
or leaves them CONCEALED(LINE) where a hold takes their line meanwhile (R82; that one whose line is held before its
turn raises none of its own is the model's choice, log 47); a lower line limit holds every NORMAL line of its kind at
or above it (R118); both, and a new policy (R114), end with the reconsideration of the candidate (R84); PREFERRED PORT
and RETURN TO PREFERRED set the return count to 0 (R162); a FREE-RUN PERIOD whose end is already past on a feed that is
not LIVE is a frame start at once (R38), after the SET's own answer (DEDUCED, log 17); every other setting changes
nothing else. That the setting is owed before what its new value makes owed, and that a persist flag above 1 is refused
with OUT-OF-RANGE, are DEDUCED (log 15, 22). -/
def Obligations.SetAndAssignIdChangeOneSetting : Prop :=
  (∀ (s : State) (n v : Nat) (persist : Bool), s.mayTakeValue n v persist = true ↔
    (Config.settingRow n).low ≤ v ∧ v ≤ (Config.settingRow n).high ∧
    (n = 20 → v + 5 ≤ s.setting 21 ∧ (persist = true → v + 5 ≤ s.storedSetting 21)) ∧
    (n = 21 → s.setting 20 + 5 ≤ v ∧ (persist = true → s.storedSetting 20 + 5 ≤ v))) ∧
  (∀ (s : State) (r : Request) (m : Moment) (n v persist : Nat), s.serves r →
    settingBody r.body = some (n, v, persist) → n < 43 → n ≠ 23 → persist ≤ 1 →
    s.mayTakeValue n v (decide (persist = 1)) = true →
    ∃ u w x : State, ((s.tick m.elapsed).heard r 3).settingChanged n v (decide (persist = 1)) u ∧
      x = w.answered r 3 s.pp.frame .done (byte2 v ++ byte2 (if persist = 1 then v else s.storedSetting n)) ∧
      (n = 13 → w = (u.newThreshold (s.setting 13) v).reconsider) ∧
      (n = 18 → v < s.setting 18 → w = (u.newLimit (List.range 192)).reconsider) ∧
      (n = 19 → v < s.setting 19 → w = (u.newLimit ((List.range 48).map (192 + ·))).reconsider) ∧
      (n = 14 ∨ n = 15 ∨ n = 16 → w = u.reconsider) ∧
      (n = 24 ∨ n = 25 → w = { u with ci := { u.ci with returnCount := 0 } }) ∧
      (n ∉ [13, 14, 15, 16, 18, 19, 24, 25] ∨ (n = 18 ∨ n = 19) ∧ s.setting n ≤ v → w = u) ∧
      (n ≠ 4 ∨ s.setting 4 = v ∨ s.feedLive = true ∨ s.clk.now + m.elapsed ≤ s.pp.frameStartAt + v * 100 →
        exec (.set r m) s = .next x) ∧
      (n = 4 → s.setting 4 ≠ v → s.feedLive = false → s.pp.frameStartAt + v * 100 < s.clk.now + m.elapsed →
        exec (.set r m) s = .next (x.frameStart m.sensor false) ∧
        (s.clk.reset ≠ .ready → (x.frameStart m.sensor false).pp.frame = s.pp.frame + 1 ∧
          (x.frameStart m.sensor false).pp.frameStartAt = s.clk.now + m.elapsed))) ∧
  (∀ (s t : State) (old new : Nat), t = s.newThreshold old new →
    (old ≤ new → t = { s with re := { s.re with
      suspects := s.re.suspects.map fun e => if e.evidence = old then { e with evidence := new } else e } }) ∧
    (new < old → s.repairOnly t ∧ t.re.budget = s.re.budget ∧
      ((∀ e ∈ s.re.suspects, e.evidence < new ∨ e.evidence = old) → t = { s with re := { s.re with
        suspects := s.re.suspects.map fun e => { e with evidence := min e.evidence new } } }) ∧
      (∀ e ∈ t.re.suspects, ∃ x ∈ s.re.suspects, e = { x with evidence := min x.evidence new }) ∧
      (∀ x ∈ s.re.suspects, new ≤ x.evidence → x.evidence ≠ old →
        ((∃ e ∈ t.re.suspects, e.unit = x.unit) →
          (x.unit.side = .primary → t.re.cell x.unit.cell = .condemned) ∧
          (x.unit.side = .spare → t.re.die x.unit.cell = .condemned)) ∧
        ((∀ e ∈ t.re.suspects, e.unit ≠ x.unit) → t.re.cell x.unit.cell = .concealed .line) ∧
        ((s.notice 0).count < (t.notice 0).count ∨ 255 ≤ (t.notice 0).count)) ∧
      ∀ n, (∀ x ∈ s.re.suspects, new ≤ x.evidence → x.evidence ≠ old → x.unit.cell ≠ n) →
        t.re.cell n ≠ .concealed .line → t.re.cell n = s.re.cell n ∧ t.re.die n = s.re.die n)) ∧
  (∀ (s t : State) (lines : List Nat), t = s.newLimit lines →
    s.repairOnly t ∧ t.re.budget = s.re.budget ∧
    ∀ l, (l ∈ lines → (s.re.line l).state = .normal → s.lineLimit l ≤ (s.re.line l).tally →
        (t.re.line l).state = .held ∧ ∀ n ∈ lineCells l, t.re.cell n = .concealed .line) ∧
      (l ∉ lines ∨ (s.re.line l).state = .held ∨ (s.re.line l).tally < s.lineLimit l →
        (t.re.line l).state = (s.re.line l).state) ∧
      ∀ n, (∀ j ∈ lines, (s.re.line j).state = .normal → s.lineLimit j ≤ (s.re.line j).tally → n ∉ lineCells j) →
        t.re.cell n = s.re.cell n ∧ t.re.die n = s.re.die n) ∧
  (∀ (s : State) (r : Request) (m : Moment), s.serves r → s.clk.reset ≠ .ready →
    (∀ n v persist, settingBody r.body = some (n, v, persist) → n < 43 → n ≠ 23 → persist ≤ 1 →
      s.mayTakeValue n v (decide (persist = 1)) = true →
      ∃ t, exec (.set r m) s = .next t ∧ t.clk = { s.clk with now := s.clk.now + m.elapsed } ∧ t.setting n = v ∧
        t.storedSetting n = (if persist = 1 then v else s.storedSetting n) ∧
        (∀ j, j ≠ n → t.setting j = s.setting j ∧ t.storedSetting j = s.storedSetting j) ∧
        (persist = 1 → s.storedSetting n ≠ v → settingSubject n ∈ t.rj.owed) ∧
        (t.ci.direction r.lane).queue = (s.ci.direction r.lane).queue ++
          (if Request.toAll r then []
          else [⟨r.tag, 3, 0, s.pp.frame, byte2 v ++ byte2 (if persist = 1 then v else s.storedSetting n)⟩])) ∧
    (∀ v, r.mode.toNat = 1 → oneNumber r.body = some v → 1 ≤ v → v ≤ 4094 →
      ∃ u : State, exec (.assignId r) s = .next (u.answered r 2 s.pp.frame .done []) ∧
        u = { s.heard r 2 with
          live := u.live
          stored := u.stored
          rj := { s.rj with owed := u.rj.owed, liveImages := u.rj.liveImages, unrecorded := u.rj.unrecorded } } ∧
        u.setting 23 = v ∧ u.storedSetting 23 = v ∧
        (∀ j, j ≠ 23 → u.setting j = s.setting j ∧ u.storedSetting j = s.storedSetting j) ∧
        (s.storedSetting 23 ≠ v → u.rj.owed = oweList s.rj.owed (settingSubject 23)) ∧
        (s.storedSetting 23 = v → u.rj = s.rj)) ∧
    (r.mode.toNat = 1 → oneNumber r.body = none → exec (.assignId r) s = .next (s.refused r 2 .malformed)) ∧
    (∀ v, r.mode.toNat = 1 → oneNumber r.body = some v → v = 0 ∨ 4094 < v →
      exec (.assignId r) s = .next (s.refused r 2 .outOfRange))) ∧
  (∀ (s : State) (r : Request) (m : Moment), s.serves r →
    (settingBody r.body = none → exec (.set r m) s = .next ((s.tick m.elapsed).refused r 3 .malformed)) ∧
    ∀ n v persist, settingBody r.body = some (n, v, persist) →
      (43 ≤ n → exec (.set r m) s = .next ((s.tick m.elapsed).refused r 3 .outOfRange)) ∧
      (n = 23 → exec (.set r m) s = .next ((s.tick m.elapsed).refused r 3 .notPermitted)) ∧
      (n < 43 → n ≠ 23 → 1 < persist → exec (.set r m) s = .next ((s.tick m.elapsed).refused r 3 .outOfRange)) ∧
      (n < 43 → n ≠ 23 → v < (Config.settingRow n).low ∨ (Config.settingRow n).high < v →
        exec (.set r m) s = .next ((s.tick m.elapsed).refused r 3 .outOfRange)) ∧
      (n = 20 → s.setting 21 < v + 5 ∨ persist = 1 ∧ s.storedSetting 21 < v + 5 →
        exec (.set r m) s = .next ((s.tick m.elapsed).refused r 3 .outOfRange)) ∧
      (n = 21 → v < s.setting 20 + 5 ∨ persist = 1 ∧ v < s.storedSetting 20 + 5 →
        exec (.set r m) s = .next ((s.tick m.elapsed).refused r 3 .outOfRange)))

/-- RESET is answered DONE and waits for that reply to leave, or, in ALL mode, for the next frame start; a second one is
refused with BUSY (R153). -/
def Obligations.ResetWaitsForItsReply : Prop :=
  ∀ (s : State) (r : Request), s.serves r →
    (r.body ≠ [] → exec (.reset r) s = .next (s.refused r 5 .malformed)) ∧
    (r.body = [] → s.clk.reset ≠ .none → exec (.reset r) s = .next (s.refused r 5 .busy)) ∧
    (r.body = [] → s.clk.reset = .none → exec (.reset r) s = .next (({ s.heard r 5 with
      clk := { s.clk with reset := if r.mode.toNat = 2 then .ready else .waiting r.lane } } : State).answered r 5
        s.pp.frame .done []))

/-! ## Repair requests (chapters 5 to 7) -/

/-- SPARE makes the six checks of R108 in order, and then takes the cell's primary off the list and starts a proving on
the channel named or chosen; where the rise of its tallies leaves both of its lines below their limits the proving
stands, and where its C-line or its R-line comes to its limit that line is held and the cell concealed with it. It is
answered ACCEPTED with the channel, and the candidate is reconsidered (R84, R92, R107, R108, R117, R119). -/
def Obligations.SpareStartsAProving : Prop :=
  ∀ (s : State) (r : Request), s.serves r →
    (twoNumbers r.body = none → exec (.spare r) s = .next (s.refused r 10 .malformed)) ∧
    ∀ n named, twoNumbers r.body = some (n, named) →
      (9216 ≤ n ∨ named ≠ 65535 ∧ (768 ≤ named ∨ named / 4 ≠ groupOf n) →
        exec (.spare r) s = .next (s.refused r 10 .outOfRange)) ∧
      (n < 9216 → named = 65535 ∨ named < 768 ∧ named / 4 = groupOf n →
        (s.re.cell n ≠ .healthy → s.re.cell n ≠ .suspect →
            (∀ reason, s.re.cell n = .concealed reason → reason = .line) →
          exec (.spare r) s = .next (s.refused r 10 .wrongState)) ∧
        (s.re.cell n = .healthy ∨ s.re.cell n = .suspect ∨
            (∃ reason, reason ≠ .line ∧ s.re.cell n = .concealed reason) →
          (s.re.die n = .dead → exec (.spare r) s = .next (s.refused r 10 .dieDead)) ∧
          (s.re.die n ≠ .dead →
            (named = 65535 → (∀ k, k / 4 = groupOf n → (s.re.channel k).state ≠ .free) →
              exec (.spare r) s = .next (s.refused r 10 .poolEmpty)) ∧
            ((∃ k, k / 4 = groupOf n ∧ (s.re.channel k).state = .free) → ∃ k, s.re.choose (groupOf n) = some k) ∧
            (named ≠ 65535 → (s.re.channel named).state ≠ .free →
              exec (.spare r) s = .next (s.refused r 10 .channelTaken)) ∧
            ∀ k, (named = 65535 ∧ s.re.choose (groupOf n) = some k) ∨
                (named ≠ 65535 ∧ k = named ∧ (s.re.channel k).state = .free) →
              (8 ≤ s.re.provings.length → exec (.spare r) s = .next (s.refused r 10 .busy)) ∧
              (s.re.provings.length < 8 →
                ∃ u : State, exec (.spare r) s = .next (u.reconsider.answered r 10 s.pp.frame .accepted (byte2 k)) ∧
                  (s.heard r 10).repairOnly u ∧ u.re.budget = s.re.budget ∧
                  ((s.re.cell n).counted = true ∨
                    ((s.re.line (cLineOf n)).tally + 1 < s.lineLimit (cLineOf n) ∧
                      (s.re.line (rLineOf n)).tally + 1 < s.lineLimit (rLineOf n)) →
                    u.re.cell n = .pendingSpare .proving k ∧ u.re.die n = s.re.die n ∧
                    (∀ m, m ≠ n → u.re.cell m = s.re.cell m ∧ u.re.die m = s.re.die m) ∧
                    u.re.channel k = ⟨.proving n, (s.re.channel k).strike⟩ ∧
                    (∀ j, j ≠ k → u.re.channel j = s.re.channel j) ∧
                    u.re.provings = s.re.provings ++ [⟨n, k, .proving, 0, 0⟩] ∧
                    u.re.suspects = s.re.suspects.filter (fun e => decide (e.unit ≠ ⟨.primary, n⟩)) ∧
                    u.nu = s.nu) ∧
                  (∀ l ∈ [cLineOf n, rLineOf n], (s.re.cell n).counted = false → (s.re.line l).state = .normal →
                    s.lineLimit l ≤ (s.re.line l).tally + 1 →
                    u.re.cell n = .concealed .line ∧ (u.re.line l).state = .held ∧
                    ((s.notice 7).count < (u.notice 7).count ∨ 255 ≤ (u.notice 7).count))))))

/-- RESTORE returns a cell to HEALTHY with its baseline cleared and CONCEAL takes it out of service, each with
everything that withdraws it from repair; FORGIVE takes one unit's entry off the list and returns the unit. Each then
reconsiders the candidate, and each refuses the states it does not accept (R84, R85, R109, R110). -/
def Obligations.RestoreConcealAndForgiveWithdrawFromRepair : Prop :=
  ∀ (s : State) (r : Request), s.serves r →
    (oneNumber r.body = none → exec (.restore r) s = .next (s.refused r 11 .malformed) ∧
      exec (.conceal r) s = .next (s.refused r 12 .malformed) ∧
      exec (.forgive r) s = .next (s.refused r 13 .malformed)) ∧
    (∀ n, oneNumber r.body = some n →
      (9216 ≤ n → exec (.restore r) s = .next (s.refused r 11 .outOfRange) ∧
        exec (.conceal r) s = .next (s.refused r 12 .outOfRange)) ∧
      (n < 9216 →
        (s.re.cell n = .healthy ∨ s.re.cell n = .concealed .line →
          exec (.restore r) s = .next (s.refused r 11 .wrongState)) ∧
        (s.re.cell n ≠ .healthy → s.re.cell n ≠ .concealed .line →
          ∃ u v : State, exec (.restore r) s = .next (v.reconsider.answered r 11 s.pp.frame .done []) ∧
            (s.heard r 11).withdrawn n .healthy u ∧ v = u.clearClaim [⟨.primary, n⟩] ∧
            v.su.baseline ⟨.primary, n⟩ = .none) ∧
        ((∃ reason, s.re.cell n = .concealed reason) →
          exec (.conceal r) s = .next (s.refused r 12 .wrongState)) ∧
        ((∀ reason, s.re.cell n ≠ .concealed reason) →
          ∃ u : State, exec (.conceal r) s = .next (u.reconsider.answered r 12 s.pp.frame .done []) ∧
            (s.heard r 12).withdrawn n (.concealed .ordered) u))) ∧
    (∀ w, oneNumber r.body = some w →
      (32768 ≤ w → exec (.forgive r) s = .next (s.refused r 13 .malformed)) ∧
      (∀ unit, unitOf w = some unit → 9216 ≤ unit.cell → exec (.forgive r) s = .next (s.refused r 13 .outOfRange)) ∧
      (∀ unit, unitOf w = some unit → unit.cell < 9216 →
        ((∀ e ∈ s.re.suspects, e.unit ≠ unit) → exec (.forgive r) s = .next (s.refused r 13 .wrongState)) ∧
        ((∃ e ∈ s.re.suspects, e.unit = unit) →
          ∃ u : State, exec (.forgive r) s = .next (u.reconsider.answered r 13 s.pp.frame .done []) ∧
            (s.heard r 13).repairOnly u ∧
            u.re.suspects = s.re.suspects.filter (fun e => decide (e.unit ≠ unit)) ∧
            u.re.channels = s.re.channels ∧ u.re.provings = s.re.provings ∧ u.su = s.su ∧ u.nu = s.nu ∧
            (unit.side = .primary → u.re.cell unit.cell = .healthy ∧ u.re.die unit.cell = s.re.die unit.cell) ∧
            (unit.side = .spare → u.re.die unit.cell = .good ∧ u.re.cell unit.cell = s.re.cell unit.cell) ∧
            ∀ m, m ≠ unit.cell → u.re.cell m = s.re.cell m ∧ u.re.die m = s.re.die m)))

/-- REVIVE-DIE makes a DEAD die UNTRIED, owes it and clears its baseline; RESTORE-CHANNEL makes a FAILED channel FREE
with strike 0 and owes it; each refuses every other state, and each reconsiders the candidate (R84, R111, R112). -/
def Obligations.ReviveDieAndRestoreChannelBringBack : Prop :=
  ∀ (s : State) (r : Request), s.serves r →
    (oneNumber r.body = none → exec (.reviveDie r) s = .next (s.refused r 14 .malformed) ∧
      exec (.restoreChannel r) s = .next (s.refused r 15 .malformed)) ∧
    (∀ n, oneNumber r.body = some n →
      (9216 ≤ n → exec (.reviveDie r) s = .next (s.refused r 14 .outOfRange)) ∧
      (n < 9216 → s.re.die n ≠ .dead → exec (.reviveDie r) s = .next (s.refused r 14 .wrongState)) ∧
      (n < 9216 → s.re.die n = .dead →
        ∃ u : State, exec (.reviveDie r) s = .next (u.reconsider.answered r 14 s.pp.frame .done []) ∧
          (s.heard r 14).repairOnly u ∧ u.re = { s.re with cells := u.re.cells, dies := u.re.dies } ∧
          (∀ m, u.re.cell m = s.re.cell m) ∧ u.re.die n = .untried ∧ (∀ m, m ≠ n → u.re.die m = s.re.die m) ∧
          u.rj.owed = oweList s.rj.owed (dieSubject n) ∧
          u.su.baseline ⟨.spare, n⟩ = .none ∧ u.pp.pendingRoutes = s.pp.pendingRoutes ∧ u.nu = s.nu)) ∧
    (∀ k, oneNumber r.body = some k →
      (768 ≤ k → exec (.restoreChannel r) s = .next (s.refused r 15 .outOfRange)) ∧
      (k < 768 → (s.re.channel k).state ≠ .failed → exec (.restoreChannel r) s = .next (s.refused r 15 .wrongState)) ∧
      (k < 768 → (s.re.channel k).state = .failed →
        ∃ u : State, exec (.restoreChannel r) s = .next (u.reconsider.answered r 15 s.pp.frame .done []) ∧
          (s.heard r 15).repairOnly u ∧ u.re = { s.re with channels := u.re.channels } ∧
          u.re.channel k = ⟨.free, 0⟩ ∧ (∀ j, j ≠ k → u.re.channel j = s.re.channel j) ∧
          u.rj.owed = oweList s.rj.owed (channelSubject k) ∧ u.pp = s.pp ∧ u.su = s.su ∧ u.nu = s.nu))

/-- HOLD-LINE holds a NORMAL line by the hold event, whatever its tally: every cell of it CONCEALED(LINE), its entries
off the list, the channels its cells name FREE, the line HELD and owed, LINE HELD raised; every other cell stays. An
R-line's repairs undone count is the number of its cells that named a channel and whose die is GOOD after the hold.
Each counted cell lowers its other line's tally by 1; BLANK is posted for each cell that called for another route; each
cell whose image was not HEALTHY is owed, and nothing else but the line. The candidate is reconsidered. A HELD line, a
line above 239 and another body are refused (R122, whose hold event R119 to R121 give). A cell's C-line is column × 3 +
colour and its R-line 192 + row, and a line's cells are those that lie on it, each once (R1, R7). -/
def Obligations.HoldLineConcealsTheWholeLine : Prop :=
  (∀ row < 48, ∀ column < 64, ∀ colour < 3, ∀ n, n = (row * 64 + column) * 3 + colour →
    cellAt row column colour = n ∧ cLineOf n = column * 3 + colour ∧ rLineOf n = 192 + row ∧
    otherLineOf (cLineOf n) n = rLineOf n ∧ otherLineOf (rLineOf n) n = cLineOf n) ∧
  (∀ l < 240, (lineCells l).Nodup ∧ ∀ n, n ∈ lineCells l ↔ n < 9216 ∧ (cLineOf n = l ∨ rLineOf n = l)) ∧
  ∀ (s : State) (r : Request), s.serves r →
    (oneByte r.body = none → exec (.holdLine r) s = .next (s.refused r 16 .malformed)) ∧
    ∀ l, oneByte r.body = some l →
      (240 ≤ l → exec (.holdLine r) s = .next (s.refused r 16 .outOfRange)) ∧
      (l < 240 → (s.re.line l).state = .held → exec (.holdLine r) s = .next (s.refused r 16 .wrongState)) ∧
      (l < 240 → (s.re.line l).state = .normal →
        ∃ u : State, exec (.holdLine r) s = .next (u.reconsider.answered r 16 s.pp.frame .done []) ∧
          (s.heard r 16).repairOnly u ∧ (u.re.line l).state = .held ∧ (u.re.line l).tally = 0 ∧
          (∀ n ∈ lineCells l, u.re.cell n = .concealed .line ∧ u.re.die n = (s.re.die n).afterLeaving) ∧
          (∀ n, n ∉ lineCells l → u.re.cell n = s.re.cell n ∧ u.re.die n = s.re.die n) ∧
          u.re.suspects = s.re.suspects.filter (fun e => decide (e.unit.cell ∉ lineCells l)) ∧
          (∀ n ∈ lineCells l, ∀ k, (s.re.cell n).channel = some k →
            u.re.channel k = ⟨.free, (s.re.channel k).strike⟩ ∧ ∀ p ∈ u.re.provings, p.channel ≠ k) ∧
          (∀ k, (∀ n ∈ lineCells l, (s.re.cell n).channel ≠ some k) → u.re.channel k = s.re.channel k) ∧
          (u.re.line l).undone = (if l < 192 then 0 else (lineCells l).countP fun n =>
            (s.re.cell n).channel.isSome && decide (u.re.die n = .good)) ∧
          (∀ n ∈ lineCells l, u.re.line (otherLineOf l n) = { s.re.line (otherLineOf l n) with
            tally := (s.re.line (otherLineOf l n)).tally - if (s.re.cell n).counted then 1 else 0 }) ∧
          (∀ j, j ≠ l → (∀ n ∈ lineCells l, j ≠ otherLineOf l n) → u.re.line j = s.re.line j) ∧
          (∀ n, u.pp.pendingRoute n =
            if n ∈ lineCells l ∧ s.re.calledRoute n ≠ .blank then some .blank else s.pp.pendingRoute n) ∧
          lineSubject l ∈ u.rj.owed ∧
          (∀ n ∈ lineCells l, cellImage (s.re.cell n) ≠ .healthy → cellSubject n ∈ u.rj.owed) ∧
          (s.re.consistent → ∀ m ∈ u.rj.owed, m ∈ s.rj.owed ∨ m = lineSubject l ∨
            ∃ n ∈ lineCells l, cellImage (s.re.cell n) ≠ .healthy ∧ m = cellSubject n) ∧
          u.notice 7 = ⟨min ((s.notice 7).count + 1) 255, some (.lineHeld l)⟩ ∧
          ∀ k, k ≠ 7 → u.notice k = s.notice k)

/-- RELEASE-LINE makes a HELD line NORMAL and owes it, returns its cells whose other line is NORMAL to HEALTHY with
their baselines cleared, leaves every other cell, and sets its own tally and those of the lines that cross it from the
cell map; its repairs undone count becomes 0. PRIMARY is posted for each cell returned that called for another route;
where the line's cells are CONCEALED(LINE), as agreeing maps have them, nothing but the line is owed. The candidate is
reconsidered (R84, R116, R123). -/
def Obligations.ReleaseLineReturnsItsCells : Prop :=
  ∀ (s : State) (r : Request), s.serves r →
    (oneByte r.body = none → exec (.releaseLine r) s = .next (s.refused r 17 .malformed)) ∧
    ∀ l, oneByte r.body = some l →
      (240 ≤ l → exec (.releaseLine r) s = .next (s.refused r 17 .outOfRange)) ∧
      (l < 240 → (s.re.line l).state = .normal → exec (.releaseLine r) s = .next (s.refused r 17 .wrongState)) ∧
      (l < 240 → (s.re.line l).state = .held →
        ∃ u : State, exec (.releaseLine r) s = .next (u.reconsider.answered r 17 s.pp.frame .done []) ∧
          (s.heard r 17).repairOnly u ∧ (u.re.line l).state = .normal ∧
          (u.re.line l).tally = (lineCells l).countP (fun n => (u.re.cell n).counted) ∧
          (u.re.line l).undone = 0 ∧
          (∀ n ∈ lineCells l, u.re.line (otherLineOf l n) = { s.re.line (otherLineOf l n) with
            tally := (lineCells (otherLineOf l n)).countP fun m => (u.re.cell m).counted }) ∧
          (∀ j, j ≠ l → (∀ n ∈ lineCells l, j ≠ otherLineOf l n) → u.re.line j = s.re.line j) ∧
          (∀ n, u.pp.pendingRoute n =
            if n ∈ lineCells l ∧ (s.re.line (otherLineOf l n)).state = .normal ∧ s.re.calledRoute n ≠ .primary then
              some .primary
            else s.pp.pendingRoute n) ∧
          (s.re.consistent → u.rj.owed = oweList s.rj.owed (lineSubject l)) ∧
          (∀ n ∈ lineCells l, (s.re.line (otherLineOf l n)).state = .normal →
            u.re.cell n = .healthy ∧ u.su.baseline ⟨.primary, n⟩ = .none) ∧
          (∀ n ∈ lineCells l, (s.re.line (otherLineOf l n)).state = .held → u.re.cell n = s.re.cell n) ∧
          (∀ n, n ∉ lineCells l → u.re.cell n = s.re.cell n) ∧ (∀ n, u.re.die n = s.re.die n) ∧
          u.re.suspects = s.re.suspects ∧ u.re.channels = s.re.channels ∧ u.re.provings = s.re.provings ∧
          lineSubject l ∈ u.rj.owed ∧ u.nu = s.nu)

/-- SET-BUDGET gives the auto budget a value of 0..768, or with KEEP leaves it; it raises nothing, is answered with the
budget before and after, and the candidate is reconsidered (R84, R113). -/
def Obligations.SetBudgetReportsBeforeAndAfter : Prop :=
  ∀ (s : State) (r : Request), s.serves r →
    (oneNumber r.body = none → exec (.setBudget r) s = .next (s.refused r 18 .malformed)) ∧
    (∀ v, oneNumber r.body = some v → 768 < v → v ≠ 65535 →
      exec (.setBudget r) s = .next (s.refused r 18 .outOfRange)) ∧
    (oneNumber r.body = some 65535 → exec (.setBudget r) s = .next ((s.heard r 18).reconsider.answered r 18 s.pp.frame
      .done (byte2 s.re.budget ++ byte2 s.re.budget))) ∧
    (∀ v, oneNumber r.body = some v → v ≤ 768 → exec (.setBudget r) s = .next
      (({ s.heard r 18 with re := { s.re with budget := v } } : State).reconsider.answered r 18 s.pp.frame .done
        (byte2 s.re.budget ++ byte2 v)))

/-- START-SURVEY starts a survey of 1 to 4 passes while the sense status is OK and the shown frame is DARK; refused
while one is RUNNING, and for other states (R65). -/
def Obligations.StartSurveyNeedsADarkFrameAndAnIdleSurvey : Prop :=
  ∀ (s : State) (r : Request), s.serves r →
    (oneByte r.body = none → exec (.startSurvey r) s = .next (s.refused r 19 .malformed)) ∧
    ∀ n, oneByte r.body = some n →
      (n = 0 ∨ 4 < n → exec (.startSurvey r) s = .next (s.refused r 19 .outOfRange)) ∧
      (1 ≤ n → n ≤ 4 →
        (s.su.survey.isSome = true → exec (.startSurvey r) s = .next (s.refused r 19 .busy)) ∧
        (s.su.survey = none → s.su.status ≠ .ok ∨ s.pp.showing.dark = false →
          exec (.startSurvey r) s = .next (s.refused r 19 .wrongState)) ∧
        (s.su.survey = none → s.su.status = .ok → s.pp.showing.dark = true →
          exec (.startSurvey r) s = .next (({ s.heard r 19 with
            su := { s.su with survey := some ⟨n, 0, 0, 0, []⟩ } } : State).answered r 19 s.pp.frame .accepted [])))

/-- STOP-SURVEY ends a RUNNING survey with the outcome STOPPED, raises SURVEY ENDED with its tallies and leaves it
IDLE; an IDLE survey and a body are refused (R69). -/
def Obligations.StopSurveyEndsARunningSurvey : Prop :=
  ∀ (s : State) (r : Request), s.serves r →
    (r.body ≠ [] → exec (.stopSurvey r) s = .next (s.refused r 20 .malformed)) ∧
    (r.body = [] → s.su.survey = none → exec (.stopSurvey r) s = .next (s.refused r 20 .wrongState)) ∧
    (∀ v, r.body = [] → s.su.survey = some v →
      ∃ u : State, exec (.stopSurvey r) s = .next (u.answered r 20 s.pp.frame .done []) ∧
        u = { s.heard r 20 with su := { s.su with survey := none, inFlight := u.su.inFlight }, nu := u.nu } ∧
        u.su.inFlight = s.su.inFlight.map (fun m => { m with surveyed := false }) ∧
        u.notice 9 = ⟨min ((s.notice 9).count + 1) 255, some (.surveyEnded .stopped v.done v.units v.bad)⟩ ∧
        ∀ k, k ≠ 9 → u.notice k = s.notice k)

/-- CLEAR takes the counts it has seen off the kinds it names: the whole count makes the kind not pending, and of
CADENCE CHANGE clears both ports' marks; a part leaves the rest with its detail; more than the count changes nothing.
Kinds not named stay. It is answered with the kinds still pending and their counts (R160, R174); that the reply lists
them in kind-number order is the model's choice (log 49). -/
def Obligations.ClearTakesTheSeenCountsOff : Prop :=
  ∀ (s : State) (r : Request), s.serves r →
    (clearPairs r.body = none → exec (.clear r) s = .next (s.refused r 26 .malformed)) ∧
    ∀ pairs, clearPairs r.body = some pairs →
      ((∃ p ∈ pairs, 14 < p.1) → exec (.clear r) s = .next (s.refused r 26 .outOfRange)) ∧
      ((∀ p ∈ pairs, p.1 ≤ 14) →
        ∃ u : State, exec (.clear r) s = .next (u.answered r 26 s.pp.frame .done
            ((List.range 15).flatMap fun k => if (u.notice k).count = 0 then [] else byte1 k ++ byte1 (u.notice k).count)) ∧
          u = { s.heard r 26 with
            ci := { (s.heard r 26).ci with portA := u.ci.portA, portB := u.ci.portB }, nu := u.nu } ∧
          (∀ k seen, (k, seen) ∈ pairs →
            (seen = (s.notice k).count → u.notice k = ⟨0, none⟩) ∧
            (seen < (s.notice k).count → u.notice k = ⟨(s.notice k).count - seen, (s.notice k).detail⟩) ∧
            ((s.notice k).count < seen → u.notice k = s.notice k)) ∧
          (∀ k, (∀ p ∈ pairs, p.1 ≠ k) → u.notice k = s.notice k) ∧
          ((11, (s.notice 11).count) ∈ pairs →
            ∀ p, u.ci.port p = { s.ci.port p with mark := false }) ∧
          ((11, (s.notice 11).count) ∉ pairs → ∀ p, u.ci.port p = s.ci.port p))

/-! ## The journal (chapter 8) -/

/-- The free writer takes the subject at the head of the owed list, with its image as it stands, into a record write,
the image being that of R106 and R127: IDLE or WRITING with no compaction due, draining in ERASING-OLD, and FULL while
its bank has a slot (R130, R132, R134, R136). A writer that is at work, that stops or is HELD for a LOW supply,
FAULTED, COMPACTING, or without a slot or a subject takes none (R133, R137, R139); that a RECORD_WRITE_START out of its
condition then changes nothing at all is the model's choice (log 3). -/
def Obligations.TheWriterTakesTheHeadOfTheOwedList : Prop :=
  (∀ s : State,
    (∀ n < 9216, s.imageOf n = (match s.re.cell n with
        | .healthy | .suspect | .condemned | .pendingSpare .proving _ | .concealed .line => .healthy
        | .pendingSpare .recording k | .spared k => .spared k
        | .concealed reason => .concealed reason) ∧
      s.imageOf (9216 + n) = (if s.re.die n = .dead then .dead else .usable) ∧
      factoryImage n = .healthy ∧ factoryImage (9216 + n) = .usable) ∧
    (∀ k < 768, s.imageOf (18432 + k) = (if (s.re.channel k).state = .failed then .failed else .free) ∧
      factoryImage (18432 + k) = .free) ∧
    (∀ l < 240, s.imageOf (19200 + l) = (if (s.re.line l).state = .held then .held else .normal) ∧
      factoryImage (19200 + l) = .normal) ∧
    ∀ i < 43, s.imageOf (19440 + i) = .value (s.storedSetting i) ∧
      factoryImage (19440 + i) = .value (Config.settingRow i).default) ∧
  (∀ j : Journal, (j.hasSlot = true ↔ ∃ i, j.active = some i ∧ (j.bank i).slots.length < 1024) ∧
    (j.compacting = true ↔ ∃ step, j.writer = .compacting step) ∧ (j.isHeld = true ↔ ∃ full, j.writer = .held full) ∧
    (j.blocked = true ↔ j.writer = .full ∨ j.writer = .faulted)) ∧
  ∀ s : State,
    (∀ n rest, s.operating = true → s.rj.record = none → s.rj.stopping = false → s.rj.owed = n :: rest →
      s.rj.hasSlot = true →
      ((s.rj.writer = .idle ∨ s.rj.writer = .writing) → s.rj.due = false →
        exec .recordWriteStart s = .next { s with
          rj := { s.rj with owed := rest, record := some ⟨n, s.imageOf n⟩, writer := .writing } }) ∧
      (s.rj.writer = .full ∧ s.rj.due = false ∨ s.rj.writer = .erasingOld →
        exec .recordWriteStart s = .next { s with rj := { s.rj with owed := rest, record := some ⟨n, s.imageOf n⟩ } })) ∧
    (s.operating = false ∨ s.rj.record ≠ none ∨ s.rj.stopping = true ∨ s.rj.owed = [] ∨ s.rj.hasSlot = false ∨
      (s.rj.due = true ∧ s.rj.writer ≠ .erasingOld) ∨ s.rj.isHeld = true ∨ s.rj.compacting = true ∨
      s.rj.writer = .faulted → exec .recordWriteStart s = .next s)

/-- A good verify outside a snapshot: the slot holds the record, the failure count is 0, a recording with that image is
bound, a compaction becomes due at 896 used slots unless the writer is FULL or FAULTED, a FULL writer that used its
last slot with a subject owed sets the unrecorded flag, a writer that need not stop is free for the next subject, and
one that waited to stop is HELD; the candidate is reconsidered (R84, R100, R101, R130, R132, R138, R139). In a snapshot
the report is held back and the walk goes on to the next subject in identity order whose image is not its factory
image, taking every subject it reaches off the owed list; without one to step FINISH and the mark's write; past the new
bank's last slot it overflows: FULL, no report held, every subject that is not factory or that the walk took owed
(R133, R134, R135); and a LOW supply ends the compaction instead (R139). The next subject's write is an event of its
own outside a snapshot (DEDUCED, log 12). -/
def Obligations.AGoodVerifyBindsTheRecording : Prop :=
  (∀ (s : State) (w : RecordWrite), s.operating = true → s.rj.record = some w → s.rj.writer = .compacting .snapshot →
    s.rj.operation = none → s.tablesCanonical → s.inRange →
    ∃ u : State, exec (.recordWriteEnd true) s = .next u.reconsider ∧ u.rj.failures = 0 ∧ u.rj.active = s.rj.active ∧
      u.rj.bank s.rj.newBank = { s.rj.bank s.rj.newBank with
        slots := (s.rj.bank s.rj.newBank).slots ++ [.complete w.subject w.image] } ∧
      u.rj.bank s.rj.newBank.other = s.rj.bank s.rj.newBank.other ∧
      (s.rj.stopping = true → u = { s with rj := u.rj } ∧ u.rj.writer = .held false ∧ u.rj.due = true ∧
        u.rj.stopping = false ∧ u.rj.record = none ∧ u.rj.operation = none ∧ u.rj.heldReports = [] ∧
        ∀ m, m ∈ u.rj.owed ↔ m ∈ s.rj.owed ∨ m ∈ s.rj.walkTaken) ∧
      (s.rj.stopping = false → (∀ n < 19483, s.rj.walk < n → s.imageOf n = factoryImage n) →
        u = { s with rj := u.rj } ∧ u.rj.writer = .compacting .finish ∧ u.rj.operation = some .mark ∧
        u.rj.record = none ∧ u.rj.heldReports = s.rj.heldReports ++ [w] ∧
        u.rj.owed = s.rj.owed.filter (fun m => decide (m ≤ s.rj.walk ∨ 19483 ≤ m))) ∧
      (∀ n < 19483, s.rj.stopping = false → s.rj.walk < n → s.imageOf n ≠ factoryImage n →
        (∀ m, s.rj.walk < m → m < n → s.imageOf m = factoryImage m) →
        ((s.rj.bank s.rj.newBank).slots.length + 1 < 1024 → u = { s with rj := u.rj } ∧
          u.rj.writer = .compacting .snapshot ∧ u.rj.operation = none ∧ u.rj.walk = n ∧
          u.rj.record = some ⟨n, s.imageOf n⟩ ∧ u.rj.heldReports = s.rj.heldReports ++ [w] ∧
          u.rj.owed = s.rj.owed.filter (fun m => decide (m ≤ s.rj.walk ∨ n < m)) ∧
          ∀ m, m ∈ u.rj.walkTaken ↔ m ∈ s.rj.walkTaken ∨ m ∈ s.rj.owed ∧ s.rj.walk < m ∧ m ≤ n) ∧
        (1024 ≤ (s.rj.bank s.rj.newBank).slots.length + 1 → u = { s with re := u.re, rj := u.rj, pp := u.pp, nu := u.nu } ∧
          u.rj.writer = .full ∧ u.rj.due = false ∧ u.rj.record = none ∧ u.rj.operation = none ∧
          u.rj.heldReports = [] ∧ u.rj.walkTaken = [] ∧
          (∀ m, m ∈ s.rj.owed ∨ m ∈ s.rj.walkTaken ∨ (m < 19483 ∧ s.imageOf m ≠ factoryImage m) → m ∈ u.rj.owed) ∧
          u.notice 14 = ⟨min ((s.notice 14).count + 1) 255, some (.journal .full)⟩ ∧
          ∀ p ∈ u.re.provings, p.phase ≠ .recording))) ∧
  ∀ (s : State) (w : RecordWrite) (i : BankId), s.operating = true → s.rj.record = some w → s.rj.active = some i →
    s.rj.compacting = false → s.re.consistent →
    ∃ u : State, exec (.recordWriteEnd true) s = .next u.reconsider ∧
      u.rj.bank i = { s.rj.bank i with slots := (s.rj.bank i).slots ++ [.complete w.subject w.image] } ∧
      u.rj.bank i.other = s.rj.bank i.other ∧ u.rj.record = none ∧ u.rj.failures = 0 ∧ u.rj.active = some i ∧
      u.rj.operation = s.rj.operation ∧ u.rj.owed = s.rj.owed ∧ u.rj.liveImages = s.rj.liveImages ∧
      (u.rj.due = true ↔ s.rj.due = true ∨ 896 ≤ (s.rj.bank i).slots.length + 1 ∧ s.rj.blocked = false) ∧
      (s.rj.writer = .idle ∨ s.rj.writer = .writing → s.rj.stopping = false →
        u.rj.writer = if s.rj.owed = [] then .idle else .writing) ∧
      (s.rj.writer = .full ∨ s.rj.writer = .erasingOld → s.rj.stopping = false → u.rj.writer = s.rj.writer) ∧
      (s.rj.writer = .full → s.rj.stopping = false → s.rj.owed ≠ [] → 1024 ≤ (s.rj.bank i).slots.length + 1 →
        u.rj.unrecorded = true) ∧
      (s.rj.stopping = true → s.rj.operation = none → u.rj.stopping = false ∧
        (s.rj.writer = .idle ∨ s.rj.writer = .writing → u.rj.writer = .held false) ∧
        (s.rj.writer = .full → u.rj.writer = .held true)) ∧
      (∀ k, w.subject < 9216 → s.re.cell w.subject = .pendingSpare .recording k → w.image = .spared k →
        u.re.cell w.subject = .spared k ∧ u.re.die w.subject = s.re.die w.subject ∧
        u.re.channel k = ⟨.bound w.subject, (s.re.channel k).strike⟩ ∧ (∀ p ∈ u.re.provings, p.channel ≠ k) ∧
        u.notice 1 = ⟨min ((s.notice 1).count + 1) 255, some (.spared w.subject k)⟩) ∧
      ((∀ k, w.image ≠ .spared k) ∨ (∀ k, s.re.cell w.subject ≠ .pendingSpare .recording k) →
        u.re = s.re ∧ u.nu = s.nu ∧ u.pp = s.pp) ∧
      u = { s with re := u.re, rj := u.rj, pp := u.pp, nu := u.nu }

/-- A first failed verify leaves a torn slot, which makes a compaction due at 896 used slots of the active bank, and is
tried again in the next one, also while a stop for a LOW supply waits (DEDUCED, log 14); without a next one its subject
is owed again, which in a snapshot is an overflow; a second one running, and a failed erase, header write or mark
write, makes the writer FAULTED: the subject of the write in progress is owed again, JOURNAL raised with FAULTED, no
recording left waiting (R102, R131, R132, R135, R137, R138). That a second failed write makes none due, since its
writer is FAULTED by then, is DEDUCED (log 31). That a first failure without a next slot leaves the failure count at 1,
so that a failure of the next record, of another subject, is a second one running, is DEDUCED (log 13); that such an
overflow at a LOW supply leaves the writer HELD and returning to FULL is the model's choice (log 43). -/
def Obligations.FailedWritesAreRetriedOnceThenFaultTheWriter : Prop :=
  (∀ (s : State) (w : RecordWrite) (i : BankId), s.operating = true → s.rj.record = some w → s.rj.writesTo = some i →
    (s.rj.failures = 0 → (s.rj.bank i).slots.length + 1 < 1024 →
      exec (.recordWriteEnd false) s = .next (s.withRj { s.rj.setBank i { s.rj.bank i with
        slots := (s.rj.bank i).slots ++ [.torn] } with
        failures := 1
        due := s.rj.due || (!s.rj.compacting && !s.rj.blocked && decide (896 ≤ (s.rj.bank i).slots.length + 1)) })) ∧
    (s.rj.failures = 0 → 1024 ≤ (s.rj.bank i).slots.length + 1 → s.rj.compacting = false →
      ∃ u : State, exec (.recordWriteEnd false) s = .next u.reconsider ∧ u.rj.record = none ∧ u.rj.failures = 1 ∧
        u.rj.owed = oweList s.rj.owed w.subject ∧ u.rj.due = (s.rj.due || !s.rj.blocked) ∧
        u.rj.bank i = { s.rj.bank i with slots := (s.rj.bank i).slots ++ [.torn] } ∧
        u.re = s.re ∧ u.pp = s.pp ∧ u.nu = s.nu) ∧
    (s.rj.failures = 0 → 1024 ≤ (s.rj.bank i).slots.length + 1 → s.rj.compacting = true →
      ∃ u : State, exec (.recordWriteEnd false) s = .next u.reconsider ∧ u.rj.record = none ∧ u.rj.failures = 1 ∧
        u.rj.writer = (if s.rj.stopping then .held true else .full) ∧ u.rj.stopping = false ∧ u.rj.due = false ∧
        u.rj.operation = none ∧ u.rj.heldReports = [] ∧ w.subject ∈ u.rj.owed ∧ (∀ n ∈ s.rj.walkTaken, n ∈ u.rj.owed) ∧
        u.rj.bank i = { s.rj.bank i with slots := (s.rj.bank i).slots ++ [.torn] } ∧
        u.notice 14 = ⟨min ((s.notice 14).count + 1) 255, some (.journal .full)⟩ ∧
        ∀ p ∈ u.re.provings, p.phase ≠ .recording) ∧
    (s.rj.failures ≠ 0 →
      ∃ u : State, exec (.recordWriteEnd false) s = .next u.reconsider ∧ u.rj.writer = .faulted ∧ u.rj.record = none ∧
        u.rj.due = s.rj.due ∧
        w.subject ∈ u.rj.owed ∧ u.rj.unrecorded = true ∧
        u.rj.bank i = { s.rj.bank i with slots := (s.rj.bank i).slots ++ [.torn] } ∧
        u.notice 14 = ⟨min ((s.notice 14).count + 1) 255, some (.journal .faulted)⟩ ∧
        ∀ p ∈ u.re.provings, p.phase ≠ .recording)) ∧
  ∀ (s : State) (c : Instr) (op : Operation),
    (c, op) ∈ [(Instr.bankEraseEnd false, Operation.erase), (.headerWriteEnd false, .header),
      (.completeMarkWriteEnd false, .mark)] → s.operating = true → s.rj.operation = some op →
    ∃ u : State, exec c s = .next u.reconsider ∧ u.rj.writer = .faulted ∧ u.rj.record = none ∧
      u.rj.operation = none ∧ (∀ w, s.rj.record = some w → w.subject ∈ u.rj.owed) ∧
      u.notice 14 = ⟨min ((s.notice 14).count + 1) 255, some (.journal .faulted)⟩ ∧
      ∀ p ∈ u.re.provings, p.phase ≠ .recording

/-- A due compaction starts, in operation, with no record write or other operation in progress, no stop for a LOW
supply waiting, and the writer IDLE, WRITING or FULL (R132, R139): it clears the header of the bank that is not active
and erases it; with more than 960 live images the writer becomes FULL instead, with JOURNAL raised for FULL, and no
recording is left waiting (R102, R132, R133). That a COMPACTION_START out of this condition changes nothing at all is
the model's choice (log 3). -/
def Obligations.ADueCompactionStartsOrFillsTheWriter : Prop :=
  (∀ (s : State) (new : BankId), s.operating = true → s.rj.due = true → s.rj.record = none → s.rj.operation = none →
    s.rj.stopping = false → s.rj.writer = .idle ∨ s.rj.writer = .writing ∨ s.rj.writer = .full →
    new = (match s.rj.active with | some .zero => .one | some .one => .zero | none => .zero) →
    (s.rj.liveImages ≤ 960 →
      exec .compactionStart s = .next (s.withRj { s.rj.setBank new { s.rj.bank new with
          generation := 0, complete := false } with
        operation := some .erase, due := false, writer := .compacting .erase
        walk := 0, walkTaken := [], heldReports := [] }).reconsider) ∧
    (960 < s.rj.liveImages →
      ∃ u : State, exec .compactionStart s = .next u.reconsider ∧ u.rj.writer = .full ∧ u.rj.due = false ∧
        u.rj.bank0 = s.rj.bank0 ∧ u.rj.bank1 = s.rj.bank1 ∧ u.rj.operation = none ∧
        u.notice 14 = ⟨min ((s.notice 14).count + 1) 255, some (.journal .full)⟩ ∧
        ∀ p ∈ u.re.provings, p.phase ≠ .recording)) ∧
  ∀ s : State,
    s.operating = false ∨ s.rj.due = false ∨ s.rj.record ≠ none ∨ s.rj.operation ≠ none ∨ s.rj.stopping = true ∨
      (s.rj.writer ≠ .idle ∧ s.rj.writer ≠ .writing ∧ s.rj.writer ≠ .full) →
    exec .compactionStart s = .next s

/-- The new bank, which is the one that is not active, bank 0 with none active, is erased and its header write begun.
The header carries a generation one above the active bank's, wrapping from 16,777,215 to 0, or 1 with no active bank,
and its end begins the snapshot with the record of the first subject in identity order whose image is not its factory
image, taking every subject up to it off the owed list, or without one leads to the mark's write (R127, R133, R134).
After the old bank's erase the writer is free, or WRITING with a drained record in progress; a compaction due by then
starts, with more than 960 live images as FULL (R132, R134); that it is WRITING with none due also where the
snapshot has left a subject owed and no slot is the model's choice (log 48). Stated for a supply that does not stop the
writer (the statement about a LOW supply says the rest), and the header for states that the invariants allow. -/
def Obligations.ACompactionGoesThroughEraseHeaderAndSnapshot : Prop :=
  (∀ j : Journal, j.newBank = (match j.active with | some .zero => .one | some .one => .zero | none => .zero) ∧
    j.nextGeneration = (match j.active with
      | some .zero => (j.bank0.generation + 1) % 16777216
      | some .one => (j.bank1.generation + 1) % 16777216
      | none => 1) ∧
    j.writesTo = (if j.compacting = true then some j.newBank else j.active)) ∧
  ∀ (s : State) (new : BankId) (generation : Nat), s.operating = true → s.rj.stopping = false →
    (new, generation) = (match s.rj.active with
      | some .zero => (.one, (s.rj.bank0.generation + 1) % 16777216)
      | some .one => (.zero, (s.rj.bank1.generation + 1) % 16777216)
      | none => (.zero, 1)) →
    (s.rj.operation = some .erase → s.rj.compacting = true →
      exec (.bankEraseEnd true) s = .next (s.withRj { s.rj.setBank new ⟨0, false, []⟩ with
        operation := some .header })) ∧
    (s.rj.operation = some .erase → s.rj.compacting = false → s.rj.record = none → s.rj.due = false →
      exec (.bankEraseEnd true) s = .next (s.withRj { s.rj.setBank new ⟨0, false, []⟩ with
        operation := none, writer := if s.rj.owed = [] then .idle else .writing })) ∧
    (s.rj.operation = some .erase → s.rj.compacting = false → s.rj.record ≠ none →
      exec (.bankEraseEnd true) s = .next (s.withRj { s.rj.setBank new ⟨0, false, []⟩ with
        operation := none, writer := .writing })) ∧
    (s.rj.operation = some .erase → s.rj.compacting = false → s.rj.record = none → s.rj.due = true →
      (s.rj.liveImages ≤ 960 →
        exec (.bankEraseEnd true) s = .next (s.withRj { s.rj.setBank new ⟨0, false, []⟩ with
          operation := some .erase, due := false, writer := .compacting .erase
          walk := 0, walkTaken := [], heldReports := [] }).reconsider) ∧
      (960 < s.rj.liveImages →
        ∃ u : State, exec (.bankEraseEnd true) s = .next u.reconsider ∧ u.rj.writer = .full ∧ u.rj.due = false ∧
          u.rj.operation = none ∧ u.rj.bank new = ⟨0, false, []⟩ ∧
          u.rj.bank new.other = s.rj.bank new.other ∧
          u.notice 14 = ⟨min ((s.notice 14).count + 1) 255, some (.journal .full)⟩ ∧
          ∀ p ∈ u.re.provings, p.phase ≠ .recording)) ∧
    (s.rj.operation = some .header → s.orderly → s.tablesCanonical → s.inRange →
      ∃ u : State, exec (.headerWriteEnd true) s = .next u.reconsider ∧ u = { s with rj := u.rj } ∧
        u.rj.active = s.rj.active ∧ u.rj.unrecorded = s.rj.unrecorded ∧
        u.rj.bank new = ⟨generation, false, []⟩ ∧
        u.rj.bank new.other = s.rj.bank new.other ∧
        ((∀ n < 19483, s.imageOf n = factoryImage n) →
          u.rj.writer = .compacting .finish ∧ u.rj.operation = some .mark ∧ u.rj.record = none ∧
          u.rj.owed = s.rj.owed.filter (fun m => decide (19483 ≤ m))) ∧
        (∀ n < 19483, s.imageOf n ≠ factoryImage n → (∀ m < n, s.imageOf m = factoryImage m) →
          u.rj.writer = .compacting .snapshot ∧ u.rj.operation = none ∧ u.rj.walk = n ∧
          u.rj.record = some ⟨n, s.imageOf n⟩ ∧ u.rj.owed = s.rj.owed.filter (fun m => decide (n < m))))

/-- The complete mark makes the new bank the active one: the unrecorded flag is cleared, JOURNAL raised with COMPACTED,
and the old bank's erase begins with its header; without an old bank the writer is free (R134). The reports that the
snapshot held back are delivered in that event: every recording whose image one of them carries is bound, with SPARED,
and nothing else changes in the maps (R100, R101, R134). A stop that waits for a LOW supply leaves the writer HELD
where nothing is then in progress, and goes on waiting for the end of the old bank's erase where there is one (R139).
The delivery is stated for maps that agree. -/
def Obligations.TheCompleteMarkMakesTheNewBankActive : Prop :=
  (∀ s : State, s.operating = true → s.rj.operation = some .mark → s.re.consistent →
    ∃ u : State, exec (.completeMarkWriteEnd true) s = .next u.reconsider ∧
      u = { s with re := u.re, rj := u.rj, pp := u.pp, nu := u.nu } ∧ u.rj.active = some s.rj.newBank ∧
      u.rj.unrecorded = false ∧ u.rj.heldReports = [] ∧ u.rj.walkTaken = [] ∧
      u.rj.bank s.rj.newBank = { s.rj.bank s.rj.newBank with complete := true } ∧
      u.rj.owed = s.rj.owed ∧ u.rj.liveImages = s.rj.liveImages ∧ u.rj.record = s.rj.record ∧
      u.re.suspects = s.re.suspects ∧ u.re.budget = s.re.budget ∧ (∀ n, u.re.die n = s.re.die n) ∧
      (∀ l, u.re.line l = s.re.line l) ∧
      u.notice 14 = ⟨min ((s.notice 14).count + 1) 255, some (.journal .compacted)⟩ ∧
      (∀ j, j ≠ 1 → j ≠ 14 → u.notice j = s.notice j) ∧
      (∀ n k, n < 9216 → ⟨n, .spared k⟩ ∈ s.rj.heldReports → s.re.cell n = .pendingSpare .recording k →
        u.re.cell n = .spared k ∧ u.re.channel k = ⟨.bound n, (s.re.channel k).strike⟩ ∧
        (∀ p ∈ u.re.provings, p.channel ≠ k) ∧
        ((s.notice 1).count < (u.notice 1).count ∨ 255 ≤ (u.notice 1).count)) ∧
      (∀ n, (∀ k, n < 9216 → ⟨n, .spared k⟩ ∈ s.rj.heldReports → s.re.cell n ≠ .pendingSpare .recording k) →
        u.re.cell n = s.re.cell n ∧ ∀ k, (s.re.cell n).channel = some k → u.re.channel k = s.re.channel k) ∧
      ((∀ n k, n < 9216 → ⟨n, .spared k⟩ ∈ s.rj.heldReports → s.re.cell n ≠ .pendingSpare .recording k) →
        u.re = s.re ∧ u.pp = s.pp ∧ u.notice 1 = s.notice 1) ∧
      (∀ old, s.rj.active = some old → u.rj.writer = .erasingOld ∧ u.rj.operation = some .erase ∧
        u.rj.stopping = s.rj.stopping ∧ u.rj.bank old = { s.rj.bank old with generation := 0, complete := false }) ∧
      (s.rj.active = none → u.rj.operation = none ∧
        (s.rj.stopping = false → u.rj.stopping = false ∧ u.rj.writer = if s.rj.owed = [] then .idle else .writing) ∧
        (s.rj.stopping = true → s.rj.record = none → u.rj.writer = .held false ∧ u.rj.stopping = false))) ∧
  ∀ s : State, s.operating = true → s.rj.operation = some .mark → s.rj.heldReports = [] →
    ∃ u : State, exec (.completeMarkWriteEnd true) s = .next u.reconsider ∧
      u = { s with rj := u.rj, nu := u.nu } ∧ u.rj.active = some s.rj.newBank ∧ u.rj.unrecorded = false ∧
      u.rj.bank s.rj.newBank = { s.rj.bank s.rj.newBank with complete := true } ∧
      u.rj.owed = s.rj.owed ∧ u.rj.record = s.rj.record ∧
      u.notice 14 = ⟨min ((s.notice 14).count + 1) 255, some (.journal .compacted)⟩ ∧
      (∀ k, k ≠ 14 → u.notice k = s.notice k) ∧
      (∀ old, s.rj.active = some old → u.rj.writer = .erasingOld ∧ u.rj.operation = some .erase ∧
        u.rj.stopping = s.rj.stopping ∧ u.rj.bank old = { s.rj.bank old with generation := 0, complete := false }) ∧
      (s.rj.active = none → u.rj.operation = none ∧
        (s.rj.stopping = false → u.rj.stopping = false ∧ u.rj.writer = if s.rj.owed = [] then .idle else .writing) ∧
        (s.rj.stopping = true → s.rj.record = none → u.rj.writer = .held false ∧ u.rj.stopping = false))

/-- A HELD writer resumes after 1 s of steady GOOD supply: to FULL, where every recording that waits is bound with
SPARED and the unrecorded flag; to a due compaction, or with more than 960 live images to FULL with JOURNAL raised for
FULL; to a record write of the head of the owed list; or to IDLE (R102, R132, R139). These are the model's own: that a
WRITER_RESUME out of its condition changes nothing at all (log 3), that a writer which returns to FULL without a slot
sets the unrecorded flag at that moment (log 42), and that one with a subject owed, no slot and no compaction due
becomes WRITING and takes nothing (log 48). -/
def Obligations.AHeldWriterResumesAfterASteadySecond : Prop :=
  ∀ s : State,
    (s.operating = true → s.cm.supply = .good →
      (s.rj.writer = .held true → s.re.provings = [] →
        exec .writerResume s = .next (s.reach (s.rj.goodSince + 1000000) |>.withRj { s.rj with
          writer := .full, unrecorded := s.rj.unrecorded || (!s.rj.hasSlot && !s.rj.owed.isEmpty) }).reconsider) ∧
      (s.rj.writer = .held true → s.re.consistent → ∃ u : State, exec .writerResume s = .next u.reconsider ∧
        u = { s with clk := u.clk, re := u.re, rj := u.rj, pp := u.pp, nu := u.nu } ∧ u.rj.writer = .full ∧
        u.clk = { s.clk with now := max s.clk.now (s.rj.goodSince + 1000000) } ∧ u.rj.due = s.rj.due ∧
        u.rj.operation = s.rj.operation ∧ u.rj.bank0 = s.rj.bank0 ∧ u.rj.bank1 = s.rj.bank1 ∧
        (∀ p ∈ s.re.provings, p.phase = .recording → u.re.cell p.cell = .spared p.channel ∧
          u.re.channel p.channel = ⟨.bound p.cell, (s.re.channel p.channel).strike⟩ ∧ u.rj.unrecorded = true ∧
          ((s.notice 1).count < (u.notice 1).count ∨ 255 ≤ (u.notice 1).count)) ∧
        u.re.provings = s.re.provings.filter (fun p => decide (p.phase ≠ .recording)) ∧
        ∀ j, j ≠ 1 → u.notice j = s.notice j) ∧
      (s.rj.writer = .held false → s.rj.due = true → s.rj.liveImages ≤ 960 →
        ∃ u : State, exec .writerResume s = .next u.reconsider ∧ u.rj.writer = .compacting .erase ∧
          u.rj.operation = some .erase ∧ u.rj.due = false ∧ u = { s with clk := u.clk, rj := u.rj }) ∧
      (s.rj.writer = .held false → s.rj.due = true → 960 < s.rj.liveImages →
        ∃ u : State, exec .writerResume s = .next u.reconsider ∧ u.rj.writer = .full ∧ u.rj.due = false ∧
          u.rj.operation = s.rj.operation ∧ u.rj.bank0 = s.rj.bank0 ∧ u.rj.bank1 = s.rj.bank1 ∧
          u.notice 14 = ⟨min ((s.notice 14).count + 1) 255, some (.journal .full)⟩ ∧
          ∀ p ∈ u.re.provings, p.phase ≠ .recording) ∧
      (∀ n rest, s.rj.writer = .held false → s.rj.due = false → s.rj.hasSlot = true → s.rj.owed = n :: rest →
        exec .writerResume s = .next ((s.reach (s.rj.goodSince + 1000000)).withRj { s.rj with
          owed := rest, record := some ⟨n, s.imageOf n⟩, writer := .writing })) ∧
      (s.rj.writer = .held false → s.rj.due = false → s.rj.owed ≠ [] → s.rj.hasSlot = false →
        exec .writerResume s = .next ((s.reach (s.rj.goodSince + 1000000)).withRj { s.rj with writer := .writing })) ∧
      (s.rj.writer = .held false → s.rj.due = false → s.rj.owed = [] →
        exec .writerResume s = .next ((s.reach (s.rj.goodSince + 1000000)).withRj { s.rj with writer := .idle }))) ∧
    (s.rj.isHeld = false ∨ s.cm.supply ≠ .good ∨ s.operating = false → exec .writerResume s = .next s)

/-- COMPACT makes a compaction due while the writer is IDLE, WRITING or FULL, is refused with BUSY while it is
COMPACTING, ERASING-OLD or HELD, with WRONG-STATE while it is FAULTED, and with MALFORMED with a body; the start of
that compaction can leave a FULL writer FULL, with JOURNAL raised for FULL, and its complete mark raises COMPACTED
(R144). -/
def Obligations.CompactMakesACompactionDue : Prop :=
  (∀ (s : State) (r : Request), s.serves r →
    (r.body ≠ [] → exec (.compact r) s = .next (s.refused r 23 .malformed)) ∧
    (r.body = [] →
      (s.rj.writer = .idle ∨ s.rj.writer = .writing ∨ s.rj.writer = .full →
        exec (.compact r) s = .next (({ s.heard r 23 with rj := { s.rj with due := true } } : State).answered r 23
          s.pp.frame .accepted [])) ∧
      ((∃ step, s.rj.writer = .compacting step) ∨ s.rj.writer = .erasingOld ∨ (∃ b, s.rj.writer = .held b) →
        exec (.compact r) s = .next (s.refused r 23 .busy)) ∧
      (s.rj.writer = .faulted → exec (.compact r) s = .next (s.refused r 23 .wrongState)))) ∧
  (∀ s : State, s.operating = true → s.rj.due = true → s.rj.writer = .full → s.rj.record = none →
    s.rj.operation = none → s.rj.stopping = false → 960 < s.rj.liveImages →
    ∃ u : State, exec .compactionStart s = .next u.reconsider ∧ u.rj.writer = .full ∧
      u.notice 14 = ⟨min ((s.notice 14).count + 1) 255, some (.journal .full)⟩) ∧
  ∀ s : State, s.operating = true → s.rj.operation = some .mark →
    ∃ u : State, exec (.completeMarkWriteEnd true) s = .next u.reconsider ∧
      u.notice 14 = ⟨min ((s.notice 14).count + 1) 255, some (.journal .compacted)⟩
end

