-- ==== Sys2Proof/Laws/State.lean ====
section
/-! SUPPORT. One lemma for each field of State under each update of one block, true by rfl, so that no proof unfolds a record
update. -/

namespace Sys2Proof.Machine

@[simp] theorem State.withSu_pending (s : State) (v : SenseUnit) : (s.withSu v).pending = s.pending := rfl
@[simp] theorem State.withSu_clk (s : State) (v : SenseUnit) : (s.withSu v).clk = s.clk := rfl
@[simp] theorem State.withSu_live (s : State) (v : SenseUnit) : (s.withSu v).live = s.live := rfl
@[simp] theorem State.withSu_stored (s : State) (v : SenseUnit) : (s.withSu v).stored = s.stored := rfl
@[simp] theorem State.withSu_ci (s : State) (v : SenseUnit) : (s.withSu v).ci = s.ci := rfl
@[simp] theorem State.withSu_pp (s : State) (v : SenseUnit) : (s.withSu v).pp = s.pp := rfl
@[simp] theorem State.withSu_su (s : State) (v : SenseUnit) : (s.withSu v).su = v := rfl
@[simp] theorem State.withSu_re (s : State) (v : SenseUnit) : (s.withSu v).re = s.re := rfl
@[simp] theorem State.withSu_rj (s : State) (v : SenseUnit) : (s.withSu v).rj = s.rj := rfl
@[simp] theorem State.withSu_cm (s : State) (v : SenseUnit) : (s.withSu v).cm = s.cm := rfl
@[simp] theorem State.withSu_nu (s : State) (v : SenseUnit) : (s.withSu v).nu = s.nu := rfl
@[simp] theorem State.withSu_self (s : State) : s.withSu s.su = s := rfl
@[simp] theorem State.withSu_withSu' (s : State) (v w : SenseUnit) : (s.withSu v).withSu w = s.withSu w := rfl

@[simp] theorem State.withRe_pending (s : State) (v : RepairEngine) : (s.withRe v).pending = s.pending := rfl
@[simp] theorem State.withRe_clk (s : State) (v : RepairEngine) : (s.withRe v).clk = s.clk := rfl
@[simp] theorem State.withRe_live (s : State) (v : RepairEngine) : (s.withRe v).live = s.live := rfl
@[simp] theorem State.withRe_stored (s : State) (v : RepairEngine) : (s.withRe v).stored = s.stored := rfl
@[simp] theorem State.withRe_ci (s : State) (v : RepairEngine) : (s.withRe v).ci = s.ci := rfl
@[simp] theorem State.withRe_pp (s : State) (v : RepairEngine) : (s.withRe v).pp = s.pp := rfl
@[simp] theorem State.withRe_su (s : State) (v : RepairEngine) : (s.withRe v).su = s.su := rfl
@[simp] theorem State.withRe_re (s : State) (v : RepairEngine) : (s.withRe v).re = v := rfl
@[simp] theorem State.withRe_rj (s : State) (v : RepairEngine) : (s.withRe v).rj = s.rj := rfl
@[simp] theorem State.withRe_cm (s : State) (v : RepairEngine) : (s.withRe v).cm = s.cm := rfl
@[simp] theorem State.withRe_nu (s : State) (v : RepairEngine) : (s.withRe v).nu = s.nu := rfl
@[simp] theorem State.withRe_self (s : State) : s.withRe s.re = s := rfl
@[simp] theorem State.withRe_withRe' (s : State) (v w : RepairEngine) : (s.withRe v).withRe w = s.withRe w := rfl

@[simp] theorem State.withPp_pending (s : State) (v : PixelPath) : (s.withPp v).pending = s.pending := rfl
@[simp] theorem State.withPp_clk (s : State) (v : PixelPath) : (s.withPp v).clk = s.clk := rfl
@[simp] theorem State.withPp_live (s : State) (v : PixelPath) : (s.withPp v).live = s.live := rfl
@[simp] theorem State.withPp_stored (s : State) (v : PixelPath) : (s.withPp v).stored = s.stored := rfl
@[simp] theorem State.withPp_ci (s : State) (v : PixelPath) : (s.withPp v).ci = s.ci := rfl
@[simp] theorem State.withPp_pp (s : State) (v : PixelPath) : (s.withPp v).pp = v := rfl
@[simp] theorem State.withPp_su (s : State) (v : PixelPath) : (s.withPp v).su = s.su := rfl
@[simp] theorem State.withPp_re (s : State) (v : PixelPath) : (s.withPp v).re = s.re := rfl
@[simp] theorem State.withPp_rj (s : State) (v : PixelPath) : (s.withPp v).rj = s.rj := rfl
@[simp] theorem State.withPp_cm (s : State) (v : PixelPath) : (s.withPp v).cm = s.cm := rfl
@[simp] theorem State.withPp_nu (s : State) (v : PixelPath) : (s.withPp v).nu = s.nu := rfl
@[simp] theorem State.withPp_self (s : State) : s.withPp s.pp = s := rfl
@[simp] theorem State.withPp_withPp' (s : State) (v w : PixelPath) : (s.withPp v).withPp w = s.withPp w := rfl

@[simp] theorem State.withRj_pending (s : State) (v : Journal) : (s.withRj v).pending = s.pending := rfl
@[simp] theorem State.withRj_clk (s : State) (v : Journal) : (s.withRj v).clk = s.clk := rfl
@[simp] theorem State.withRj_live (s : State) (v : Journal) : (s.withRj v).live = s.live := rfl
@[simp] theorem State.withRj_stored (s : State) (v : Journal) : (s.withRj v).stored = s.stored := rfl
@[simp] theorem State.withRj_ci (s : State) (v : Journal) : (s.withRj v).ci = s.ci := rfl
@[simp] theorem State.withRj_pp (s : State) (v : Journal) : (s.withRj v).pp = s.pp := rfl
@[simp] theorem State.withRj_su (s : State) (v : Journal) : (s.withRj v).su = s.su := rfl
@[simp] theorem State.withRj_re (s : State) (v : Journal) : (s.withRj v).re = s.re := rfl
@[simp] theorem State.withRj_rj (s : State) (v : Journal) : (s.withRj v).rj = v := rfl
@[simp] theorem State.withRj_cm (s : State) (v : Journal) : (s.withRj v).cm = s.cm := rfl
@[simp] theorem State.withRj_nu (s : State) (v : Journal) : (s.withRj v).nu = s.nu := rfl
@[simp] theorem State.withRj_self (s : State) : s.withRj s.rj = s := rfl
@[simp] theorem State.withRj_withRj' (s : State) (v w : Journal) : (s.withRj v).withRj w = s.withRj w := rfl

@[simp] theorem State.withCm_pending (s : State) (v : ConditionMonitor) : (s.withCm v).pending = s.pending := rfl
@[simp] theorem State.withCm_clk (s : State) (v : ConditionMonitor) : (s.withCm v).clk = s.clk := rfl
@[simp] theorem State.withCm_live (s : State) (v : ConditionMonitor) : (s.withCm v).live = s.live := rfl
@[simp] theorem State.withCm_stored (s : State) (v : ConditionMonitor) : (s.withCm v).stored = s.stored := rfl
@[simp] theorem State.withCm_ci (s : State) (v : ConditionMonitor) : (s.withCm v).ci = s.ci := rfl
@[simp] theorem State.withCm_pp (s : State) (v : ConditionMonitor) : (s.withCm v).pp = s.pp := rfl
@[simp] theorem State.withCm_su (s : State) (v : ConditionMonitor) : (s.withCm v).su = s.su := rfl
@[simp] theorem State.withCm_re (s : State) (v : ConditionMonitor) : (s.withCm v).re = s.re := rfl
@[simp] theorem State.withCm_rj (s : State) (v : ConditionMonitor) : (s.withCm v).rj = s.rj := rfl
@[simp] theorem State.withCm_cm (s : State) (v : ConditionMonitor) : (s.withCm v).cm = v := rfl
@[simp] theorem State.withCm_nu (s : State) (v : ConditionMonitor) : (s.withCm v).nu = s.nu := rfl
@[simp] theorem State.withCm_self (s : State) : s.withCm s.cm = s := rfl
@[simp] theorem State.withCm_withCm' (s : State) (v w : ConditionMonitor) : (s.withCm v).withCm w = s.withCm w := rfl

@[simp] theorem State.withCi_pending (s : State) (v : ChainInterface) : (s.withCi v).pending = s.pending := rfl
@[simp] theorem State.withCi_clk (s : State) (v : ChainInterface) : (s.withCi v).clk = s.clk := rfl
@[simp] theorem State.withCi_live (s : State) (v : ChainInterface) : (s.withCi v).live = s.live := rfl
@[simp] theorem State.withCi_stored (s : State) (v : ChainInterface) : (s.withCi v).stored = s.stored := rfl
@[simp] theorem State.withCi_ci (s : State) (v : ChainInterface) : (s.withCi v).ci = v := rfl
@[simp] theorem State.withCi_pp (s : State) (v : ChainInterface) : (s.withCi v).pp = s.pp := rfl
@[simp] theorem State.withCi_su (s : State) (v : ChainInterface) : (s.withCi v).su = s.su := rfl
@[simp] theorem State.withCi_re (s : State) (v : ChainInterface) : (s.withCi v).re = s.re := rfl
@[simp] theorem State.withCi_rj (s : State) (v : ChainInterface) : (s.withCi v).rj = s.rj := rfl
@[simp] theorem State.withCi_cm (s : State) (v : ChainInterface) : (s.withCi v).cm = s.cm := rfl
@[simp] theorem State.withCi_nu (s : State) (v : ChainInterface) : (s.withCi v).nu = s.nu := rfl
@[simp] theorem State.withCi_self (s : State) : s.withCi s.ci = s := rfl
@[simp] theorem State.withCi_withCi' (s : State) (v w : ChainInterface) : (s.withCi v).withCi w = s.withCi w := rfl

@[simp] theorem State.withClk_pending (s : State) (v : Clock) : (s.withClk v).pending = s.pending := rfl
@[simp] theorem State.withClk_clk (s : State) (v : Clock) : (s.withClk v).clk = v := rfl
@[simp] theorem State.withClk_live (s : State) (v : Clock) : (s.withClk v).live = s.live := rfl
@[simp] theorem State.withClk_stored (s : State) (v : Clock) : (s.withClk v).stored = s.stored := rfl
@[simp] theorem State.withClk_ci (s : State) (v : Clock) : (s.withClk v).ci = s.ci := rfl
@[simp] theorem State.withClk_pp (s : State) (v : Clock) : (s.withClk v).pp = s.pp := rfl
@[simp] theorem State.withClk_su (s : State) (v : Clock) : (s.withClk v).su = s.su := rfl
@[simp] theorem State.withClk_re (s : State) (v : Clock) : (s.withClk v).re = s.re := rfl
@[simp] theorem State.withClk_rj (s : State) (v : Clock) : (s.withClk v).rj = s.rj := rfl
@[simp] theorem State.withClk_cm (s : State) (v : Clock) : (s.withClk v).cm = s.cm := rfl
@[simp] theorem State.withClk_nu (s : State) (v : Clock) : (s.withClk v).nu = s.nu := rfl
@[simp] theorem State.withClk_self (s : State) : s.withClk s.clk = s := rfl
@[simp] theorem State.withClk_withClk' (s : State) (v w : Clock) : (s.withClk v).withClk w = s.withClk w := rfl

@[simp] theorem State.withSu_setting (s : State) (v : SenseUnit) (n : Nat) : (s.withSu v).setting n = s.setting n := rfl
@[simp] theorem State.withSu_storedSetting (s : State) (v : SenseUnit) (n : Nat) : (s.withSu v).storedSetting n = s.storedSetting n := rfl
@[simp] theorem State.withSu_notice (s : State) (v : SenseUnit) (k : Nat) : (s.withSu v).notice k = s.notice k := rfl
@[simp] theorem State.withRe_setting (s : State) (v : RepairEngine) (n : Nat) : (s.withRe v).setting n = s.setting n := rfl
@[simp] theorem State.withRe_storedSetting (s : State) (v : RepairEngine) (n : Nat) : (s.withRe v).storedSetting n = s.storedSetting n := rfl
@[simp] theorem State.withRe_notice (s : State) (v : RepairEngine) (k : Nat) : (s.withRe v).notice k = s.notice k := rfl
@[simp] theorem State.withPp_setting (s : State) (v : PixelPath) (n : Nat) : (s.withPp v).setting n = s.setting n := rfl
@[simp] theorem State.withPp_storedSetting (s : State) (v : PixelPath) (n : Nat) : (s.withPp v).storedSetting n = s.storedSetting n := rfl
@[simp] theorem State.withPp_notice (s : State) (v : PixelPath) (k : Nat) : (s.withPp v).notice k = s.notice k := rfl
@[simp] theorem State.withRj_setting (s : State) (v : Journal) (n : Nat) : (s.withRj v).setting n = s.setting n := rfl
@[simp] theorem State.withRj_storedSetting (s : State) (v : Journal) (n : Nat) : (s.withRj v).storedSetting n = s.storedSetting n := rfl
@[simp] theorem State.withRj_notice (s : State) (v : Journal) (k : Nat) : (s.withRj v).notice k = s.notice k := rfl
@[simp] theorem State.withCm_setting (s : State) (v : ConditionMonitor) (n : Nat) : (s.withCm v).setting n = s.setting n := rfl
@[simp] theorem State.withCm_storedSetting (s : State) (v : ConditionMonitor) (n : Nat) : (s.withCm v).storedSetting n = s.storedSetting n := rfl
@[simp] theorem State.withCm_notice (s : State) (v : ConditionMonitor) (k : Nat) : (s.withCm v).notice k = s.notice k := rfl
@[simp] theorem State.withCi_setting (s : State) (v : ChainInterface) (n : Nat) : (s.withCi v).setting n = s.setting n := rfl
@[simp] theorem State.withCi_storedSetting (s : State) (v : ChainInterface) (n : Nat) : (s.withCi v).storedSetting n = s.storedSetting n := rfl
@[simp] theorem State.withCi_notice (s : State) (v : ChainInterface) (k : Nat) : (s.withCi v).notice k = s.notice k := rfl
@[simp] theorem State.withClk_setting (s : State) (v : Clock) (n : Nat) : (s.withClk v).setting n = s.setting n := rfl
@[simp] theorem State.withClk_storedSetting (s : State) (v : Clock) (n : Nat) : (s.withClk v).storedSetting n = s.storedSetting n := rfl
@[simp] theorem State.withClk_notice (s : State) (v : Clock) (k : Nat) : (s.withClk v).notice k = s.notice k := rfl

@[simp] theorem State.setNotice_pending (s : State) (k : Nat) (n : Notice) : (s.setNotice k n).pending = s.pending := rfl
@[simp] theorem State.notify_pending (s : State) (d : Detail) : (s.notify d).pending = s.pending := rfl
@[simp] theorem State.setNotice_clk (s : State) (k : Nat) (n : Notice) : (s.setNotice k n).clk = s.clk := rfl
@[simp] theorem State.notify_clk (s : State) (d : Detail) : (s.notify d).clk = s.clk := rfl
@[simp] theorem State.setNotice_live (s : State) (k : Nat) (n : Notice) : (s.setNotice k n).live = s.live := rfl
@[simp] theorem State.notify_live (s : State) (d : Detail) : (s.notify d).live = s.live := rfl
@[simp] theorem State.setNotice_stored (s : State) (k : Nat) (n : Notice) : (s.setNotice k n).stored = s.stored := rfl
@[simp] theorem State.notify_stored (s : State) (d : Detail) : (s.notify d).stored = s.stored := rfl
@[simp] theorem State.setNotice_ci (s : State) (k : Nat) (n : Notice) : (s.setNotice k n).ci = s.ci := rfl
@[simp] theorem State.notify_ci (s : State) (d : Detail) : (s.notify d).ci = s.ci := rfl
@[simp] theorem State.setNotice_pp (s : State) (k : Nat) (n : Notice) : (s.setNotice k n).pp = s.pp := rfl
@[simp] theorem State.notify_pp (s : State) (d : Detail) : (s.notify d).pp = s.pp := rfl
@[simp] theorem State.setNotice_su (s : State) (k : Nat) (n : Notice) : (s.setNotice k n).su = s.su := rfl
@[simp] theorem State.notify_su (s : State) (d : Detail) : (s.notify d).su = s.su := rfl
@[simp] theorem State.setNotice_re (s : State) (k : Nat) (n : Notice) : (s.setNotice k n).re = s.re := rfl
@[simp] theorem State.notify_re (s : State) (d : Detail) : (s.notify d).re = s.re := rfl
@[simp] theorem State.setNotice_rj (s : State) (k : Nat) (n : Notice) : (s.setNotice k n).rj = s.rj := rfl
@[simp] theorem State.notify_rj (s : State) (d : Detail) : (s.notify d).rj = s.rj := rfl
@[simp] theorem State.setNotice_cm (s : State) (k : Nat) (n : Notice) : (s.setNotice k n).cm = s.cm := rfl
@[simp] theorem State.notify_cm (s : State) (d : Detail) : (s.notify d).cm = s.cm := rfl
@[simp] theorem State.tick_pending (s : State) (e : Nat) : (s.tick e).pending = s.pending := rfl
@[simp] theorem State.reach_pending (s : State) (e : Nat) : (s.reach e).pending = s.pending := rfl
@[simp] theorem State.tick_live (s : State) (e : Nat) : (s.tick e).live = s.live := rfl
@[simp] theorem State.reach_live (s : State) (e : Nat) : (s.reach e).live = s.live := rfl
@[simp] theorem State.tick_stored (s : State) (e : Nat) : (s.tick e).stored = s.stored := rfl
@[simp] theorem State.reach_stored (s : State) (e : Nat) : (s.reach e).stored = s.stored := rfl
@[simp] theorem State.tick_ci (s : State) (e : Nat) : (s.tick e).ci = s.ci := rfl
@[simp] theorem State.reach_ci (s : State) (e : Nat) : (s.reach e).ci = s.ci := rfl
@[simp] theorem State.tick_pp (s : State) (e : Nat) : (s.tick e).pp = s.pp := rfl
@[simp] theorem State.reach_pp (s : State) (e : Nat) : (s.reach e).pp = s.pp := rfl
@[simp] theorem State.tick_su (s : State) (e : Nat) : (s.tick e).su = s.su := rfl
@[simp] theorem State.reach_su (s : State) (e : Nat) : (s.reach e).su = s.su := rfl
@[simp] theorem State.tick_re (s : State) (e : Nat) : (s.tick e).re = s.re := rfl
@[simp] theorem State.reach_re (s : State) (e : Nat) : (s.reach e).re = s.re := rfl
@[simp] theorem State.tick_rj (s : State) (e : Nat) : (s.tick e).rj = s.rj := rfl
@[simp] theorem State.reach_rj (s : State) (e : Nat) : (s.reach e).rj = s.rj := rfl
@[simp] theorem State.tick_cm (s : State) (e : Nat) : (s.tick e).cm = s.cm := rfl
@[simp] theorem State.reach_cm (s : State) (e : Nat) : (s.reach e).cm = s.cm := rfl
@[simp] theorem State.tick_nu (s : State) (e : Nat) : (s.tick e).nu = s.nu := rfl
@[simp] theorem State.reach_nu (s : State) (e : Nat) : (s.reach e).nu = s.nu := rfl
@[simp] theorem State.setPort_pending (s : State) (p : Port) (m : PortMonitor) : (s.setPort p m).pending = s.pending := by
  cases p <;> rfl
@[simp] theorem State.setPort_clk (s : State) (p : Port) (m : PortMonitor) : (s.setPort p m).clk = s.clk := by
  cases p <;> rfl
@[simp] theorem State.setPort_live (s : State) (p : Port) (m : PortMonitor) : (s.setPort p m).live = s.live := by
  cases p <;> rfl
@[simp] theorem State.setPort_stored (s : State) (p : Port) (m : PortMonitor) : (s.setPort p m).stored = s.stored := by
  cases p <;> rfl
@[simp] theorem State.setPort_pp (s : State) (p : Port) (m : PortMonitor) : (s.setPort p m).pp = s.pp := by
  cases p <;> rfl
@[simp] theorem State.setPort_su (s : State) (p : Port) (m : PortMonitor) : (s.setPort p m).su = s.su := by
  cases p <;> rfl
@[simp] theorem State.setPort_re (s : State) (p : Port) (m : PortMonitor) : (s.setPort p m).re = s.re := by
  cases p <;> rfl
@[simp] theorem State.setPort_rj (s : State) (p : Port) (m : PortMonitor) : (s.setPort p m).rj = s.rj := by
  cases p <;> rfl
@[simp] theorem State.setPort_cm (s : State) (p : Port) (m : PortMonitor) : (s.setPort p m).cm = s.cm := by
  cases p <;> rfl
@[simp] theorem State.setPort_nu (s : State) (p : Port) (m : PortMonitor) : (s.setPort p m).nu = s.nu := by
  cases p <;> rfl
@[simp] theorem State.setDirection_pending (s : State) (p : Port) (d : DirectionState) : (s.setDirection p d).pending = s.pending := by
  cases p <;> rfl
@[simp] theorem State.setDirection_clk (s : State) (p : Port) (d : DirectionState) : (s.setDirection p d).clk = s.clk := by
  cases p <;> rfl
@[simp] theorem State.setDirection_live (s : State) (p : Port) (d : DirectionState) : (s.setDirection p d).live = s.live := by
  cases p <;> rfl
@[simp] theorem State.setDirection_stored (s : State) (p : Port) (d : DirectionState) : (s.setDirection p d).stored = s.stored := by
  cases p <;> rfl
@[simp] theorem State.setDirection_pp (s : State) (p : Port) (d : DirectionState) : (s.setDirection p d).pp = s.pp := by
  cases p <;> rfl
@[simp] theorem State.setDirection_su (s : State) (p : Port) (d : DirectionState) : (s.setDirection p d).su = s.su := by
  cases p <;> rfl
@[simp] theorem State.setDirection_re (s : State) (p : Port) (d : DirectionState) : (s.setDirection p d).re = s.re := by
  cases p <;> rfl
@[simp] theorem State.setDirection_rj (s : State) (p : Port) (d : DirectionState) : (s.setDirection p d).rj = s.rj := by
  cases p <;> rfl
@[simp] theorem State.setDirection_cm (s : State) (p : Port) (d : DirectionState) : (s.setDirection p d).cm = s.cm := by
  cases p <;> rfl
@[simp] theorem State.setDirection_nu (s : State) (p : Port) (d : DirectionState) : (s.setDirection p d).nu = s.nu := by
  cases p <;> rfl

/-! ## Ports and directions -/

@[simp] theorem State.setPort_port (s : State) (p : Port) (m : PortMonitor) : (s.setPort p m).ci.port p = m := by
  cases p <;> rfl

@[simp] theorem State.setPort_port_other (s : State) (p : Port) (m : PortMonitor) :
    (s.setPort p m).ci.port (otherPort p) = s.ci.port (otherPort p) := by
  cases p <;> rfl

@[simp] theorem State.setPort_direction (s : State) (p q : Port) (m : PortMonitor) :
    (s.setPort p m).ci.direction q = s.ci.direction q := by
  cases p <;> cases q <;> rfl

@[simp] theorem State.setDirection_direction (s : State) (p : Port) (d : DirectionState) :
    (s.setDirection p d).ci.direction p = d := by
  cases p <;> rfl

@[simp] theorem State.setDirection_direction_other (s : State) (p : Port) (d : DirectionState) :
    (s.setDirection p d).ci.direction (otherPort p) = s.ci.direction (otherPort p) := by
  cases p <;> rfl

@[simp] theorem State.setDirection_port (s : State) (p q : Port) (d : DirectionState) :
    (s.setDirection p d).ci.port q = s.ci.port q := by
  cases p <;> cases q <;> rfl

@[simp] theorem State.setDirection_twice (s : State) (p : Port) (d e : DirectionState) :
    (s.setDirection p d).setDirection p e = s.setDirection p e := by
  cases p <;> rfl

@[simp] theorem State.setDirection_self (s : State) (p : Port) : s.setDirection p (s.ci.direction p) = s := by
  cases p <;> rfl

@[simp] theorem State.setPort_ci_feed (s : State) (p : Port) (m : PortMonitor) : (s.setPort p m).ci.feed = s.ci.feed := by
  cases p <;> rfl
@[simp] theorem State.setPort_ci_pendingSwitch (s : State) (p : Port) (m : PortMonitor) : (s.setPort p m).ci.pendingSwitch = s.ci.pendingSwitch := by
  cases p <;> rfl
@[simp] theorem State.setPort_ci_returnCount (s : State) (p : Port) (m : PortMonitor) : (s.setPort p m).ci.returnCount = s.ci.returnCount := by
  cases p <;> rfl
@[simp] theorem State.setPort_ci_leftNone (s : State) (p : Port) (m : PortMonitor) : (s.setPort p m).ci.leftNone = s.ci.leftNone := by
  cases p <;> rfl
@[simp] theorem State.setDirection_ci_feed (s : State) (p : Port) (d : DirectionState) : (s.setDirection p d).ci.feed = s.ci.feed := by
  cases p <;> rfl
@[simp] theorem State.setDirection_ci_pendingSwitch (s : State) (p : Port) (d : DirectionState) : (s.setDirection p d).ci.pendingSwitch = s.ci.pendingSwitch := by
  cases p <;> rfl
@[simp] theorem State.setDirection_ci_returnCount (s : State) (p : Port) (d : DirectionState) : (s.setDirection p d).ci.returnCount = s.ci.returnCount := by
  cases p <;> rfl
@[simp] theorem State.setDirection_ci_leftNone (s : State) (p : Port) (d : DirectionState) : (s.setDirection p d).ci.leftNone = s.ci.leftNone := by
  cases p <;> rfl

end Sys2Proof.Machine
end

