-- ==== Sys2Proof/Laws/Table.lean ====
section
/-! SUPPORT. The laws of sparse tables: what a read finds after a write, and that every operation keeps the canonical form. -/

namespace Sys2Proof.Machine

/-- What every step of a fold keeps, the fold keeps. -/
theorem foldl_keeps {σ β : Type} {P : σ → Prop} (op : σ → β → σ) (stays : ∀ start item, P start → P (op start item))
    (items : List β) {start : σ} (held : P start) : P (items.foldl op start) :=
  List.foldlRecOn items op held fun reached now item _ => stays reached item now

namespace Table

variable {α : Type}

@[simp] theorem read_nil (d : Nat → α) (k : Nat) : read d [] k = d k := rfl

@[simp] theorem read_cons (d : Nat → α) (j : Nat) (v : α) (t : Table α) (k : Nat) :
    read d ((j, v) :: t) k = if j = k then v else read d t k := rfl

/-- Reading one table with another one behind it. -/
theorem read_append (d : Nat → α) (front back : Table α) (k : Nat) :
    read d (front ++ back) k = read (read d back) front k := by
  induction front with
  | nil => rfl
  | cons entry front ih => rw [List.cons_append, read_cons, ih, read_cons]

/-- A read asks the default for its own number only. -/
theorem read_congr {d d' : Nat → α} {k : Nat} (same : d k = d' k) (t : Table α) : read d t k = read d' t k := by
  induction t with
  | nil => exact same
  | cons entry t ih => rw [read_cons, read_cons, ih]

/-- What is left of a table when numbers are struck off it. -/
theorem read_filter (d : Nat → α) (keep : Nat → Bool) (t : Table α) (k : Nat) :
    read d (t.filter fun entry => keep entry.1) k = if keep k then read d t k else d k := by
  induction t with
  | nil => exact (ite_self _).symm
  | cons entry t ih =>
    obtain ⟨number, value⟩ := entry
    rw [List.filter_cons, read_cons]
    by_cases here : number = k
    · subst here
      cases struck : keep number <;> simp [struck, ih]
    · cases keep number <;> simp [here, ih]

/-- Dropping a number: it reads as the default, every other number as before. -/
theorem read_drop (d : Nat → α) (t : Table α) (k j : Nat) :
    read d (drop t k) j = if k = j then d j else read d t j := by
  rw [drop, read_filter d (fun i => decide (i ≠ k))]
  by_cases same : k = j <;> simp [same, Ne.symm]

/-- Placing a value: it reads there, and every other number as before. -/
theorem read_place (d : Nat → α) (t : Table α) (k j : Nat) (v : α) :
    read d (place t k v) j = if k = j then v else read d t j := by
  rw [place, read_append, read_filter _ (fun i => decide (i < k))]
  have behind := read_filter d (fun i => decide (k < i)) t j
  rcases lt_trichotomy j k with below | rfl | above
  · rw [if_pos (by simpa using below), if_neg (by omega)]
    refine read_congr ?_ t
    rw [read_cons, behind, if_neg (by omega : ¬ k = j), if_neg (by simpa using Nat.le_of_lt below)]
  · simp
  · rw [if_neg (by simpa using Nat.le_of_lt above), read_cons, behind, if_neg (by omega : ¬ k = j),
      if_pos (by simpa using above), if_neg (by omega)]

/-- Writing a value: it reads there, and every other number as before. -/
theorem read_write [DecidableEq α] (d : Nat → α) (t : Table α) (k j : Nat) (v : α) :
    read d (write d t k v) j = if k = j then v else read d t j := by
  by_cases h : v = d k
  · by_cases hkj : k = j
    · subst hkj
      simp [write, h, read_drop]
    · simp [write, h, read_drop, hkj]
  · simp [write, h, read_place]

@[simp] theorem read_write_self [DecidableEq α] (d : Nat → α) (t : Table α) (k : Nat) (v : α) :
    read d (write d t k v) k = v := by
  simp [read_write]

theorem read_write_ne [DecidableEq α] (d : Nat → α) (t : Table α) (k j : Nat) (v : α) (h : k ≠ j) :
    read d (write d t k v) j = read d t j := by
  simp [read_write, h]

/-- Every entry left by a drop was there before. -/
theorem mem_drop {t : Table α} {k : Nat} {e : Nat × α} (left : e ∈ drop t k) : e ∈ t := List.mem_of_mem_filter left

/-- Every entry of a placed table is the placed one or was there before. -/
theorem mem_place {t : Table α} {k : Nat} {v : α} {e : Nat × α} (left : e ∈ place t k v) : e = (k, v) ∨ e ∈ t := by
  rcases List.mem_append.1 left with below | above
  · exact Or.inr (List.mem_of_mem_filter below)
  · exact (List.mem_cons.1 above).imp_right List.mem_of_mem_filter

/-- A drop keeps the canonical form. -/
theorem wf_drop [DecidableEq α] {d : Nat → α} {t : Table α} (k : Nat) (canonical : wf d t) : wf d (drop t k) :=
  ⟨canonical.1.filter _, fun e left => canonical.2 e (mem_drop left)⟩

/-- Placing a value that is not the default keeps the canonical form. -/
theorem wf_place [DecidableEq α] {d : Nat → α} {t : Table α} {k : Nat} {v : α} (hv : v ≠ d k) (canonical : wf d t) :
    wf d (place t k v) := by
  constructor
  · refine List.pairwise_append.2 ⟨canonical.1.filter _, List.pairwise_cons.2 ⟨fun e above => ?_, canonical.1.filter _⟩,
      fun low below e rest => ?_⟩
    · exact of_decide_eq_true (List.mem_filter.1 above).2
    · have under : low.1 < k := of_decide_eq_true (List.mem_filter.1 below).2
      rcases List.mem_cons.1 rest with rfl | above
      · exact under
      · exact under.trans (of_decide_eq_true (List.mem_filter.1 above).2)
  · intro e left
    rcases mem_place left with rfl | before
    · exact hv
    · exact canonical.2 e before

/-- A write keeps the canonical form. -/
theorem wf_write [DecidableEq α] {d : Nat → α} {t : Table α} (k : Nat) (v : α) (h : wf d t) : wf d (write d t k v) := by
  by_cases hv : v = d k
  · simpa [write, hv] using wf_drop k h
  · simpa [write, hv] using wf_place hv h

theorem wf_nil [DecidableEq α] (d : Nat → α) : wf d [] := ⟨List.Pairwise.nil, fun _ h => by simp at h⟩

/-- An entry of the table of a function is a number below the bound with the function's value, which is not the default. -/
theorem mem_ofFunction [DecidableEq α] {d : Nat → α} {n : Nat} {f : Nat → α} {e : Nat × α}
    (listed : e ∈ ofFunction d n f) : e.1 < n ∧ e.2 = f e.1 ∧ f e.1 ≠ d e.1 := by
  obtain ⟨k, below, found⟩ := List.mem_filterMap.1 listed
  split at found
  · cases found
  · cases found
    exact ⟨List.mem_range.1 below, rfl, ‹_›⟩

/-- The table of a function is canonical. -/
theorem wf_ofFunction [DecidableEq α] (d : Nat → α) (n : Nat) (f : Nat → α) : wf d (ofFunction d n f) := by
  refine ⟨List.pairwise_lt_range.filterMap _ fun low high rising x hx y hy => ?_, fun e listed => ?_⟩
  · split at hx <;> cases hx
    split at hy <;> cases hy
    exact rising
  · rw [(mem_ofFunction listed).2.1]
    exact (mem_ofFunction listed).2.2

/-- A table built by writes is canonical. -/
theorem wf_foldl_write [DecidableEq α] {β : Type} {d : Nat → α} (l : List β) (k : β → Nat) (v : β → α) (t : Table α)
    (h : wf d t) : wf d (l.foldl (fun u b => write d u (k b) (v b)) t) :=
  foldl_keeps (P := wf d) (fun u b => write d u (k b) (v b)) (fun _ b canonical => wf_write (k b) (v b) canonical) l h

/-- A number that no entry lists reads as the default. -/
theorem read_of_not_mem {d : Nat → α} {t : Table α} {k : Nat} (unlisted : ∀ e ∈ t, e.1 ≠ k) : read d t k = d k := by
  have untouched : drop t k = t := List.filter_eq_self.2 fun e listed => decide_eq_true (unlisted e listed)
  rw [← untouched, read_drop, if_pos rfl]

/-- A listed number reads as its entry's value in a canonical table. -/
theorem read_of_mem [DecidableEq α] {d : Nat → α} {t : Table α} {e : Nat × α} (canonical : wf d t) (listed : e ∈ t) :
    read d t e.1 = e.2 := by
  obtain ⟨front, back, rfl⟩ := List.append_of_mem listed
  rw [read_append, read_of_not_mem, read_cons, if_pos rfl]
  intro x before
  exact Nat.ne_of_lt ((List.pairwise_append.1 canonical.1).2.2 x before e List.mem_cons_self)

/-- A table of a function over the numbers below `n` reads as the function there. -/
theorem read_ofFunction [DecidableEq α] (d : Nat → α) (n : Nat) (f : Nat → α) (k : Nat) :
    read d (ofFunction d n f) k = if k < n then f k else d k := by
  by_cases shown : k < n ∧ f k ≠ d k
  · have listed : (k, f k) ∈ ofFunction d n f :=
      List.mem_filterMap.2 ⟨k, List.mem_range.2 shown.1, if_neg shown.2⟩
    rw [if_pos shown.1]
    exact read_of_mem (wf_ofFunction d n f) listed
  · rw [read_of_not_mem fun e listed same => ?_]
    · split
      · exact (not_not.1 fun differs => shown ⟨‹_›, differs⟩).symm
      · rfl
    · have entry := mem_ofFunction listed
      rw [same] at entry
      exact shown ⟨entry.1, entry.2.2⟩

end Table

end Sys2Proof.Machine
end

