-- ==== Sys2Proof/Laws/Ops.lean ====
section
/-! SUPPORT. What each shared operation of Ops.lean leaves alone, block by block, and what the tables read as after it. -/

namespace Sys2Proof.Machine

/-! ## Blocks that an operation leaves alone -/

@[simp] theorem State.owe_pending (s : State) (n : Nat) : (s.owe n).pending = s.pending := rfl
@[simp] theorem State.owe_clk (s : State) (n : Nat) : (s.owe n).clk = s.clk := rfl
@[simp] theorem State.owe_live (s : State) (n : Nat) : (s.owe n).live = s.live := rfl
@[simp] theorem State.owe_stored (s : State) (n : Nat) : (s.owe n).stored = s.stored := rfl
@[simp] theorem State.owe_ci (s : State) (n : Nat) : (s.owe n).ci = s.ci := rfl
@[simp] theorem State.owe_pp (s : State) (n : Nat) : (s.owe n).pp = s.pp := rfl
@[simp] theorem State.owe_su (s : State) (n : Nat) : (s.owe n).su = s.su := rfl
@[simp] theorem State.owe_re (s : State) (n : Nat) : (s.owe n).re = s.re := rfl
@[simp] theorem State.owe_cm (s : State) (n : Nat) : (s.owe n).cm = s.cm := rfl
@[simp] theorem State.owe_nu (s : State) (n : Nat) : (s.owe n).nu = s.nu := rfl

@[simp] theorem State.imageChanged_pending (s : State) (n : Nat) (a b : Image) : (s.imageChanged n a b).pending = s.pending := by
  unfold State.imageChanged; split <;> rfl
@[simp] theorem State.imageChanged_clk (s : State) (n : Nat) (a b : Image) : (s.imageChanged n a b).clk = s.clk := by
  unfold State.imageChanged; split <;> rfl
@[simp] theorem State.imageChanged_live (s : State) (n : Nat) (a b : Image) : (s.imageChanged n a b).live = s.live := by
  unfold State.imageChanged; split <;> rfl
@[simp] theorem State.imageChanged_stored (s : State) (n : Nat) (a b : Image) : (s.imageChanged n a b).stored = s.stored := by
  unfold State.imageChanged; split <;> rfl
@[simp] theorem State.imageChanged_ci (s : State) (n : Nat) (a b : Image) : (s.imageChanged n a b).ci = s.ci := by
  unfold State.imageChanged; split <;> rfl
@[simp] theorem State.imageChanged_pp (s : State) (n : Nat) (a b : Image) : (s.imageChanged n a b).pp = s.pp := by
  unfold State.imageChanged; split <;> rfl
@[simp] theorem State.imageChanged_su (s : State) (n : Nat) (a b : Image) : (s.imageChanged n a b).su = s.su := by
  unfold State.imageChanged; split <;> rfl
@[simp] theorem State.imageChanged_re (s : State) (n : Nat) (a b : Image) : (s.imageChanged n a b).re = s.re := by
  unfold State.imageChanged; split <;> rfl
@[simp] theorem State.imageChanged_cm (s : State) (n : Nat) (a b : Image) : (s.imageChanged n a b).cm = s.cm := by
  unfold State.imageChanged; split <;> rfl
@[simp] theorem State.imageChanged_nu (s : State) (n : Nat) (a b : Image) : (s.imageChanged n a b).nu = s.nu := by
  unfold State.imageChanged; split <;> rfl

@[simp] theorem State.post_pending (s : State) (n : Nat) (r : Route) : (s.post n r).pending = s.pending := rfl
@[simp] theorem State.post_clk (s : State) (n : Nat) (r : Route) : (s.post n r).clk = s.clk := rfl
@[simp] theorem State.post_live (s : State) (n : Nat) (r : Route) : (s.post n r).live = s.live := rfl
@[simp] theorem State.post_stored (s : State) (n : Nat) (r : Route) : (s.post n r).stored = s.stored := rfl
@[simp] theorem State.post_ci (s : State) (n : Nat) (r : Route) : (s.post n r).ci = s.ci := rfl
@[simp] theorem State.post_su (s : State) (n : Nat) (r : Route) : (s.post n r).su = s.su := rfl
@[simp] theorem State.post_re (s : State) (n : Nat) (r : Route) : (s.post n r).re = s.re := rfl
@[simp] theorem State.post_rj (s : State) (n : Nat) (r : Route) : (s.post n r).rj = s.rj := rfl
@[simp] theorem State.post_cm (s : State) (n : Nat) (r : Route) : (s.post n r).cm = s.cm := rfl
@[simp] theorem State.post_nu (s : State) (n : Nat) (r : Route) : (s.post n r).nu = s.nu := rfl

@[simp] theorem State.postChange_pending (s : State) (n : Nat) (a b : Route) : (s.postChange n a b).pending = s.pending := by
  unfold State.postChange; split <;> rfl
@[simp] theorem State.postChange_clk (s : State) (n : Nat) (a b : Route) : (s.postChange n a b).clk = s.clk := by
  unfold State.postChange; split <;> rfl
@[simp] theorem State.postChange_live (s : State) (n : Nat) (a b : Route) : (s.postChange n a b).live = s.live := by
  unfold State.postChange; split <;> rfl
@[simp] theorem State.postChange_stored (s : State) (n : Nat) (a b : Route) : (s.postChange n a b).stored = s.stored := by
  unfold State.postChange; split <;> rfl
@[simp] theorem State.postChange_ci (s : State) (n : Nat) (a b : Route) : (s.postChange n a b).ci = s.ci := by
  unfold State.postChange; split <;> rfl
@[simp] theorem State.postChange_su (s : State) (n : Nat) (a b : Route) : (s.postChange n a b).su = s.su := by
  unfold State.postChange; split <;> rfl
@[simp] theorem State.postChange_re (s : State) (n : Nat) (a b : Route) : (s.postChange n a b).re = s.re := by
  unfold State.postChange; split <;> rfl
@[simp] theorem State.postChange_rj (s : State) (n : Nat) (a b : Route) : (s.postChange n a b).rj = s.rj := by
  unfold State.postChange; split <;> rfl
@[simp] theorem State.postChange_cm (s : State) (n : Nat) (a b : Route) : (s.postChange n a b).cm = s.cm := by
  unfold State.postChange; split <;> rfl
@[simp] theorem State.postChange_nu (s : State) (n : Nat) (a b : Route) : (s.postChange n a b).nu = s.nu := by
  unfold State.postChange; split <;> rfl

@[simp] theorem State.setLine_pending (s : State) (l : Nat) (v : Line) : (s.setLine l v).pending = s.pending := rfl
@[simp] theorem State.setLine_clk (s : State) (l : Nat) (v : Line) : (s.setLine l v).clk = s.clk := rfl
@[simp] theorem State.setLine_live (s : State) (l : Nat) (v : Line) : (s.setLine l v).live = s.live := rfl
@[simp] theorem State.setLine_stored (s : State) (l : Nat) (v : Line) : (s.setLine l v).stored = s.stored := rfl
@[simp] theorem State.setLine_ci (s : State) (l : Nat) (v : Line) : (s.setLine l v).ci = s.ci := rfl
@[simp] theorem State.setLine_pp (s : State) (l : Nat) (v : Line) : (s.setLine l v).pp = s.pp := rfl
@[simp] theorem State.setLine_su (s : State) (l : Nat) (v : Line) : (s.setLine l v).su = s.su := rfl
@[simp] theorem State.setLine_rj (s : State) (l : Nat) (v : Line) : (s.setLine l v).rj = s.rj := rfl
@[simp] theorem State.setLine_cm (s : State) (l : Nat) (v : Line) : (s.setLine l v).cm = s.cm := rfl
@[simp] theorem State.setLine_nu (s : State) (l : Nat) (v : Line) : (s.setLine l v).nu = s.nu := rfl

@[simp] theorem State.moveTally_pending (s : State) (l : Nat) (up : Bool) : (s.moveTally l up).pending = s.pending := rfl
@[simp] theorem State.moveTally_clk (s : State) (l : Nat) (up : Bool) : (s.moveTally l up).clk = s.clk := rfl
@[simp] theorem State.moveTally_live (s : State) (l : Nat) (up : Bool) : (s.moveTally l up).live = s.live := rfl
@[simp] theorem State.moveTally_stored (s : State) (l : Nat) (up : Bool) : (s.moveTally l up).stored = s.stored := rfl
@[simp] theorem State.moveTally_ci (s : State) (l : Nat) (up : Bool) : (s.moveTally l up).ci = s.ci := rfl
@[simp] theorem State.moveTally_pp (s : State) (l : Nat) (up : Bool) : (s.moveTally l up).pp = s.pp := rfl
@[simp] theorem State.moveTally_su (s : State) (l : Nat) (up : Bool) : (s.moveTally l up).su = s.su := rfl
@[simp] theorem State.moveTally_rj (s : State) (l : Nat) (up : Bool) : (s.moveTally l up).rj = s.rj := rfl
@[simp] theorem State.moveTally_cm (s : State) (l : Nat) (up : Bool) : (s.moveTally l up).cm = s.cm := rfl
@[simp] theorem State.moveTally_nu (s : State) (l : Nat) (up : Bool) : (s.moveTally l up).nu = s.nu := rfl

@[simp] theorem State.countTallies_pending (s : State) (n : Nat) (a b : CellState) : (s.countTallies n a b).pending = s.pending := by
  unfold State.countTallies; split <;> rfl
@[simp] theorem State.countTallies_clk (s : State) (n : Nat) (a b : CellState) : (s.countTallies n a b).clk = s.clk := by
  unfold State.countTallies; split <;> rfl
@[simp] theorem State.countTallies_live (s : State) (n : Nat) (a b : CellState) : (s.countTallies n a b).live = s.live := by
  unfold State.countTallies; split <;> rfl
@[simp] theorem State.countTallies_stored (s : State) (n : Nat) (a b : CellState) : (s.countTallies n a b).stored = s.stored := by
  unfold State.countTallies; split <;> rfl
@[simp] theorem State.countTallies_ci (s : State) (n : Nat) (a b : CellState) : (s.countTallies n a b).ci = s.ci := by
  unfold State.countTallies; split <;> rfl
@[simp] theorem State.countTallies_pp (s : State) (n : Nat) (a b : CellState) : (s.countTallies n a b).pp = s.pp := by
  unfold State.countTallies; split <;> rfl
@[simp] theorem State.countTallies_su (s : State) (n : Nat) (a b : CellState) : (s.countTallies n a b).su = s.su := by
  unfold State.countTallies; split <;> rfl
@[simp] theorem State.countTallies_rj (s : State) (n : Nat) (a b : CellState) : (s.countTallies n a b).rj = s.rj := by
  unfold State.countTallies; split <;> rfl
@[simp] theorem State.countTallies_cm (s : State) (n : Nat) (a b : CellState) : (s.countTallies n a b).cm = s.cm := by
  unfold State.countTallies; split <;> rfl
@[simp] theorem State.countTallies_nu (s : State) (n : Nat) (a b : CellState) : (s.countTallies n a b).nu = s.nu := by
  unfold State.countTallies; split <;> rfl

@[simp] theorem State.writeCell_pending (s : State) (n : Nat) (c : CellState) (d : DieState) : (s.writeCell n c d).pending = s.pending := rfl
@[simp] theorem State.writeCell_clk (s : State) (n : Nat) (c : CellState) (d : DieState) : (s.writeCell n c d).clk = s.clk := rfl
@[simp] theorem State.writeCell_live (s : State) (n : Nat) (c : CellState) (d : DieState) : (s.writeCell n c d).live = s.live := rfl
@[simp] theorem State.writeCell_stored (s : State) (n : Nat) (c : CellState) (d : DieState) : (s.writeCell n c d).stored = s.stored := rfl
@[simp] theorem State.writeCell_ci (s : State) (n : Nat) (c : CellState) (d : DieState) : (s.writeCell n c d).ci = s.ci := rfl
@[simp] theorem State.writeCell_pp (s : State) (n : Nat) (c : CellState) (d : DieState) : (s.writeCell n c d).pp = s.pp := rfl
@[simp] theorem State.writeCell_su (s : State) (n : Nat) (c : CellState) (d : DieState) : (s.writeCell n c d).su = s.su := rfl
@[simp] theorem State.writeCell_rj (s : State) (n : Nat) (c : CellState) (d : DieState) : (s.writeCell n c d).rj = s.rj := rfl
@[simp] theorem State.writeCell_cm (s : State) (n : Nat) (c : CellState) (d : DieState) : (s.writeCell n c d).cm = s.cm := rfl
@[simp] theorem State.writeCell_nu (s : State) (n : Nat) (c : CellState) (d : DieState) : (s.writeCell n c d).nu = s.nu := rfl

@[simp] theorem State.setCell_pending (s : State) (n : Nat) (c : CellState) (d : DieState) : (s.setCell n c d).pending = s.pending := by
  simp [State.setCell]
@[simp] theorem State.setCell_clk (s : State) (n : Nat) (c : CellState) (d : DieState) : (s.setCell n c d).clk = s.clk := by
  simp [State.setCell]
@[simp] theorem State.setCell_live (s : State) (n : Nat) (c : CellState) (d : DieState) : (s.setCell n c d).live = s.live := by
  simp [State.setCell]
@[simp] theorem State.setCell_stored (s : State) (n : Nat) (c : CellState) (d : DieState) : (s.setCell n c d).stored = s.stored := by
  simp [State.setCell]
@[simp] theorem State.setCell_ci (s : State) (n : Nat) (c : CellState) (d : DieState) : (s.setCell n c d).ci = s.ci := by
  simp [State.setCell]
@[simp] theorem State.setCell_su (s : State) (n : Nat) (c : CellState) (d : DieState) : (s.setCell n c d).su = s.su := by
  simp [State.setCell]
@[simp] theorem State.setCell_cm (s : State) (n : Nat) (c : CellState) (d : DieState) : (s.setCell n c d).cm = s.cm := by
  simp [State.setCell]
@[simp] theorem State.setCell_nu (s : State) (n : Nat) (c : CellState) (d : DieState) : (s.setCell n c d).nu = s.nu := by
  simp [State.setCell]

@[simp] theorem State.setChannel_pending (s : State) (k : Nat) (v : Channel) : (s.setChannel k v).pending = s.pending := by
  simp [State.setChannel]
@[simp] theorem State.setChannel_clk (s : State) (k : Nat) (v : Channel) : (s.setChannel k v).clk = s.clk := by
  simp [State.setChannel]
@[simp] theorem State.setChannel_live (s : State) (k : Nat) (v : Channel) : (s.setChannel k v).live = s.live := by
  simp [State.setChannel]
@[simp] theorem State.setChannel_stored (s : State) (k : Nat) (v : Channel) : (s.setChannel k v).stored = s.stored := by
  simp [State.setChannel]
@[simp] theorem State.setChannel_ci (s : State) (k : Nat) (v : Channel) : (s.setChannel k v).ci = s.ci := by
  simp [State.setChannel]
@[simp] theorem State.setChannel_pp (s : State) (k : Nat) (v : Channel) : (s.setChannel k v).pp = s.pp := by
  simp [State.setChannel]
@[simp] theorem State.setChannel_su (s : State) (k : Nat) (v : Channel) : (s.setChannel k v).su = s.su := by
  simp [State.setChannel]
@[simp] theorem State.setChannel_cm (s : State) (k : Nat) (v : Channel) : (s.setChannel k v).cm = s.cm := by
  simp [State.setChannel]
@[simp] theorem State.setChannel_nu (s : State) (k : Nat) (v : Channel) : (s.setChannel k v).nu = s.nu := by
  simp [State.setChannel]

@[simp] theorem State.disconnect_pending (s : State) (k : Nat) : (s.disconnect k).pending = s.pending := by
  unfold State.disconnect; repeat' split
  all_goals rfl
@[simp] theorem State.disconnect_clk (s : State) (k : Nat) : (s.disconnect k).clk = s.clk := by
  unfold State.disconnect; repeat' split
  all_goals rfl
@[simp] theorem State.disconnect_live (s : State) (k : Nat) : (s.disconnect k).live = s.live := by
  unfold State.disconnect; repeat' split
  all_goals rfl
@[simp] theorem State.disconnect_stored (s : State) (k : Nat) : (s.disconnect k).stored = s.stored := by
  unfold State.disconnect; repeat' split
  all_goals rfl
@[simp] theorem State.disconnect_ci (s : State) (k : Nat) : (s.disconnect k).ci = s.ci := by
  unfold State.disconnect; repeat' split
  all_goals rfl
@[simp] theorem State.disconnect_pp (s : State) (k : Nat) : (s.disconnect k).pp = s.pp := by
  unfold State.disconnect; repeat' split
  all_goals rfl
@[simp] theorem State.disconnect_re (s : State) (k : Nat) : (s.disconnect k).re = s.re := by
  unfold State.disconnect; repeat' split
  all_goals rfl
@[simp] theorem State.disconnect_rj (s : State) (k : Nat) : (s.disconnect k).rj = s.rj := by
  unfold State.disconnect; repeat' split
  all_goals rfl
@[simp] theorem State.disconnect_cm (s : State) (k : Nat) : (s.disconnect k).cm = s.cm := by
  unfold State.disconnect; repeat' split
  all_goals rfl
@[simp] theorem State.disconnect_nu (s : State) (k : Nat) : (s.disconnect k).nu = s.nu := by
  unfold State.disconnect; repeat' split
  all_goals rfl

@[simp] theorem State.dropProving_pending (s : State) (k : Nat) : (s.dropProving k).pending = s.pending := rfl
@[simp] theorem State.dropProving_clk (s : State) (k : Nat) : (s.dropProving k).clk = s.clk := rfl
@[simp] theorem State.dropProving_live (s : State) (k : Nat) : (s.dropProving k).live = s.live := rfl
@[simp] theorem State.dropProving_stored (s : State) (k : Nat) : (s.dropProving k).stored = s.stored := rfl
@[simp] theorem State.dropProving_ci (s : State) (k : Nat) : (s.dropProving k).ci = s.ci := rfl
@[simp] theorem State.dropProving_pp (s : State) (k : Nat) : (s.dropProving k).pp = s.pp := rfl
@[simp] theorem State.dropProving_su (s : State) (k : Nat) : (s.dropProving k).su = s.su := rfl
@[simp] theorem State.dropProving_rj (s : State) (k : Nat) : (s.dropProving k).rj = s.rj := rfl
@[simp] theorem State.dropProving_cm (s : State) (k : Nat) : (s.dropProving k).cm = s.cm := rfl
@[simp] theorem State.dropProving_nu (s : State) (k : Nat) : (s.dropProving k).nu = s.nu := rfl

@[simp] theorem State.dropEntry_pending (s : State) (u : UnitId) : (s.dropEntry u).pending = s.pending := rfl
@[simp] theorem State.dropEntry_clk (s : State) (u : UnitId) : (s.dropEntry u).clk = s.clk := rfl
@[simp] theorem State.dropEntry_live (s : State) (u : UnitId) : (s.dropEntry u).live = s.live := rfl
@[simp] theorem State.dropEntry_stored (s : State) (u : UnitId) : (s.dropEntry u).stored = s.stored := rfl
@[simp] theorem State.dropEntry_ci (s : State) (u : UnitId) : (s.dropEntry u).ci = s.ci := rfl
@[simp] theorem State.dropEntry_pp (s : State) (u : UnitId) : (s.dropEntry u).pp = s.pp := rfl
@[simp] theorem State.dropEntry_su (s : State) (u : UnitId) : (s.dropEntry u).su = s.su := rfl
@[simp] theorem State.dropEntry_rj (s : State) (u : UnitId) : (s.dropEntry u).rj = s.rj := rfl
@[simp] theorem State.dropEntry_cm (s : State) (u : UnitId) : (s.dropEntry u).cm = s.cm := rfl
@[simp] theorem State.dropEntry_nu (s : State) (u : UnitId) : (s.dropEntry u).nu = s.nu := rfl

@[simp] theorem State.freeChannel_pending (s : State) (k : Nat) : (s.freeChannel k).pending = s.pending := by
  simp [State.freeChannel]
@[simp] theorem State.freeChannel_clk (s : State) (k : Nat) : (s.freeChannel k).clk = s.clk := by
  simp [State.freeChannel]
@[simp] theorem State.freeChannel_live (s : State) (k : Nat) : (s.freeChannel k).live = s.live := by
  simp [State.freeChannel]
@[simp] theorem State.freeChannel_stored (s : State) (k : Nat) : (s.freeChannel k).stored = s.stored := by
  simp [State.freeChannel]
@[simp] theorem State.freeChannel_ci (s : State) (k : Nat) : (s.freeChannel k).ci = s.ci := by
  simp [State.freeChannel]
@[simp] theorem State.freeChannel_pp (s : State) (k : Nat) : (s.freeChannel k).pp = s.pp := by
  simp [State.freeChannel]
@[simp] theorem State.freeChannel_cm (s : State) (k : Nat) : (s.freeChannel k).cm = s.cm := by
  simp [State.freeChannel]
@[simp] theorem State.freeChannel_nu (s : State) (k : Nat) : (s.freeChannel k).nu = s.nu := by
  simp [State.freeChannel]

@[simp] theorem State.freeNamed_pending (s : State) (c : CellState) : (s.freeNamed c).pending = s.pending := by
  unfold State.freeNamed; split <;> simp
@[simp] theorem State.freeNamed_clk (s : State) (c : CellState) : (s.freeNamed c).clk = s.clk := by
  unfold State.freeNamed; split <;> simp
@[simp] theorem State.freeNamed_live (s : State) (c : CellState) : (s.freeNamed c).live = s.live := by
  unfold State.freeNamed; split <;> simp
@[simp] theorem State.freeNamed_stored (s : State) (c : CellState) : (s.freeNamed c).stored = s.stored := by
  unfold State.freeNamed; split <;> simp
@[simp] theorem State.freeNamed_ci (s : State) (c : CellState) : (s.freeNamed c).ci = s.ci := by
  unfold State.freeNamed; split <;> simp
@[simp] theorem State.freeNamed_pp (s : State) (c : CellState) : (s.freeNamed c).pp = s.pp := by
  unfold State.freeNamed; split <;> simp
@[simp] theorem State.freeNamed_cm (s : State) (c : CellState) : (s.freeNamed c).cm = s.cm := by
  unfold State.freeNamed; split <;> simp
@[simp] theorem State.freeNamed_nu (s : State) (c : CellState) : (s.freeNamed c).nu = s.nu := by
  unfold State.freeNamed; split <;> simp

@[simp] theorem State.withdraw_pending (s : State) (n : Nat) (c : CellState) : (s.withdraw n c).pending = s.pending := by
  simp [State.withdraw]
@[simp] theorem State.withdraw_clk (s : State) (n : Nat) (c : CellState) : (s.withdraw n c).clk = s.clk := by
  simp [State.withdraw]
@[simp] theorem State.withdraw_live (s : State) (n : Nat) (c : CellState) : (s.withdraw n c).live = s.live := by
  simp [State.withdraw]
@[simp] theorem State.withdraw_stored (s : State) (n : Nat) (c : CellState) : (s.withdraw n c).stored = s.stored := by
  simp [State.withdraw]
@[simp] theorem State.withdraw_ci (s : State) (n : Nat) (c : CellState) : (s.withdraw n c).ci = s.ci := by
  simp [State.withdraw]
@[simp] theorem State.withdraw_cm (s : State) (n : Nat) (c : CellState) : (s.withdraw n c).cm = s.cm := by
  simp [State.withdraw]
@[simp] theorem State.withdraw_nu (s : State) (n : Nat) (c : CellState) : (s.withdraw n c).nu = s.nu := by
  simp [State.withdraw]

@[simp] theorem State.clearClaim_pending (s : State) (us : List UnitId) : (s.clearClaim us).pending = s.pending := rfl
@[simp] theorem State.clearClaim_clk (s : State) (us : List UnitId) : (s.clearClaim us).clk = s.clk := rfl
@[simp] theorem State.clearClaim_live (s : State) (us : List UnitId) : (s.clearClaim us).live = s.live := rfl
@[simp] theorem State.clearClaim_stored (s : State) (us : List UnitId) : (s.clearClaim us).stored = s.stored := rfl
@[simp] theorem State.clearClaim_ci (s : State) (us : List UnitId) : (s.clearClaim us).ci = s.ci := rfl
@[simp] theorem State.clearClaim_pp (s : State) (us : List UnitId) : (s.clearClaim us).pp = s.pp := rfl
@[simp] theorem State.clearClaim_re (s : State) (us : List UnitId) : (s.clearClaim us).re = s.re := rfl
@[simp] theorem State.clearClaim_rj (s : State) (us : List UnitId) : (s.clearClaim us).rj = s.rj := rfl
@[simp] theorem State.clearClaim_cm (s : State) (us : List UnitId) : (s.clearClaim us).cm = s.cm := rfl
@[simp] theorem State.clearClaim_nu (s : State) (us : List UnitId) : (s.clearClaim us).nu = s.nu := rfl

@[simp] theorem State.send_pending (s : State) (p : Port) (b : List Byte) : (s.send p b).pending = s.pending := by
  simp [State.send]
@[simp] theorem State.send_clk (s : State) (p : Port) (b : List Byte) : (s.send p b).clk = s.clk := by
  simp [State.send]
@[simp] theorem State.send_live (s : State) (p : Port) (b : List Byte) : (s.send p b).live = s.live := by
  simp [State.send]
@[simp] theorem State.send_stored (s : State) (p : Port) (b : List Byte) : (s.send p b).stored = s.stored := by
  simp [State.send]
@[simp] theorem State.send_pp (s : State) (p : Port) (b : List Byte) : (s.send p b).pp = s.pp := by
  simp [State.send]
@[simp] theorem State.send_su (s : State) (p : Port) (b : List Byte) : (s.send p b).su = s.su := by
  simp [State.send]
@[simp] theorem State.send_re (s : State) (p : Port) (b : List Byte) : (s.send p b).re = s.re := by
  simp [State.send]
@[simp] theorem State.send_rj (s : State) (p : Port) (b : List Byte) : (s.send p b).rj = s.rj := by
  simp [State.send]
@[simp] theorem State.send_cm (s : State) (p : Port) (b : List Byte) : (s.send p b).cm = s.cm := by
  simp [State.send]
@[simp] theorem State.send_nu (s : State) (p : Port) (b : List Byte) : (s.send p b).nu = s.nu := by
  simp [State.send]

@[simp] theorem State.consider_pending (s : State) (p : Port) : (s.consider p).pending = s.pending := by
  simp [State.consider]
@[simp] theorem State.consider_clk (s : State) (p : Port) : (s.consider p).clk = s.clk := by
  simp [State.consider]
@[simp] theorem State.consider_live (s : State) (p : Port) : (s.consider p).live = s.live := by
  simp [State.consider]
@[simp] theorem State.consider_stored (s : State) (p : Port) : (s.consider p).stored = s.stored := by
  simp [State.consider]
@[simp] theorem State.consider_pp (s : State) (p : Port) : (s.consider p).pp = s.pp := by
  simp [State.consider]
@[simp] theorem State.consider_su (s : State) (p : Port) : (s.consider p).su = s.su := by
  simp [State.consider]
@[simp] theorem State.consider_re (s : State) (p : Port) : (s.consider p).re = s.re := by
  simp [State.consider]
@[simp] theorem State.consider_rj (s : State) (p : Port) : (s.consider p).rj = s.rj := by
  simp [State.consider]
@[simp] theorem State.consider_cm (s : State) (p : Port) : (s.consider p).cm = s.cm := by
  simp [State.consider]
@[simp] theorem State.consider_nu (s : State) (p : Port) : (s.consider p).nu = s.nu := by
  simp [State.consider]

@[simp] theorem State.loseReply_pending (s : State) (p : Port) : (s.loseReply p).pending = s.pending := by
  simp [State.loseReply]
@[simp] theorem State.loseReply_clk (s : State) (p : Port) : (s.loseReply p).clk = s.clk := by
  simp [State.loseReply]
@[simp] theorem State.loseReply_live (s : State) (p : Port) : (s.loseReply p).live = s.live := by
  simp [State.loseReply]
@[simp] theorem State.loseReply_stored (s : State) (p : Port) : (s.loseReply p).stored = s.stored := by
  simp [State.loseReply]
@[simp] theorem State.loseReply_pp (s : State) (p : Port) : (s.loseReply p).pp = s.pp := by
  simp [State.loseReply]
@[simp] theorem State.loseReply_su (s : State) (p : Port) : (s.loseReply p).su = s.su := by
  simp [State.loseReply]
@[simp] theorem State.loseReply_re (s : State) (p : Port) : (s.loseReply p).re = s.re := by
  simp [State.loseReply]
@[simp] theorem State.loseReply_rj (s : State) (p : Port) : (s.loseReply p).rj = s.rj := by
  simp [State.loseReply]
@[simp] theorem State.loseReply_cm (s : State) (p : Port) : (s.loseReply p).cm = s.cm := by
  simp [State.loseReply]
@[simp] theorem State.loseReply_nu (s : State) (p : Port) : (s.loseReply p).nu = s.nu := by
  simp [State.loseReply]

@[simp] theorem State.queueReply_pending (s : State) (p : Port) (r : Reply) : (s.queueReply p r).pending = s.pending := by
  simp [State.queueReply]
@[simp] theorem State.queueReply_clk (s : State) (p : Port) (r : Reply) : (s.queueReply p r).clk = s.clk := by
  simp [State.queueReply]
@[simp] theorem State.queueReply_live (s : State) (p : Port) (r : Reply) : (s.queueReply p r).live = s.live := by
  simp [State.queueReply]
@[simp] theorem State.queueReply_stored (s : State) (p : Port) (r : Reply) : (s.queueReply p r).stored = s.stored := by
  simp [State.queueReply]
@[simp] theorem State.queueReply_pp (s : State) (p : Port) (r : Reply) : (s.queueReply p r).pp = s.pp := by
  simp [State.queueReply]
@[simp] theorem State.queueReply_su (s : State) (p : Port) (r : Reply) : (s.queueReply p r).su = s.su := by
  simp [State.queueReply]
@[simp] theorem State.queueReply_re (s : State) (p : Port) (r : Reply) : (s.queueReply p r).re = s.re := by
  simp [State.queueReply]
@[simp] theorem State.queueReply_rj (s : State) (p : Port) (r : Reply) : (s.queueReply p r).rj = s.rj := by
  simp [State.queueReply]
@[simp] theorem State.queueReply_cm (s : State) (p : Port) (r : Reply) : (s.queueReply p r).cm = s.cm := by
  simp [State.queueReply]
@[simp] theorem State.queueReply_nu (s : State) (p : Port) (r : Reply) : (s.queueReply p r).nu = s.nu := by
  simp [State.queueReply]

/-! ## What the tables of the Repair Engine read as -/

@[simp] theorem State.setLine_re_cells (s : State) (l : Nat) (v : Line) : (s.setLine l v).re.cells = s.re.cells := rfl
@[simp] theorem State.setLine_re_dies (s : State) (l : Nat) (v : Line) : (s.setLine l v).re.dies = s.re.dies := rfl
@[simp] theorem State.setLine_re_channels (s : State) (l : Nat) (v : Line) : (s.setLine l v).re.channels = s.re.channels := rfl
@[simp] theorem State.setLine_re_suspects (s : State) (l : Nat) (v : Line) : (s.setLine l v).re.suspects = s.re.suspects := rfl
@[simp] theorem State.setLine_re_provings (s : State) (l : Nat) (v : Line) : (s.setLine l v).re.provings = s.re.provings := rfl
@[simp] theorem State.setLine_re_budget (s : State) (l : Nat) (v : Line) : (s.setLine l v).re.budget = s.re.budget := rfl

@[simp] theorem State.moveTally_re_cells (s : State) (l : Nat) (up : Bool) : (s.moveTally l up).re.cells = s.re.cells := rfl
@[simp] theorem State.moveTally_re_dies (s : State) (l : Nat) (up : Bool) : (s.moveTally l up).re.dies = s.re.dies := rfl
@[simp] theorem State.moveTally_re_channels (s : State) (l : Nat) (up : Bool) : (s.moveTally l up).re.channels = s.re.channels := rfl
@[simp] theorem State.moveTally_re_suspects (s : State) (l : Nat) (up : Bool) : (s.moveTally l up).re.suspects = s.re.suspects := rfl
@[simp] theorem State.moveTally_re_provings (s : State) (l : Nat) (up : Bool) : (s.moveTally l up).re.provings = s.re.provings := rfl
@[simp] theorem State.moveTally_re_budget (s : State) (l : Nat) (up : Bool) : (s.moveTally l up).re.budget = s.re.budget := rfl

@[simp] theorem State.countTallies_re_cells (s : State) (n : Nat) (a b : CellState) : (s.countTallies n a b).re.cells = s.re.cells := by
  unfold State.countTallies; split <;> rfl
@[simp] theorem State.countTallies_re_dies (s : State) (n : Nat) (a b : CellState) : (s.countTallies n a b).re.dies = s.re.dies := by
  unfold State.countTallies; split <;> rfl
@[simp] theorem State.countTallies_re_channels (s : State) (n : Nat) (a b : CellState) : (s.countTallies n a b).re.channels = s.re.channels := by
  unfold State.countTallies; split <;> rfl
@[simp] theorem State.countTallies_re_suspects (s : State) (n : Nat) (a b : CellState) : (s.countTallies n a b).re.suspects = s.re.suspects := by
  unfold State.countTallies; split <;> rfl
@[simp] theorem State.countTallies_re_provings (s : State) (n : Nat) (a b : CellState) : (s.countTallies n a b).re.provings = s.re.provings := by
  unfold State.countTallies; split <;> rfl
@[simp] theorem State.countTallies_re_budget (s : State) (n : Nat) (a b : CellState) : (s.countTallies n a b).re.budget = s.re.budget := by
  unfold State.countTallies; split <;> rfl

@[simp] theorem State.writeCell_re_channels (s : State) (n : Nat) (c : CellState) (d : DieState) : (s.writeCell n c d).re.channels = s.re.channels := rfl
@[simp] theorem State.writeCell_re_lines (s : State) (n : Nat) (c : CellState) (d : DieState) : (s.writeCell n c d).re.lines = s.re.lines := rfl
@[simp] theorem State.writeCell_re_suspects (s : State) (n : Nat) (c : CellState) (d : DieState) : (s.writeCell n c d).re.suspects = s.re.suspects := rfl
@[simp] theorem State.writeCell_re_provings (s : State) (n : Nat) (c : CellState) (d : DieState) : (s.writeCell n c d).re.provings = s.re.provings := rfl
@[simp] theorem State.writeCell_re_budget (s : State) (n : Nat) (c : CellState) (d : DieState) : (s.writeCell n c d).re.budget = s.re.budget := rfl

@[simp] theorem State.setCell_re_channels (s : State) (n : Nat) (c : CellState) (d : DieState) : (s.setCell n c d).re.channels = s.re.channels := by
  simp [State.setCell]
@[simp] theorem State.setCell_re_suspects (s : State) (n : Nat) (c : CellState) (d : DieState) : (s.setCell n c d).re.suspects = s.re.suspects := by
  simp [State.setCell]
@[simp] theorem State.setCell_re_provings (s : State) (n : Nat) (c : CellState) (d : DieState) : (s.setCell n c d).re.provings = s.re.provings := by
  simp [State.setCell]
@[simp] theorem State.setCell_re_budget (s : State) (n : Nat) (c : CellState) (d : DieState) : (s.setCell n c d).re.budget = s.re.budget := by
  simp [State.setCell]

@[simp] theorem State.setChannel_re_cells (s : State) (k : Nat) (v : Channel) : (s.setChannel k v).re.cells = s.re.cells := by
  simp [State.setChannel]
@[simp] theorem State.setChannel_re_dies (s : State) (k : Nat) (v : Channel) : (s.setChannel k v).re.dies = s.re.dies := by
  simp [State.setChannel]
@[simp] theorem State.setChannel_re_lines (s : State) (k : Nat) (v : Channel) : (s.setChannel k v).re.lines = s.re.lines := by
  simp [State.setChannel]
@[simp] theorem State.setChannel_re_suspects (s : State) (k : Nat) (v : Channel) : (s.setChannel k v).re.suspects = s.re.suspects := by
  simp [State.setChannel]
@[simp] theorem State.setChannel_re_provings (s : State) (k : Nat) (v : Channel) : (s.setChannel k v).re.provings = s.re.provings := by
  simp [State.setChannel]
@[simp] theorem State.setChannel_re_budget (s : State) (k : Nat) (v : Channel) : (s.setChannel k v).re.budget = s.re.budget := by
  simp [State.setChannel]

@[simp] theorem State.dropProving_re_cells (s : State) (k : Nat) : (s.dropProving k).re.cells = s.re.cells := rfl
@[simp] theorem State.dropProving_re_dies (s : State) (k : Nat) : (s.dropProving k).re.dies = s.re.dies := rfl
@[simp] theorem State.dropProving_re_channels (s : State) (k : Nat) : (s.dropProving k).re.channels = s.re.channels := rfl
@[simp] theorem State.dropProving_re_lines (s : State) (k : Nat) : (s.dropProving k).re.lines = s.re.lines := rfl
@[simp] theorem State.dropProving_re_suspects (s : State) (k : Nat) : (s.dropProving k).re.suspects = s.re.suspects := rfl
@[simp] theorem State.dropProving_re_budget (s : State) (k : Nat) : (s.dropProving k).re.budget = s.re.budget := rfl

@[simp] theorem State.dropEntry_re_cells (s : State) (u : UnitId) : (s.dropEntry u).re.cells = s.re.cells := rfl
@[simp] theorem State.dropEntry_re_dies (s : State) (u : UnitId) : (s.dropEntry u).re.dies = s.re.dies := rfl
@[simp] theorem State.dropEntry_re_channels (s : State) (u : UnitId) : (s.dropEntry u).re.channels = s.re.channels := rfl
@[simp] theorem State.dropEntry_re_lines (s : State) (u : UnitId) : (s.dropEntry u).re.lines = s.re.lines := rfl
@[simp] theorem State.dropEntry_re_provings (s : State) (u : UnitId) : (s.dropEntry u).re.provings = s.re.provings := rfl
@[simp] theorem State.dropEntry_re_budget (s : State) (u : UnitId) : (s.dropEntry u).re.budget = s.re.budget := rfl

@[simp] theorem State.freeChannel_re_cells (s : State) (k : Nat) : (s.freeChannel k).re.cells = s.re.cells := by
  simp [State.freeChannel]
@[simp] theorem State.freeChannel_re_dies (s : State) (k : Nat) : (s.freeChannel k).re.dies = s.re.dies := by
  simp [State.freeChannel]
@[simp] theorem State.freeChannel_re_lines (s : State) (k : Nat) : (s.freeChannel k).re.lines = s.re.lines := by
  simp [State.freeChannel]
@[simp] theorem State.freeChannel_re_suspects (s : State) (k : Nat) : (s.freeChannel k).re.suspects = s.re.suspects := by
  simp [State.freeChannel]
@[simp] theorem State.freeChannel_re_budget (s : State) (k : Nat) : (s.freeChannel k).re.budget = s.re.budget := by
  simp [State.freeChannel]

@[simp] theorem State.freeNamed_re_cells (s : State) (c : CellState) : (s.freeNamed c).re.cells = s.re.cells := by
  unfold State.freeNamed; split <;> simp
@[simp] theorem State.freeNamed_re_dies (s : State) (c : CellState) : (s.freeNamed c).re.dies = s.re.dies := by
  unfold State.freeNamed; split <;> simp
@[simp] theorem State.freeNamed_re_lines (s : State) (c : CellState) : (s.freeNamed c).re.lines = s.re.lines := by
  unfold State.freeNamed; split <;> simp
@[simp] theorem State.freeNamed_re_suspects (s : State) (c : CellState) : (s.freeNamed c).re.suspects = s.re.suspects := by
  unfold State.freeNamed; split <;> simp
@[simp] theorem State.freeNamed_re_budget (s : State) (c : CellState) : (s.freeNamed c).re.budget = s.re.budget := by
  unfold State.freeNamed; split <;> simp

@[simp] theorem State.withdraw_re_budget (s : State) (n : Nat) (c : CellState) : (s.withdraw n c).re.budget = s.re.budget := by
  simp [State.withdraw]

/-- A cell's entry reads as it was written; every other cell as before. -/
theorem State.setCell_cell (s : State) (n : Nat) (c : CellState) (d : DieState) (m : Nat) :
    (s.setCell n c d).re.cell m = if n = m then c else s.re.cell m := by
  simp only [State.setCell, RepairEngine.cell]
  have h : ∀ t : State, ∀ a b, (t.countTallies n a b).re.cells = t.re.cells := fun t a b => by simp
  rw [h]
  simp only [State.postChange_re, State.imageChanged_re]
  exact Table.read_write _ _ _ _ _

/-- A die's entry reads as it was written; every other die as before. -/
theorem State.setCell_die (s : State) (n : Nat) (c : CellState) (d : DieState) (m : Nat) :
    (s.setCell n c d).re.die m = if n = m then d else s.re.die m := by
  simp only [State.setCell, RepairEngine.die]
  have h : ∀ t : State, ∀ a b, (t.countTallies n a b).re.dies = t.re.dies := fun t a b => by simp
  rw [h]
  simp only [State.postChange_re, State.imageChanged_re]
  exact Table.read_write _ _ _ _ _

/-- A line's entry reads as it was written; every other line as before. -/
theorem State.setLine_line (s : State) (l : Nat) (v : Line) (m : Nat) :
    (s.setLine l v).re.line m = if l = m then v else s.re.line m := Table.read_write _ _ _ _ _

/-- A channel's entry reads as it was written; every other channel as before. -/
theorem State.setChannel_channel (s : State) (k : Nat) (v : Channel) (j : Nat) :
    (s.setChannel k v).re.channel j = if k = j then v else s.re.channel j := by
  simp only [State.setChannel, RepairEngine.channel, State.imageChanged_re]
  exact Table.read_write _ _ _ _ _

/-- A channel that is freed keeps its strike. -/
theorem State.freeChannel_channel (s : State) (k j : Nat) :
    (s.freeChannel k).re.channel j = if k = j then ⟨.free, (s.re.channel k).strike⟩ else s.re.channel j := by
  rw [State.freeChannel, State.setChannel_channel]
  have h : ∀ i, (((s.disconnect k).dropProving k).re.channel i) = s.re.channel i := fun i => by
    unfold RepairEngine.channel
    simp
  rw [h]

/-- The pending route of a cell after a post is the one posted (R32). -/
theorem State.post_pendingRoute (s : State) (n : Nat) (r : Route) (m : Nat) :
    (s.post n r).pp.pendingRoute m = if n = m then some r else s.pp.pendingRoute m :=
  Table.read_write (fun _ => none) s.pp.pendingRoutes n m (some r)

/-- A notice kind's record reads as it was written; every other kind as before. -/
theorem State.setNotice_notice (s : State) (k : Nat) (n : Notice) (j : Nat) :
    (s.setNotice k n).notice j = if k = j then n else s.notice j := Table.read_write _ _ _ _ _

/-- One occurrence (R171): the kind's count rises by 1 up to 255 and its detail is the occurrence's. -/
theorem State.notify_notice (s : State) (d : Detail) (j : Nat) :
    (s.notify d).notice j =
      if d.kind.number = j then ⟨min ((s.notice d.kind.number).count + 1) 255, some d⟩ else s.notice j :=
  State.setNotice_notice _ _ _ _

end Sys2Proof.Machine
end

