-- ==== Sys2Proof/Laws/Kept.lean ====
section
/-! SUPPORT. What the Repair Engine's operations can do, said once: a property of the state that survives one change of the
Sense Unit, the Pixel Path, the Repair Engine and the owed list, and one notice, survives every operation that the Repair
Engine makes of them. With `P` a frame it says what an operation leaves alone, with `P` an invariant that it keeps it. -/

namespace Sys2Proof.Machine

/-! ## The changes of a block that the operations make -/

/-- A change of the Sense Unit that keeps its tables canonical. -/
def SuStep (a b : SenseUnit) : Prop := a.canonical → b.canonical

/-- A change of the Pixel Path that keeps its tables canonical. -/
def PpStep (a b : PixelPath) : Prop := a.canonical → b.canonical

/-- A change of the Repair Engine that keeps its tables canonical, lengthens no suspect list, and takes the provings to at
most 8 if it adds one. -/
def ReStep (a b : RepairEngine) : Prop :=
  (a.canonical → b.canonical) ∧ b.suspects.length ≤ a.suspects.length ∧
  b.provings.length ≤ max a.provings.length Config.provingSlots

/-- A change of the journal that only moves the owed list, keeping it free of doubles and losing no subject, the live image
count and the unrecorded flag. -/
def RjStep (a b : Journal) : Prop :=
  (a.owed.Nodup → b.owed.Nodup) ∧ (∀ n ∈ a.owed, n ∈ b.owed) ∧ b = { a with owed := b.owed, liveImages := b.liveImages, unrecorded := b.unrecorded }

/-- A property that survives each of these changes. -/
structure Kept (P : State → Prop) : Prop where
  inFlight : ∀ s v, P s → P (s.withSu { s.su with inFlight := v })
  post : ∀ s n r, P s → P (s.post n r)
  re : ∀ s v, ReStep s.re v → P s → P (s.withRe v)
  rj : ∀ s v, RjStep s.rj v → P s → P (s.withRj v)
  notify : ∀ s d, P s → P (s.notify d)
  enlist : ∀ s e, s.re.suspects.length < Config.suspects → P s → P (s.setSuspects (s.re.suspects ++ [e]))
  full : (∀ s, P s → s.re.suspects.length ≤ Config.suspects) ∨ ∀ s e, P s → P (s.setSuspects (s.re.suspects ++ [e]))

/-- A property that survives each of these changes and every change of the Sense Unit. -/
structure KeptSu (P : State → Prop) : Prop extends Kept P where
  su : ∀ s v, SuStep s.su v → P s → P (s.withSu v)

/-- A change of the Sense Unit that leaves the baselines, and whose survey has canonical cursors. -/
theorem SuStep.of_survey {a b : SenseUnit} (h : b.baselines = a.baselines)
    (hs : a.canonical → ∀ v, b.survey = some v → Table.wf (fun _ => (⟨0, false⟩ : Cursor)) v.cursors) : SuStep a b :=
  fun ha => ⟨h ▸ ha.1, hs ha⟩

/-- A change of the Sense Unit that leaves the baselines and the survey. -/
theorem SuStep.same {a b : SenseUnit} (h : b.baselines = a.baselines) (hs : b.survey = a.survey) : SuStep a b :=
  SuStep.of_survey h fun ha v hv => ha.2 v (hs ▸ hv)

/-- A change of the Sense Unit that leaves the baselines and ends with no survey. -/
theorem SuStep.noSurvey {a b : SenseUnit} (h : b.baselines = a.baselines) (hs : b.survey = none) : SuStep a b :=
  SuStep.of_survey h fun _ v hv => by rw [hs] at hv; cases hv

theorem ReStep.of_tables {a b : RepairEngine} (h1 : b.cells = a.cells) (h2 : b.dies = a.dies)
    (h3 : b.channels = a.channels) (h4 : b.lines = a.lines) (h5 : b.suspects.length ≤ a.suspects.length)
    (h6 : b.provings.length ≤ max a.provings.length Config.provingSlots) : ReStep a b := by
  refine ⟨fun ha => ?_, h5, h6⟩
  unfold RepairEngine.canonical
  rw [h1, h2, h3, h4]
  exact ha

theorem oweList_nodup {l : List Nat} {n : Nat} (h : l.Nodup) : (oweList l n).Nodup := by
  unfold oweList
  split
  · exact h
  · rename_i hn
    exact List.nodup_append.2 ⟨h, by simp, fun a ha b hb => by
      simp only [List.mem_singleton] at hb
      exact fun hab => hn (hb ▸ hab ▸ ha)⟩

theorem oweList_mem {l : List Nat} {n m : Nat} (h : m ∈ l) : m ∈ oweList l n := by
  unfold oweList
  split
  · exact h
  · exact List.mem_append_left _ h

theorem oweList_self (l : List Nat) (n : Nat) : n ∈ oweList l n := by
  unfold oweList
  split
  · assumption
  · exact List.mem_append_right _ (List.mem_singleton.2 rfl)

/-- A unit's own state has nothing to do with the suspect list. -/
theorem State.setUnit_suspects (s : State) (u : UnitId) (c : CellState) (d : DieState) :
    (s.setUnit u c d).re.suspects = s.re.suspects := by
  unfold State.setUnit
  split <;> simp

namespace Kept

variable {P : State → Prop} (K : Kept P) {s : State}
include K

/-! ## Shared operations (Ops.lean) -/

theorem owe (n : Nat) (h : P s) : P (s.owe n) := K.rj _ _ ⟨oweList_nodup, fun _ => oweList_mem, rfl⟩ h

theorem imageChanged (n : Nat) (a b : Image) (h : P s) : P (s.imageChanged n a b) := by
  unfold State.imageChanged
  split
  · exact h
  · exact K.owe n (K.rj _ _ ⟨id, fun _ h => h, rfl⟩ h)

theorem postChange (n : Nat) (a b : Route) (h : P s) : P (s.postChange n a b) := by
  unfold State.postChange
  split
  · exact h
  · exact K.post _ n b h

theorem setLine (l : Nat) (v : Line) (h : P s) : P (s.setLine l v) :=
  K.re _ _ ⟨fun c => ⟨c.1, c.2.1, c.2.2.1, Table.wf_write _ _ c.2.2.2⟩, le_refl _, le_max_left _ _⟩ h

theorem moveTally (l : Nat) (up : Bool) (h : P s) : P (s.moveTally l up) := K.setLine _ _ h

theorem countTallies (n : Nat) (a b : CellState) (h : P s) : P (s.countTallies n a b) := by
  unfold State.countTallies
  split
  · exact h
  · exact K.moveTally _ _ (K.moveTally _ _ h)

theorem writeCell (n : Nat) (c : CellState) (d : DieState) (h : P s) : P (s.writeCell n c d) :=
  K.re _ _ ⟨fun w => ⟨Table.wf_write _ _ w.1, Table.wf_write _ _ w.2.1, w.2.2⟩, le_refl _, le_max_left _ _⟩ h

theorem setCell (n : Nat) (c : CellState) (d : DieState) (h : P s) : P (s.setCell n c d) :=
  K.countTallies _ _ _ (K.postChange _ _ _ (K.imageChanged _ _ _ (K.imageChanged _ _ _ (K.writeCell _ _ _ h))))

theorem setChannel (k : Nat) (v : Channel) (h : P s) : P (s.setChannel k v) :=
  K.imageChanged _ _ _ (K.re _ _ ⟨fun w => ⟨w.1, w.2.1, Table.wf_write _ _ w.2.2.1, w.2.2.2⟩, le_refl _,
    le_max_left _ _⟩ h)

theorem disconnect (k : Nat) (h : P s) : P (s.disconnect k) := by
  unfold State.disconnect
  repeat' split
  all_goals first
    | exact h
    | exact K.inFlight _ _ h

theorem dropProving (k : Nat) (h : P s) : P (s.dropProving k) :=
  K.re _ _ (ReStep.of_tables rfl rfl rfl rfl (le_refl _) (le_max_of_le_left (List.length_filter_le _ _))) h

theorem freeChannel (k : Nat) (h : P s) : P (s.freeChannel k) :=
  K.setChannel _ _ (K.dropProving _ (K.disconnect _ h))

theorem freeNamed (c : CellState) (h : P s) : P (s.freeNamed c) := by
  unfold State.freeNamed
  split
  · exact K.freeChannel _ h
  · exact h

theorem dropEntry (u : UnitId) (h : P s) : P (s.dropEntry u) :=
  K.re _ _ (ReStep.of_tables rfl rfl rfl rfl (List.length_filter_le _ _) (le_max_left _ _)) h

theorem withdraw (n : Nat) (c : CellState) (h : P s) : P (s.withdraw n c) :=
  K.setCell _ _ _ (K.freeNamed _ (K.dropEntry _ (K.dropEntry _ h)))

/-! ## Lines, entries and units (Repair.lean) -/

theorem hold (l : Nat) (h : P s) : P (s.hold l) :=
  K.notify _ _ (K.imageChanged _ _ _ (K.setLine _ _ (foldl_keeps _ (fun _ _ ht => K.withdraw _ _ ht) _ h)))

theorem judgeLimits (n : Nat) (h : P s) : P (s.judgeLimits n) := by
  unfold State.judgeLimits
  have h1 : P (if s.atLimit (cLineOf n) then s.hold (cLineOf n) else s) := by
    split
    · exact K.hold _ h
    · exact h
  dsimp only
  split
  · exact K.hold _ h1
  · exact h1

theorem changeEntry (u : UnitId) (f : Entry → Entry) (h : P s) : P (s.changeEntry u f) :=
  K.re _ _ (ReStep.of_tables rfl rfl rfl rfl (le_of_eq (List.length_map _)) (le_max_left _ _)) h

theorem setUnit (u : UnitId) (c : CellState) (d : DieState) (h : P s) : P (s.setUnit u c d) := by
  unfold State.setUnit
  split <;> exact K.setCell _ _ _ h

theorem returnUnit (u : UnitId) (h : P s) : P (s.returnUnit u) := K.setUnit _ _ _ h

theorem condemn (u : UnitId) (k : FaultKind) (h : P s) : P (s.condemn u k) := by
  have h1 := K.notify _ (Detail.faultConfirmed u k) (K.setUnit u .condemned .condemned h)
  unfold State.condemn
  dsimp only
  split
  · exact K.judgeLimits _ h1
  · exact h1

theorem askAdmission (u : UnitId) (k : FaultKind) (h : P s) : P (s.askAdmission u k) := by
  unfold State.askAdmission
  split
  · rename_i hlt
    exact K.setUnit _ _ _ (K.enlist _ _ hlt h)
  · rename_i hge
    split
    · exact K.notify _ _ h
    · exact K.notify _ _ h
    · rename_i e _ he
      refine K.notify _ _ (K.setUnit _ _ _ ?_)
      have h2 : P ((s.dropEntry e.unit).returnUnit e.unit) := K.returnUnit _ (K.dropEntry _ h)
      rcases K.full with hf | hf
      · refine K.enlist _ _ ?_ h2
        have hle := hf s h
        have hmem : e ∈ s.re.suspects := List.mem_reverse.1 (List.mem_of_find?_eq_some he)
        have hlt : (s.re.suspects.filter fun x => decide (x.unit ≠ e.unit)).length < s.re.suspects.length :=
          List.length_filter_lt_length_iff_exists.2 ⟨e, hmem, by simp⟩
        have heq : ((s.dropEntry e.unit).returnUnit e.unit).re.suspects =
            s.re.suspects.filter fun x => decide (x.unit ≠ e.unit) := by
          rw [State.returnUnit, State.setUnit_suspects]
          rfl
        rw [heq]
        exact lt_of_lt_of_le hlt hle
      · exact hf _ _ h2

/-! ## Decisions (Repair.lean) -/

theorem strike (k : Nat) (h : P s) : P (s.strike k) := by
  have h1 := K.dropProving k (K.disconnect k h)
  unfold State.strike
  dsimp only
  split
  · exact K.setChannel _ _ h1
  · exact K.notify _ _ (K.setChannel _ _ h1)

theorem strikeNamed (c : CellState) (h : P s) : P (s.strikeNamed c) := by
  unfold State.strikeNamed
  split
  · exact K.strike _ h
  · exact h

theorem spendBudget (h : P s) : P s.spendBudget := by
  have h1 : P (s.withRe { s.re with budget := s.re.budget - 1 }) :=
    K.re _ _ (ReStep.of_tables rfl rfl rfl rfl (le_refl _) (le_max_left _ _)) h
  unfold State.spendBudget
  dsimp only
  split
  · exact K.notify _ _ h1
  · exact h1

theorem startProving (n k : Nat) (hlt : s.re.provings.length < Config.provingSlots) (h : P s) :
    P (s.startProving n k) := by
  refine K.setCell _ _ _ (K.re _ _ (ReStep.of_tables rfl rfl rfl rfl (le_refl _) ?_) (K.setChannel k _ h))
  have heq := State.setChannel_re_provings s k ⟨.proving n, (s.re.channel k).strike⟩
  refine le_max_of_le_right ?_
  simp only [List.length_append, List.length_cons, List.length_nil]
  rw [heq]
  omega

theorem decidePrimary (n : Nat) (k : FaultKind)
    (hlt : s.refers k = false → s.re.die n ≠ .dead → s.re.budget ≠ 0 → (s.re.choose (groupOf n)).isSome = true →
      s.re.provings.length < Config.provingSlots) (h : P s) : P (s.decidePrimary n k) := by
  unfold State.decidePrimary
  split
  · exact K.notify _ _ (K.setCell _ _ _ h)
  · split
    · exact K.notify _ _ (K.setCell _ _ _ h)
    · split
      · exact K.notify _ _ (K.setCell _ _ _ h)
      · split
        · exact K.notify _ _ (K.setCell _ _ _ h)
        · rename_i h1 h2 h3 _ c hc
          exact K.spendBudget (K.startProving _ _ (hlt (by simpa using h1) h2 h3 (by simp [hc])) h)

theorem decideDie (n : Nat) (h : P s) : P (s.decideDie n) :=
  K.notify _ _ (K.strikeNamed _ (K.setCell _ _ _ h))

theorem decideEntry (e : Entry) (hs : (s.needsSlot e && decide (Config.provingSlots ≤ s.re.provings.length)) = false)
    (h : P s) : P (s.decideEntry e) := by
  have h1 := K.dropEntry e.unit h
  unfold State.decideEntry
  dsimp only
  split
  · rename_i hside
    refine K.decidePrimary _ _ (fun a b c d => ?_) h1
    by_contra hcon
    have hge : Config.provingSlots ≤ s.re.provings.length := not_lt.1 hcon
    have hn : s.needsSlot e = true := by
      have a' : s.refers e.kind = false := a
      have b' : s.re.die e.unit.cell ≠ .dead := b
      have c' : s.re.budget ≠ 0 := c
      have d' : (s.re.choose (groupOf e.unit.cell)).isSome = true := d
      unfold State.needsSlot
      rw [hside]
      simp [a', b', c', d']
    rw [hn] at hs
    simp [hge] at hs
  · exact K.decideDie _ h1

theorem takeCondemned (fuel : Nat) (h : P s) : P (s.takeCondemned fuel) := by
  induction fuel generalizing s with
  | zero => exact h
  | succ fuel ih =>
    unfold State.takeCondemned
    split
    · exact h
    · split
      · exact h
      · rename_i e _ hb
        exact ih (K.decideEntry e (by simpa using hb) h)

theorem reconsider (h : P s) : P s.reconsider := K.takeCondemned _ h

/-! ## Proving, recording, binding (Repair.lean) -/

theorem bind (n k : Nat) (h : P s) : P (s.bind n k) :=
  K.notify _ _ (K.setCell _ _ _ (K.setChannel _ _ (K.dropProving _ h)))

theorem setUnrecorded (b : Bool) (h : P s) : P (s.withRj { s.rj with unrecorded := b }) := K.rj _ _ ⟨id, fun _ h => h, rfl⟩ h

theorem bindUnrecorded (n k : Nat) (h : P s) : P (s.bindUnrecorded n k) := K.setUnrecorded _ (K.bind n k h)

theorem bindRecordings (h : P s) : P s.bindRecordings := foldl_keeps _ (fun _ _ ht => K.bindUnrecorded _ _ ht) _ h

theorem changeProving (k : Nat) (f : Proving → Proving) (h : P s) : P (s.changeProving k f) :=
  K.re _ _ (ReStep.of_tables rfl rfl rfl rfl (le_refl _) (le_max_of_le_left (le_of_eq (List.length_map _)))) h

theorem passProving (n k : Nat) (h : P s) : P (s.passProving n k) := by
  have h1 := K.setCell n (.pendingSpare .recording k) .good
    (K.changeProving k (fun p => { p with phase := .recording }) (K.setChannel k ⟨.recording n, 0⟩ h))
  unfold State.passProving
  dsimp only
  split
  · exact K.bindUnrecorded _ _ h1
  · exact h1

theorem failProving (n k : Nat) (h : P s) : P (s.failProving n k) := K.notify _ _ (K.strike _ (K.setCell _ _ _ h))

theorem report (w : RecordWrite) (h : P s) : P (s.report w) := by
  unfold State.report
  split
  · split
    · exact K.bind _ _ h
    · exact h
  · exact h

/-! ## Verdicts (Repair.lean) -/

theorem retest (e : Entry) (c : VerdictClass) (h : P s) : P (s.retest e c) := by
  unfold State.retest
  dsimp only
  split
  · split
    · exact K.returnUnit _ (K.dropEntry _ h)
    · exact K.changeEntry _ _ h
  · split
    · exact K.condemn _ _ (K.changeEntry _ _ h)
    · exact K.changeEntry _ _ h

theorem provingVerdict (n k : Nat) (c : VerdictClass) (h : P s) : P (s.provingVerdict n k c) := by
  unfold State.provingVerdict
  split
  · split
    · exact K.changeProving _ _ h
    · exact K.passProving _ _ h
  · exact h
  · exact K.failProving _ _ h

theorem handVerdict (v : Verdict) (h : P s) : P (s.handVerdict v) := by
  have hask : ∀ k, P (if s.re.qualifies v.unit then (s.askAdmission v.unit k).reconsider else s) := by
    intro k
    split
    · exact K.reconsider (K.askAdmission _ _ h)
    · exact h
  unfold State.handVerdict
  split
  · split
    · exact h
    · exact hask _
  · split
    · exact h
    · exact hask _
  · split
    · split
      · exact h
      · exact K.reconsider (K.retest _ _ h)
    · exact h
  · split
    · split
      · exact K.reconsider (K.provingVerdict _ _ _ h)
      · exact h
    · exact h

/-! ## Settings and frame starts (Repair.lean) -/

theorem setSuspects_le (l : List Entry) (hl : l.length ≤ s.re.suspects.length) (h : P s) : P (s.setSuspects l) :=
  K.re _ _ (ReStep.of_tables rfl rfl rfl rfl hl (le_max_left _ _)) h

theorem newThreshold (old new : Nat) (h : P s) : P (s.newThreshold old new) := by
  unfold State.newThreshold
  split
  · refine foldl_keeps _ (fun t e ht => ?_) _ (K.setSuspects_le _ (le_of_eq (List.length_map _)) h)
    split
    · exact K.condemn _ _ ht
    · exact ht
  · exact K.setSuspects_le _ (le_of_eq (List.length_map _)) h

theorem newLimit (lines : List Nat) (h : P s) : P (s.newLimit lines) := foldl_keeps _ (fun _ _ ht => K.hold _ ht) _ h

theorem lowerDues (h : P s) : P s.lowerDues := K.setSuspects_le _ (le_of_eq (List.length_map _)) h

theorem timeOut (p : Proving) (h : P s) : P (s.timeOut p) := K.notify _ _ (K.withdraw _ _ h)

theorem raiseAges (h : P s) : P s.raiseAges :=
  foldl_keeps _ (fun _ _ ht => K.timeOut _ ht) _
    (K.re _ _ (ReStep.of_tables rfl rfl rfl rfl (le_refl _) (le_max_of_le_left (le_of_eq (List.length_map _)))) h)

theorem repairFrame (h : P s) : P s.repairFrame := K.reconsider (K.raiseAges (K.lowerDues h))

end Kept

/-- A clear claim (R47). -/
theorem KeptSu.clearClaim {P : State → Prop} (K : KeptSu P) {s : State} (us : List UnitId) (h : P s) : P (s.clearClaim us) := by
  exact K.su _ _ (fun canonical => ⟨foldl_keeps _ (fun _ _ before => Table.wf_drop _ before) us canonical.1, canonical.2⟩) h

end Sys2Proof.Machine
end

