-- ==== Sys2Proof/Laws/KeptAll.lean ====
section
/-! SUPPORT. What every operation of the part can do, said once over a property that survives each change of a block
(Laws/Kept.lean has the Repair Engine's part): the Sense Unit, the journal's writer, frame starts, the chain, requests,
start-up and power. -/

namespace Sys2Proof.Machine

/-- A property that survives each change of each block. -/
structure KeptAll (P : State → Prop) : Prop extends KeptSu P where
  pp : ∀ s v, PpStep s.pp v → P s → P (s.withPp v)
  journal : ∀ s v, (s.rj.owed.Nodup → v.owed.Nodup) → P s → P (s.withRj v)
  clk : ∀ s v, P s → P (s.withClk v)
  cm : ∀ s v, P s → P (s.withCm v)
  ci : ∀ s v, (s.ci.bounded → v.bounded) → P s → P (s.withCi v)
  nu : ∀ (s : State) v, (noticesCanonical s.nu → noticesCanonical v) → (noticesBounded s.nu → noticesBounded v) → P s →
    P { s with nu := v }
  settings : ∀ (s : State) l v, (settingsCanonical s.live → settingsCanonical l) →
    (settingsCanonical s.stored → settingsCanonical v) → P s → P { s with live := l, stored := v }
  tables : ∀ s v, v.canonical → v.suspects = [] → v.provings = [] → P s → P (s.withRe v)
  reset : ∀ s phase bank0 bank1, P s → P (s.resetBlocks phase bank0 bank1)

/-- What a direction's own update keeps is what the interface's keeps. -/
theorem ChainInterface.bounded_forward {c : ChainInterface} {d : DirectionState}
    (h : c.forward.bounded → d.bounded) (hc : c.bounded) : ({ c with forward := d } : ChainInterface).bounded :=
  ⟨h hc.1, hc.2⟩

theorem ChainInterface.bounded_reverse {c : ChainInterface} {d : DirectionState}
    (h : c.reverse.bounded → d.bounded) (hc : c.bounded) : ({ c with reverse := d } : ChainInterface).bounded :=
  ⟨hc.1, h hc.2⟩

/-! ## The blocks' own functions -/

/-- A changed row cursor keeps the cursor table canonical. -/
theorem Survey.setCursor_wf (v : Survey) (row : Nat) (c : Cursor)
    (h : Table.wf (fun _ => (⟨0, false⟩ : Cursor)) v.cursors) :
    Table.wf (fun _ => (⟨0, false⟩ : Cursor)) (v.setCursor row c).cursors := Table.wf_write row c h

theorem SenseUnit.countVerdict_baselines (u : SenseUnit) (c : VerdictClass) (n : Nat) :
    (u.countVerdict c n).baselines = u.baselines := by
  unfold SenseUnit.countVerdict
  split <;> rfl

theorem SenseUnit.countVerdict_survey (u : SenseUnit) (c : VerdictClass) (n : Nat) :
    (u.countVerdict c n).survey = u.survey := by
  unfold SenseUnit.countVerdict
  split <;> rfl

theorem SenseUnit.learn_step (a u : SenseUnit) (hu : u.baselines = a.baselines) (hs : u.survey = a.survey) (x : UnitId)
    (c : VerdictClass) (n : Nat) (d : Bool) : SuStep a (u.learn x c n d) := by
  intro ha
  have hu' : u.canonical := SuStep.same hu hs ha
  unfold SenseUnit.learn
  repeat' split
  · exact hu'
  · exact ⟨Table.wf_write (d := fun _ => Baseline.none) _ _ hu'.1, hu'.2⟩
  · exact hu'

theorem Journal.setBank_owed (j : Journal) (i : BankId) (b : Bank) : (j.setBank i b).owed = j.owed := by
  cases i <;> rfl

theorem Journal.useSlot_owed (j : Journal) (x : Slot) : (j.useSlot x).owed = j.owed := by
  unfold Journal.useSlot
  split
  · exact Journal.setBank_owed _ _ _
  · rfl

theorem Journal.beginErase_owed (j : Journal) : j.beginErase.owed = j.owed := Journal.setBank_owed j _ _

theorem PixelPath.applyPending_wf (p : PixelPath) (hc : p.canonical) : Table.wf (fun _ => Route.blank) p.applyPending := by
  refine foldl_keeps _ (fun routes entry before => ?_) _ hc.1
  cases entry.2 with
  | some route => exact Table.wf_write _ _ before
  | none => exact before

theorem writePixel_wf (t : Table Half) (row column : Nat) (p : Pixel) (h : Table.wf (fun _ => (0 : Half)) t) :
    Table.wf (fun _ => (0 : Half)) (writePixel t row column p) :=
  Table.wf_write _ _ (Table.wf_write _ _ (Table.wf_write _ _ h))

theorem PixelPath.takePixel_step (p : PixelPath) (row x : Nat) (q : Pixel) : PpStep p (p.takePixel row x q) := by
  intro c
  unfold PixelPath.takePixel
  repeat' split
  · exact c
  · exact ⟨c.1, c.2.1, writePixel_wf _ _ _ _ c.2.2.1, c.2.2.2.1, Table.wf_write (siteAt row _) true c.2.2.2.2⟩
  · exact c

theorem PixelPath.takePixels_step (l : List Pixel) (p : PixelPath) (row x : Nat) : PpStep p (p.takePixels row x l) := by
  induction l generalizing p x with
  | nil => exact id
  | cons q l ih => exact fun c => ih _ _ (PixelPath.takePixel_step _ _ _ _ c)

theorem PixelPath.takeLine_step (p : PixelPath) (r : LineRecord) : PpStep p (p.takeLine r) := by
  unfold PixelPath.takeLine
  repeat' split
  · exact PixelPath.takePixels_step _ _ _ _
  · exact id
  · exact id

namespace KeptAll

variable {P : State → Prop} (K : KeptAll P) {s : State}
include K

/-! ## Ports and directions -/

theorem setDirection (p : Port) (d : DirectionState) (hd : (s.ci.direction p).bounded → d.bounded) (h : P s) :
    P (s.setDirection p d) := by
  cases p
  · exact K.ci _ _ (ChainInterface.bounded_forward hd) h
  · exact K.ci _ _ (ChainInterface.bounded_reverse hd) h

theorem setPort (p : Port) (m : PortMonitor) (h : P s) : P (s.setPort p m) := by
  cases p <;> exact K.ci _ _ id h

theorem send (p : Port) (b : List Byte) (h : P s) : P (s.send p b) := K.setDirection _ _ id h

theorem tick (e : Nat) (h : P s) : P (s.tick e) := K.clk _ _ h

theorem reach (t : Nat) (h : P s) : P (s.reach t) := K.clk _ _ h

/-! ## The Sense Unit -/

/-- A survey whose cursors are canonical when those of the survey before are. -/
theorem setSurvey (v w : Survey) (hv : s.su.survey = some v)
    (hw : Table.wf (fun _ => (⟨0, false⟩ : Cursor)) v.cursors → Table.wf (fun _ => (⟨0, false⟩ : Cursor)) w.cursors)
    (h : P s) : P (s.setSurvey (some w)) :=
  K.su _ _ (SuStep.of_survey rfl fun ha x hx => by
    obtain rfl : w = x := Option.some.inj hx
    exact hw (ha.2 v hv)) h

theorem endSurvey (o : SurveyOutcome) (h : P s) : P (s.endSurvey o) := by
  unfold State.endSurvey
  split
  · exact h
  · exact K.notify _ _ (K.su _ _ (SuStep.noSurvey rfl rfl) h)

theorem wrapRow (row : Nat) (h : P s) : P (s.wrapRow row) := by
  unfold State.wrapRow
  split
  · exact h
  · rename_i v hv
    dsimp only
    split
    · split
      · exact K.endSurvey _ (K.setSurvey v _ hv (fun _ => Table.wf_nil _) h)
      · exact K.setSurvey v _ hv (fun _ => Table.wf_nil _) h
    · exact K.setSurvey v _ hv (Survey.setCursor_wf v _ _) h

theorem grant (g : Nat) (x : Grant) (a b : Bool) (h : P s) : P (s.grant g x a b) :=
  K.su _ _ (SuStep.same rfl rfl) h

theorem surveyGap (g row : Nat) (v : Survey) (hv : s.su.survey = some v) (h : P s) : P (s.surveyGap g row v) := by
  unfold State.surveyGap
  split
  · exact h
  · split
    · exact K.wrapRow _ h
    · split
      · exact h
      · exact K.grant _ _ _ _ (K.setSurvey v _ hv (Survey.setCursor_wf v _ _) h)

theorem sweepGap (g row : Nat) (h : P s) : P (s.sweepGap g row) := by
  unfold State.sweepGap
  repeat' split
  all_goals first
    | exact h
    | exact K.grant _ _ _ _ (K.su _ _ (SuStep.same rfl rfl) h)

theorem arbitrate (g row : Nat) (h : P s) : P (s.arbitrate g row) := by
  unfold State.arbitrate
  repeat' split
  all_goals first
    | exact K.grant _ _ _ _ h
    | exact K.surveyGap _ _ _ (by assumption) h
    | exact K.sweepGap _ _ h

theorem openGap (h : P s) : P s.openGap := by
  have h1 : P (s.withPp { s.pp with nextGap := s.pp.nextGap + 1, gap := some ⟨s.pp.nextGap, s.pp.frame⟩ }) :=
    K.pp _ _ id h
  unfold State.openGap
  dsimp only
  repeat' split
  all_goals first
    | exact h1
    | exact K.grant _ _ _ _ h1
    | exact K.arbitrate _ _ h1

theorem tallySurvey (m : Measurement) (c : VerdictClass) (h : P s) : P (s.tallySurvey m c) := by
  unfold State.tallySurvey
  split
  · rename_i v hv
    have h1 : ∀ bad : Nat, P (s.setSurvey (some { v with units := v.units + 1, bad := v.bad + bad })) :=
      fun _ => K.setSurvey v _ hv id h
    repeat' split
    all_goals first
      | exact h
      | exact K.wrapRow _ (h1 _)
      | exact h1 _
  · exact h

theorem endUnitGap (m : Measurement) (u : UnitId) (p : Purpose) (c : Option Nat) (raw : Nat) (h : P s) :
    P (s.endUnitGap m u p c raw) :=
  K.handVerdict _ (K.tallySurvey _ _ (K.su _ _ (SenseUnit.learn_step _ _ (SenseUnit.countVerdict_baselines _ _ _)
    (SenseUnit.countVerdict_survey _ _ _) _ _ _ _) h))

theorem referenceRuns (good : Bool) (h : P s) : P (s.referenceRuns good) := by
  unfold State.referenceRuns
  repeat' split
  all_goals first
    | exact K.su _ _ (SuStep.same rfl rfl) h
    | exact K.endSurvey _ (K.notify _ _ (K.su _ _ (SuStep.same rfl rfl) h))
    | exact K.notify _ _ (K.su _ _ (SuStep.same rfl rfl) h)

theorem endReferenceGap (raw : Nat) (h : P s) : P (s.endReferenceGap raw) :=
  K.referenceRuns _ (K.su _ _ (SuStep.same rfl rfl) h)

theorem endGap (ticks : Nat) (r : Bool) (h : P s) : P (s.endGap ticks r) := by
  have h1 : P ((s.withPp { s.pp with gap := none }).withSu { s.su with inFlight := none }) :=
    K.su _ _ (SuStep.same rfl rfl) (K.pp _ _ id h)
  unfold State.endGap
  dsimp only
  repeat' split
  · exact h1
  · exact K.endReferenceGap _ h1
  · exact K.endUnitGap _ _ _ _ _ h1

/-! ## The journal's writer -/

theorem journalSame (v : Journal) (hv : v.owed = s.rj.owed) (h : P s) : P (s.withRj v) :=
  K.journal _ _ (fun hn => hv ▸ hn) h

theorem noteUnable (h : P s) : P s.noteUnable := K.journalSame _ rfl h

theorem stopIfDue (h : P s) : P s.stopIfDue := by
  unfold State.stopIfDue
  split
  · exact K.journalSame _ rfl h
  · exact h

theorem endUnmarked (h : P s) : P s.endUnmarked :=
  foldl_keeps _ (fun _ _ ht => K.owe _ ht) _ (K.journalSame _ rfl h)

theorem enterFull (h : P s) : P s.enterFull :=
  K.noteUnable (K.bindRecordings (K.notify _ _ (K.journalSame _ rfl h)))

theorem enterFaulted (h : P s) : P s.enterFaulted :=
  K.noteUnable (K.bindRecordings (K.notify _ _ (K.journalSame _ rfl h)))

theorem abandonRecord (h : P s) : P s.abandonRecord := by
  unfold State.abandonRecord
  split
  · exact K.owe _ (K.journalSame _ (Journal.useSlot_owed _ _) h)
  · exact h

theorem endCompaction (h : P s) : P s.endCompaction := by
  unfold State.endCompaction
  split <;> first | exact K.endUnmarked h | exact h

theorem failOperation (h : P s) : P s.failOperation :=
  K.reconsider (K.enterFaulted (K.endCompaction (K.abandonRecord h)))

theorem holdCompaction (h : P s) : P s.holdCompaction := K.journalSame _ rfl (K.endUnmarked h)

theorem walkOver (a b : Nat) (h : P s) : P (s.walkOver a b) := K.journal _ _ (fun hn => hn.filter _) h

theorem overflow (h : P s) : P s.overflow :=
  K.enterFull (foldl_keeps _ (fun _ _ ht => K.owe _ ht) _ (K.endUnmarked h))

theorem walkFrom (a : Nat) (h : P s) : P (s.walkFrom a) := by
  unfold State.walkFrom
  split
  · dsimp only
    split
    · exact K.journalSame _ rfl (K.walkOver _ _ h)
    · exact K.overflow (K.walkOver _ _ h)
  · exact K.journalSame _ rfl (K.walkOver _ _ h)

theorem startCompaction (h : P s) : P s.startCompaction := by
  unfold State.startCompaction
  split
  · exact K.enterFull h
  · exact K.journalSame _ (Journal.beginErase_owed s.rj) h

theorem takeHead (h : P s) : P s.takeHead := by
  unfold State.takeHead
  split
  · exact h
  · rename_i n rest hr
    refine K.journal _ _ (fun hn => ?_) h
    rw [hr] at hn
    exact (List.nodup_cons.1 hn).2

theorem endWrite (h : P s) : P s.endWrite := K.reconsider (K.noteUnable (K.stopIfDue (K.journalSame _ rfl h)))

theorem recordWritten (w : RecordWrite) (h : P s) : P (s.recordWritten w) := by
  unfold State.recordWritten
  split
  · refine K.reconsider ?_
    split
    · exact K.holdCompaction (K.journalSame _ rfl h)
    · exact K.walkFrom _ (K.journalSame _ rfl h)
  · exact K.endWrite (K.report _ h)

theorem lastSlotFailed (w : RecordWrite) (h : P s) : P (s.lastSlotFailed w) := by
  have h1 := K.owe w.subject (K.journalSame { s.rj with record := none } rfl h)
  unfold State.lastSlotFailed
  dsimp only
  split
  · exact K.reconsider (K.stopIfDue (K.overflow h1))
  · exact K.endWrite h1

theorem secondFailure (w : RecordWrite) (h : P s) : P (s.secondFailure w) :=
  K.reconsider (K.enterFaulted (K.owe _ (K.endCompaction (K.journalSame _ rfl h))))

theorem recordEnd (w : RecordWrite) (v : Bool) (h : P s) : P (s.recordEnd w v) := by
  have ht : P (s.withRj (s.rj.useSlot .torn)) := K.journalSame _ (Journal.useSlot_owed _ _) h
  unfold State.recordEnd
  split
  · exact K.recordWritten _ (K.journalSame _ (Journal.useSlot_owed s.rj _) h)
  · dsimp only
    split
    · split
      · exact K.journalSame _ rfl ht
      · exact K.lastSlotFailed _ (K.journalSame _ rfl ht)
    · exact K.secondFailure _ ht

theorem newBankErased (h : P s) : P s.newBankErased := by
  have h1 : P (s.withRj s.rj.eraseDone) := K.journalSame _ (Journal.setBank_owed s.rj _ _) h
  unfold State.newBankErased
  dsimp only
  split
  · exact K.holdCompaction h1
  · exact K.journalSame _ rfl h1

theorem oldBankErased (h : P s) : P s.oldBankErased := by
  have h1 : P (s.withRj s.rj.eraseDone) := K.journalSame _ (Journal.setBank_owed s.rj _ _) h
  unfold State.oldBankErased
  dsimp only
  repeat' split
  · exact K.journalSame _ rfl h1
  · exact K.stopIfDue h1
  · exact K.reconsider (K.startCompaction h1)
  · exact K.journalSame _ rfl h1

theorem eraseEnd (e : Bool) (h : P s) : P (s.eraseEnd e) := by
  unfold State.eraseEnd
  repeat' split
  · exact K.newBankErased h
  · exact K.oldBankErased h
  · exact K.failOperation h

theorem headerWritten (h : P s) : P s.headerWritten := by
  unfold State.headerWritten
  have h1 : P (s.withRj { s.rj.setBank s.rj.newBank ⟨s.rj.nextGeneration, false, (s.rj.bank s.rj.newBank).slots⟩ with
      operation := none }) := K.journalSame _ (Journal.setBank_owed s.rj _ _) h
  dsimp only
  split
  · exact K.holdCompaction h1
  · exact K.reconsider (K.walkFrom _ (K.journalSame _ rfl h1))

theorem markWritten (h : P s) : P s.markWritten := by
  unfold State.markWritten
  dsimp only
  refine K.reconsider (K.stopIfDue (K.journalSame _ ?_ (K.notify _ _ (foldl_keeps _ (fun _ _ ht => K.report _ ht) _
    (K.journalSame _ (Journal.setBank_owed s.rj _ _) h)))))
  unfold Journal.afterMark
  split
  · exact Journal.beginErase_owed _
  · rfl

theorem stopWriter (h : P s) : P s.stopWriter := K.stopIfDue (K.journalSame _ rfl h)

theorem resume (h : P s) : P s.resume := by
  unfold State.resume
  split
  · exact K.reconsider (K.noteUnable (K.bindRecordings (K.journalSame _ rfl h)))
  · repeat' split
    · exact K.reconsider (K.startCompaction h)
    · exact K.takeHead h
    · exact K.journalSame _ rfl h
  all_goals exact h

/-! ## Frame starts -/

theorem discardCapture (h : P s) : P s.discardCapture :=
  K.pp _ _ (fun c => ⟨c.1, c.2.1, Table.wf_nil _, c.2.2.2.1, Table.wf_nil _⟩) h

theorem newFrame (b : Bool) (h : P s) : P (s.newFrame b) := by
  refine K.pp _ _ (fun c => ?_) h
  cases b
  · exact ⟨c.1, c.2.1, Table.wf_nil _, c.2.2.2.1, Table.wf_nil _⟩
  · exact ⟨c.1, c.2.1, Table.wf_nil _, c.2.2.1, Table.wf_nil _⟩

theorem applyRoutes (h : P s) : P s.applyRoutes := by
  unfold State.applyRoutes
  split
  · have hw := Table.wf_ofFunction (fun _ => Route.blank) Config.cells s.re.calledRoute
    generalize Table.ofFunction (fun _ => Route.blank) Config.cells s.re.calledRoute = x at hw
    exact K.pp _ _ (fun c => ⟨hw, Table.wf_nil _, c.2.2⟩) h
  · exact K.pp _ _ (fun c => ⟨PixelPath.applyPending_wf _ c, Table.wf_nil _, c.2.2⟩) h

theorem latchScale (h : P s) : P s.latchScale := K.pp _ _ id h

theorem sample (x : Int) (h : P s) : P (s.sample x) := by
  unfold State.sample
  dsimp only
  split
  · exact K.cm _ _ h
  · exact K.notify _ _ (K.cm _ _ h)

theorem senseFrame (h : P s) : P s.senseFrame := by
  unfold State.senseFrame
  dsimp only
  split
  · exact K.endSurvey _ (K.su _ _ (SuStep.same rfl rfl) h)
  · exact K.su _ _ (SuStep.same rfl rfl) h

theorem resetPoint (h : P s) : P s.resetPoint := by
  have h1 := K.reset s .starting ((s.rj.finishRecord s.clk.free).finishOperation (s.clk.free + 2)).bank0
    ((s.rj.finishRecord s.clk.free).finishOperation (s.clk.free + 2)).bank1 h
  have h2 := K.ci _ { ChainInterface.reset with
    forward := s.ci.forward.atResetPoint
    reverse := s.ci.reverse.atResetPoint }
    (fun _ => ⟨⟨Nat.zero_le _, Nat.zero_le _⟩, ⟨Nat.zero_le _, Nat.zero_le _⟩⟩) h1
  exact K.clk _ _ h2

theorem frameStart (x : Int) (b : Bool) (h : P s) : P (s.frameStart x b) := by
  unfold State.frameStart
  split
  · exact K.resetPoint h
  · exact K.latchScale (K.applyRoutes (K.repairFrame (K.senseFrame (K.sample _ (K.newFrame _ h)))))

theorem settleTimer (b : Bool) (x : Int) (h : P s) : P (s.settleTimer b x) := by
  unfold State.settleTimer
  split
  · exact K.frameStart _ _ h
  · exact h

theorem timerExpiry (x : Int) (h : P s) : P (s.timerExpiry x) := K.frameStart _ _ (K.reach _ h)

/-! ## The chain -/

theorem forwardHead (p : Port) (r : HeadRecord) (h : P s) : P (s.forwardHead p r) :=
  K.setDirection _ _ (fun d => ⟨d.1, Nat.zero_le _⟩) h

theorem noteCadence (p : Port) (a b : Nat) (h : P s) : P (s.noteCadence p a b) := by
  unfold State.noteCadence
  split
  · exact K.notify _ _ (K.setPort _ _ h)
  · exact h

theorem monitorHead (p : Port) (h : P s) : P (s.monitorHead p) := by
  unfold State.monitorHead
  dsimp only
  repeat' split
  · exact K.noteCadence _ _ _ (K.setPort _ _ h)
  · exact K.setPort _ _ h
  · exact K.setPort _ _ h

theorem changeFeed (f : Option Port) (c : FeedCause) (h : P s) : P (s.changeFeed f c) := by
  have h1 : P (s.discardCapture.withCi { s.ci with
      feed := f, pendingSwitch := none, returnCount := 0, leftNone := s.ci.leftNone || s.ci.feed.isNone }) :=
    K.ci _ _ id (K.discardCapture h)
  unfold State.changeFeed
  dsimp only
  split
  · exact h1
  · exact K.notify _ _ h1

theorem leaveNone (p : Port) (h : P s) : P (s.leaveNone p) := K.changeFeed _ _ (K.clk _ _ h)

theorem countReturn (p : Port) (h : P s) : P (s.countReturn p) := by
  unfold State.countReturn
  split
  · exact K.ci _ _ id h
  · exact K.changeFeed _ _ h

theorem selectOnHead (p : Port) (h : P s) : P (s.selectOnHead p) := by
  unfold State.selectOnHead
  repeat' split
  all_goals first
    | exact K.leaveNone _ h
    | exact K.changeFeed _ _ h
    | exact K.ci _ _ id h
    | exact K.countReturn _ h

theorem openCapture (r : HeadRecord) (h : P s) : P (s.openCapture r) :=
  K.pp _ _ (fun c => ⟨c.1, c.2.1, Table.wf_nil _, c.2.2.2.1, Table.wf_nil _⟩) h

theorem headArrives (p : Port) (r : HeadRecord) (x : Int) (h : P s) : P (s.headArrives p r x) := by
  have h1 := K.settleTimer s.feedLive x (K.selectOnHead p (K.monitorHead p (K.forwardHead p r h)))
  unfold State.headArrives
  dsimp only
  split
  · exact K.openCapture _ h1
  · exact h1

theorem selectOnLoss (p : Port) (h : P s) : P (s.selectOnLoss p) := by
  have h1 : P (if p = s.preferredPort then s.withCi { s.ci with returnCount := 0 } else s) := by
    split
    · exact K.ci _ _ id h
    · exact h
  unfold State.selectOnLoss
  dsimp only
  split
  · split
    · exact K.ci _ _ id (K.discardCapture h1)
    · exact K.changeFeed _ _ h1
  · split
    · exact K.changeFeed _ _ h1
    · exact h1

theorem losePort (p : Port) (x : Int) (h : P s) : P (s.losePort p x) :=
  K.settleTimer _ _ (K.selectOnLoss _ (K.setPort _ _ (K.reach _ h)))

theorem noteResetReply (p : Port) (r : Reply) (h : P s) : P (s.noteResetReply p r) := by
  unfold State.noteResetReply
  split
  · exact K.clk _ _ h
  · exact h

theorem placeReply (p : Port) (reply : Reply) (rest : List Reply) (hq : (s.ci.direction p).queue = reply :: rest)
    (h : P s) : P (s.placeReply p reply rest) := by
  refine K.noteResetReply _ _ (K.setDirection _ _ (fun d => ⟨?_, d.2⟩) h)
  have := d.1
  rw [hq] at this
  exact le_trans (Nat.le_succ _) this

theorem forwardTail (p : Port) (r : TailRecord) (h : P s) : P (s.forwardTail p r) := K.setDirection _ _ id h

theorem tailArrives (p : Port) (r : TailRecord) (x : Int) (h : P s) : P (s.tailArrives p r x) := by
  have h1 := K.forwardTail p r h
  unfold State.tailArrives
  dsimp only
  split
  · unfold State.tailOnFeed
    split
    · exact K.frameStart _ _ (K.pp _ _ id h1)
    · exact K.pp _ _ id h1
  · exact h1

/-! ## Requests -/

/-- A request keeps the property when what its kind does keeps it, and leaves the reply queues alone. -/
theorem request (r : Request) (k : Byte) (op : State → State × Answer) (hop : ∀ t, P t → P (op t).1)
    (hq : ∀ t, ((op t).1.ci.direction r.lane).queue = (t.ci.direction r.lane).queue) (h : P s) :
    P (s.request r k op) := by
  have h1 := K.send r.lane (Request.bytes r k) h
  unfold State.request
  split
  · exact h
  · dsimp only
    split
    · exact h1
    · rename_i hm
      have hm' : (s.send r.lane (Request.bytes r k)).mayConsider r.lane = true := by
        simp only [Bool.or_eq_true, Bool.not_eq_true', not_or, Bool.not_eq_false] at hm
        exact hm.2
      have hlt : ((s.send r.lane (Request.bytes r k)).ci.direction r.lane).considered < Config.requestsPerFrame := by
        unfold State.mayConsider at hm'
        simp only [Bool.and_eq_true, decide_eq_true_eq] at hm'
        exact hm'.2
      have h2 : P ((s.send r.lane (Request.bytes r k)).consider r.lane) :=
        K.setDirection _ _ (fun d => ⟨d.1, hlt⟩) h1
      generalize (s.send r.lane (Request.bytes r k)).consider r.lane = t at h2
      split
      · exact h2
      · split
        · exact K.setDirection _ _ id h2
        · rename_i _ hroom
          have h3 : P (t.decideRequest r k op).1 ∧
              ((t.decideRequest r k op).1.ci.direction r.lane).queue = (t.ci.direction r.lane).queue := by
            unfold State.decideRequest
            repeat' split
            all_goals first
              | exact ⟨h2, rfl⟩
              | exact ⟨hop _ h2, hq _⟩
          unfold State.take
          dsimp only
          split
          · exact h3.1
          · rename_i hall
            refine K.setDirection _ _ (fun d => ⟨?_, d.2⟩) h3.1
            have hlen : (t.ci.direction r.lane).queue.length < Config.queueLength := by
              simp only [Bool.and_eq_true, Bool.not_eq_true', not_and, Bool.not_eq_false] at hroom
              have := hroom (by simpa using hall)
              unfold State.hasRoom at this
              simpa using this
            simp only [List.length_append, List.length_cons, List.length_nil]
            rw [h3.2]
            exact hlen

end KeptAll

end Sys2Proof.Machine
end

