-- ==== Sys2Proof/Laws/KeptStep.lean ====
section
/-! SUPPORT. What a whole command can do: what the requests leave alone, and that a property that survives each change of a
block survives every command and every step. -/

namespace Sys2Proof.Machine

/-! ## What the Repair Engine's operations leave alone -/

/-- The blocks that no operation of the Repair Engine touches. -/
def State.outside (s : State) : List Instr × Clock × Table Nat × Table Nat × ChainInterface × ConditionMonitor :=
  (s.pending, s.clk, s.live, s.stored, s.ci, s.cm)

/-- The queue of commands, the clock, the settings, the chain and the conditions stay as they are under every operation of
the Repair Engine. -/
theorem KeptSu.outside (x : List Instr × Clock × Table Nat × Table Nat × ChainInterface × ConditionMonitor) :
    KeptSu fun t => t.outside = x where
  inFlight := fun _ _ h => h
  su := fun _ _ _ h => h
  post := fun _ _ _ h => h
  re := fun _ _ _ h => h
  rj := fun _ _ _ h => h
  notify := fun _ _ h => h
  enlist := fun _ _ _ h => h
  full := Or.inr fun _ _ h => h

/-- The chain stays as it is under every operation of the Repair Engine. -/
theorem KeptSu.chain (x : ChainInterface) : KeptSu fun t => t.ci = x where
  inFlight := fun _ _ h => h
  su := fun _ _ _ h => h
  post := fun _ _ _ h => h
  re := fun _ _ _ h => h
  rj := fun _ _ _ h => h
  notify := fun _ _ h => h
  enlist := fun _ _ _ h => h
  full := Or.inr fun _ _ h => h

/-! ## Requests that only read -/

/-- A request with an empty body does what its kind does, or nothing. -/
theorem State.emptyBody_property {P : State → Prop} {s : State} (body : List Byte) (op : State → State × Answer)
    (hop : P s → P (op s).1) (h : P s) : P (s.emptyBody body op).1 := by
  unfold State.emptyBody
  split
  · exact hop h
  · exact h

theorem readCellOp_state (body : List Byte) (s : State) : (readCellOp body s).1 = s := by
  unfold readCellOp
  repeat' split
  all_goals rfl

theorem readGroupOp_state (body : List Byte) (s : State) : (readGroupOp body s).1 = s := by
  unfold readGroupOp
  repeat' split
  all_goals rfl

theorem readLineOp_state (body : List Byte) (s : State) : (readLineOp body s).1 = s := by
  unfold readLineOp
  repeat' split
  all_goals rfl

theorem readSuspectsOp_state (body : List Byte) (s : State) : (readSuspectsOp body s).1 = s := by
  unfold readSuspectsOp
  repeat' split
  all_goals rfl

theorem getOp_state (body : List Byte) (s : State) : (getOp body s).1 = s := by
  unfold getOp
  repeat' split
  all_goals rfl

theorem collectOp_state (body : List Byte) (s : State) : (collectOp body s).1 = s := by
  unfold collectOp
  repeat' split
  all_goals rfl

theorem readJournalOp_state (body : List Byte) (s : State) : (readJournalOp body s).1 = s := by
  unfold readJournalOp State.emptyBody
  split <;> rfl

theorem identifyOp_state (body : List Byte) (s : State) : (identifyOp body s).1 = s := by
  unfold identifyOp State.emptyBody
  split <;> rfl

theorem readFeedOp_state (body : List Byte) (s : State) : (readFeedOp body s).1 = s := by
  unfold readFeedOp State.emptyBody
  split <;> rfl

/-! ## What each request does (its block's part) -/

namespace KeptSu

variable {P : State → Prop} (K : KeptSu P) {s : State}
include K

theorem takeSpare (n k : Nat) (hlt : s.re.provings.length < Config.provingSlots) (h : P s) : P (s.takeSpare n k) := by
  have h1 := K.startProving n k (s := s.dropEntry ⟨.primary, n⟩) hlt (K.dropEntry _ h)
  refine K.reconsider ?_
  split
  · exact h1
  · exact K.judgeLimits _ h1

theorem spareOp (body : List Byte) (h : P s) : P (spareOp body s).1 := by
  unfold Machine.spareOp
  repeat' split
  all_goals first
    | exact h
    | (rename_i hn; exact K.takeSpare _ _ (not_le.1 hn) h)

theorem restoreOp (body : List Byte) (h : P s) : P (restoreOp body s).1 := by
  unfold Machine.restoreOp
  repeat' split
  all_goals first
    | exact h
    | exact K.reconsider (K.clearClaim _ (K.withdraw _ _ h))

theorem concealOp (body : List Byte) (h : P s) : P (concealOp body s).1 := by
  unfold Machine.concealOp
  repeat' split
  all_goals first
    | exact h
    | exact K.reconsider (K.withdraw _ _ h)

theorem forgiveOp (body : List Byte) (h : P s) : P (forgiveOp body s).1 := by
  unfold Machine.forgiveOp
  repeat' split
  all_goals first
    | exact h
    | exact K.reconsider (K.returnUnit _ (K.dropEntry _ h))

theorem reviveDieOp (body : List Byte) (h : P s) : P (reviveDieOp body s).1 := by
  unfold Machine.reviveDieOp
  repeat' split
  all_goals first
    | exact h
    | exact K.reconsider (K.clearClaim _ (K.setCell _ _ _ h))

theorem restoreChannelOp (body : List Byte) (h : P s) : P (restoreChannelOp body s).1 := by
  unfold Machine.restoreChannelOp
  repeat' split
  all_goals first
    | exact h
    | exact K.reconsider (K.setChannel _ _ h)

theorem holdLineOp (body : List Byte) (h : P s) : P (holdLineOp body s).1 := by
  unfold Machine.holdLineOp
  repeat' split
  all_goals first
    | exact h
    | exact K.reconsider (K.hold _ h)

theorem release (l : Nat) (h : P s) : P (s.release l) :=
  foldl_keeps _ (fun _ _ ht => K.setLine _ _ ht) _
    (K.clearClaim _ (foldl_keeps _ (fun _ _ ht => K.setCell _ _ _ ht) _ (K.imageChanged _ _ _ (K.setLine _ _ h))))

theorem releaseLineOp (body : List Byte) (h : P s) : P (releaseLineOp body s).1 := by
  unfold Machine.releaseLineOp
  repeat' split
  all_goals first
    | exact h
    | exact K.reconsider (K.release _ h)

theorem setBudget (v : Nat) (h : P s) : P (s.setBudget v) :=
  K.re _ _ (ReStep.of_tables rfl rfl rfl rfl (le_refl _) (le_max_left _ _)) h

theorem setBudgetOp (body : List Byte) (h : P s) : P (setBudgetOp body s).1 := by
  unfold Machine.setBudgetOp
  repeat' split
  all_goals first
    | exact h
    | exact K.reconsider h
    | exact K.reconsider (K.setBudget _ h)

theorem startSurveyOp (body : List Byte) (h : P s) : P (startSurveyOp body s).1 := by
  unfold Machine.startSurveyOp
  repeat' split
  all_goals first
    | exact h
    | (refine K.su _ _ (SuStep.of_survey rfl fun _ v hv => ?_) h
       obtain rfl := Option.some.inj hv
       exact Table.wf_nil _)

theorem endSurvey (o : SurveyOutcome) (h : P s) : P (s.endSurvey o) := by
  unfold State.endSurvey
  split
  · exact h
  · exact K.notify _ _ (K.su _ _ (SuStep.noSurvey rfl rfl) h)

theorem stopSurveyOp (body : List Byte) (h : P s) : P (stopSurveyOp body s).1 := by
  refine State.emptyBody_property _ _ (fun h => ?_) h
  split
  · exact K.endSurvey _ h
  · exact h

theorem readSenseOp (body : List Byte) (h : P s) : P (readSenseOp body s).1 := by
  unfold Machine.readSenseOp
  repeat' split
  all_goals first
    | exact h
    | exact K.su _ _ (SuStep.same rfl rfl) h

theorem clearBaselinesOp (body : List Byte) (h : P s) : P (clearBaselinesOp body s).1 :=
  State.emptyBody_property _ _ (fun h => K.su _ _ (fun hc => ⟨Table.wf_nil (fun _ => Baseline.none), hc.2⟩) h) h

end KeptSu

/-! ## The reply queues are the request mechanism's alone -/

/-- What the kind of a request does leaves the directions of the chain alone. -/
def KeepsDirections (op : State → State × Answer) : Prop :=
  ∀ t, (op t).1.ci.forward = t.ci.forward ∧ (op t).1.ci.reverse = t.ci.reverse

theorem KeepsDirections.of_chain {op : State → State × Answer} (h : ∀ t, (op t).1.ci = t.ci) : KeepsDirections op :=
  fun t => by rw [h t]; exact ⟨rfl, rfl⟩

theorem KeepsDirections.queue {op : State → State × Answer} (h : KeepsDirections op) (p : Port) (t : State) :
    ((op t).1.ci.direction p).queue = (t.ci.direction p).queue := by
  cases p
  · exact congrArg DirectionState.queue (h t).1
  · exact congrArg DirectionState.queue (h t).2

theorem compactOp_chain (body : List Byte) (t : State) : (compactOp body t).1.ci = t.ci := by
  unfold compactOp State.emptyBody
  split
  · dsimp only
    split <;> rfl
  · rfl

theorem resetOp_chain (r : Request) (t : State) : (resetOp r t).1.ci = t.ci := by
  unfold resetOp State.emptyBody
  split
  · dsimp only
    split <;> rfl
  · rfl

theorem State.changeSetting_chain (s : State) (n v : Nat) (b : Bool) : (s.changeSetting n v b).ci = s.ci := by
  unfold State.changeSetting State.setStored State.setLive
  dsimp only
  split
  · rw [State.imageChanged_ci]
  · rfl

theorem assignIdOp_chain (body : List Byte) (t : State) : (assignIdOp body t).1.ci = t.ci := by
  unfold assignIdOp
  repeat' split
  all_goals first
    | rfl
    | exact State.changeSetting_chain _ _ _ _

theorem setOp_directions (body : List Byte) : KeepsDirections (setOp body) := by
  intro t
  have hk : ∀ n old v (u : State), u.ci = t.ci →
      (u.settingEffect n old v).ci.forward = t.ci.forward ∧ (u.settingEffect n old v).ci.reverse = t.ci.reverse := by
    intro n old v u hu
    have K := KeptSu.chain t.ci
    have same : ∀ w : State, w.ci = t.ci → w.ci.forward = t.ci.forward ∧ w.ci.reverse = t.ci.reverse := by
      intro w hw
      rw [hw]
      exact ⟨rfl, rfl⟩
    unfold State.settingEffect
    repeat' split
    all_goals first
      | exact same _ hu
      | exact same _ (K.reconsider hu)
      | exact same _ (K.reconsider (K.newThreshold _ _ hu))
      | exact same _ (K.reconsider (K.newLimit _ hu))
      | exact ⟨(congrArg ChainInterface.forward hu : u.ci.forward = t.ci.forward),
          (congrArg ChainInterface.reverse hu : u.ci.reverse = t.ci.reverse)⟩
  unfold setOp
  repeat' split
  all_goals first
    | exact ⟨rfl, rfl⟩
    | exact hk _ _ _ _ (State.changeSetting_chain _ _ _ _)

theorem clearOp_directions (body : List Byte) : KeepsDirections (clearOp body) := by
  intro t
  unfold clearOp
  repeat' split
  · exact ⟨rfl, rfl⟩
  · exact ⟨rfl, rfl⟩
  · refine foldl_keeps (P := fun u : State => u.ci.forward = t.ci.forward ∧ u.ci.reverse = t.ci.reverse) _ (fun u p hu => ?_) _
      ⟨rfl, rfl⟩
    unfold State.clearKind
    dsimp only
    repeat' split
    all_goals exact hu

/-! ## The remaining requests, start-up and power -/

theorem noticesCanonical_write {t : Table Notice} (k : Nat) (n : Notice) (h : noticesCanonical t) :
    noticesCanonical (Table.write (fun _ => ⟨0, none⟩) t k n) := Table.wf_write k n h

theorem noticesBounded_write {t : Table Notice} (k : Nat) (n : Notice) (hn : n.count ≤ 255) (h : noticesBounded t) :
    noticesBounded (Table.write (fun _ => ⟨0, none⟩) t k n) := by
  refine ⟨Table.wf_write _ _ h.1, fun e he => ?_⟩
  unfold Table.write at he
  split at he
  · exact h.2 e (Table.mem_drop he)
  · rcases Table.mem_place he with rfl | he
    · exact hn
    · exact h.2 e he

/-- A record of a bounded notice table counts at most 255. -/
theorem noticesBounded.count {s : State} (h : noticesBounded s.nu) (k : Nat) : (s.notice k).count ≤ 255 := by
  have key : ∀ t : Table Notice, (∀ e ∈ t, e.2.count ≤ 255) →
      (Table.read (fun _ => (⟨0, none⟩ : Notice)) t k).count ≤ 255 := by
    intro t
    induction t with
    | nil => exact fun _ => Nat.zero_le _
    | cons e t ih =>
      intro ht
      obtain ⟨j, v⟩ := e
      rw [Table.read_cons]
      split
      · exact ht (j, v) List.mem_cons_self
      · exact ih fun e he => ht e (List.mem_cons_of_mem _ he)
  exact key _ h.2

theorem wf_build {α : Type} [DecidableEq α] (d : Nat → α) (l : List Nat) (f : Nat → α) :
    Table.wf d (Table.build d l f) := Table.wf_foldl_write l id f [] (Table.wf_nil d)

theorem Replayed.tables_canonical (r : Replayed) (b : Nat) : (Replayed.tables r b).canonical :=
  ⟨wf_build _ _ _, wf_build _ _ _, wf_build _ _ _, wf_build _ _ _⟩

theorem Replayed.settings_canonical (r : Replayed) : settingsCanonical (Replayed.settings r) :=
  Table.wf_ofFunction _ _ _

namespace KeptAll

variable {P : State → Prop} (K : KeptAll P) {s : State}
include K

theorem compactOp (body : List Byte) (h : P s) : P (compactOp body s).1 := by
  refine State.emptyBody_property _ _ (fun h => ?_) h
  split
  all_goals exact K.journalSame _ rfl h

theorem resetOp (r : Request) (h : P s) : P (resetOp r s).1 := by
  refine State.emptyBody_property _ _ (fun h => ?_) h
  split
  · exact h
  · exact K.clk _ _ h

theorem setLive (n v : Nat) (h : P s) : P (s.setLive n v) :=
  K.settings s _ s.stored (fun hc => Table.wf_write n v hc) id h

theorem setStored (n v : Nat) (h : P s) : P (s.setStored n v) :=
  K.imageChanged _ _ _ (K.settings s s.live _ id (fun hc => Table.wf_write n v hc) h)

theorem changeSetting (n v : Nat) (b : Bool) (h : P s) : P (s.changeSetting n v b) := by
  unfold State.changeSetting
  dsimp only
  split
  · exact K.setStored _ _ (K.setLive _ _ h)
  · exact K.setLive _ _ h

theorem assignIdOp (body : List Byte) (h : P s) : P (assignIdOp body s).1 := by
  unfold Machine.assignIdOp
  repeat' split
  all_goals first
    | exact h
    | exact K.changeSetting Setting.tileId _ true h

theorem settingEffect (n old v : Nat) (h : P s) : P (s.settingEffect n old v) := by
  unfold State.settingEffect
  repeat' split
  all_goals first
    | exact h
    | exact K.reconsider h
    | exact K.reconsider (K.newThreshold _ _ h)
    | exact K.reconsider (K.newLimit _ h)
    | exact K.ci _ _ id h

theorem setOp (body : List Byte) (h : P s) : P (setOp body s).1 := by
  unfold Machine.setOp
  repeat' split
  all_goals first
    | exact h
    | exact K.settingEffect _ _ _ (K.changeSetting _ _ _ h)

theorem clearKind (k seen : Nat) (h : P s) : P (s.clearKind k seen) := by
  have h0 : P (s.setNotice k ⟨0, none⟩) :=
    K.nu _ _ (noticesCanonical_write k _) (fun hb => noticesBounded_write k ⟨0, none⟩ (Nat.zero_le _) hb) h
  unfold State.clearKind
  dsimp only
  repeat' split
  · exact K.ci _ _ id h0
  · exact h0
  · exact K.nu _ _ (noticesCanonical_write k _) (fun hb => noticesBounded_write k _ (le_trans (Nat.sub_le _ _) (hb.count k)) hb) h
  · exact h

theorem clearOp (body : List Byte) (h : P s) : P (clearOp body s).1 := by
  unfold Machine.clearOp
  repeat' split
  · exact h
  · exact h
  · exact foldl_keeps _ (fun _ _ ht => K.clearKind _ _ ht) _ h

theorem settleFreeRun (before : State) (x : Int) (h : P s) : P (s.settleFreeRun before x) := by
  unfold State.settleFreeRun
  split
  · exact K.frameStart _ _ h
  · exact h

theorem bankScan (h : P s) : P s.bankScan := by
  have h1 : P (s.withRj { s.rj with active := s.rj.scan }) := K.journalSame _ rfl h
  unfold State.bankScan
  dsimp only
  repeat' split
  · exact K.notify _ _ h1
  · exact K.notify _ _ h1
  · exact h1

theorem repeatNotify (d : Detail) (n : Nat) (h : P s) : P (Nat.repeat (fun t => t.notify d) n s) := by
  induction n with
  | zero => exact h
  | succ n ih => exact K.notify _ _ ih

theorem noteDamaged (h : P s) : P s.noteDamaged := K.repeatNotify _ _ (K.journalSame _ rfl h)

theorem restoreSettings (r : Replayed) (h : P s) : P (s.restoreSettings r) := by
  have hw := Replayed.settings_canonical r
  unfold State.restoreSettings
  generalize Replayed.settings r = x at hw
  exact K.ci _ _ id (K.settings s x x (fun _ => hw) (fun _ => hw) h)

theorem computeTallies (h : P s) : P s.computeTallies := by
  refine foldl_keeps _ (fun t e ht => ?_) _ h
  split
  · exact K.moveTally _ _ (K.moveTally _ _ ht)
  · exact ht

theorem reconcile (r : Replayed) (h : P s) : P (s.reconcile r) := by
  have hw := Replayed.tables_canonical r (s.setting Setting.budgetDefault)
  have h1 : (Replayed.tables r (s.setting Setting.budgetDefault)).suspects = [] := rfl
  have h2 : (Replayed.tables r (s.setting Setting.budgetDefault)).provings = [] := rfl
  unfold State.reconcile
  generalize Replayed.tables r (s.setting Setting.budgetDefault) = x at hw h1 h2
  exact K.journalSame _ rfl (K.computeTallies (K.tables _ _ hw h1 h2 h))

theorem stopIfLow (h : P s) : P s.stopIfLow := by
  unfold State.stopIfLow
  split
  · exact K.journalSame _ rfl h
  · exact h

theorem startWriter (h : P s) : P s.startWriter := by
  unfold State.startWriter
  repeat' split
  · exact K.stopIfLow (K.enterFull h)
  · exact K.journalSame _ rfl h
  · exact K.startCompaction h
  · exact K.stopIfLow (K.journalSame _ rfl h)

theorem endReplay (x : Int) (h : P s) : P (s.endReplay x) :=
  K.clk _ _ (K.startWriter (K.reconcile _ (K.settleFreeRun _ _ (K.restoreSettings _ (K.noteDamaged (K.bankScan h))))))

theorem beginSettle (h : P s) : P s.beginSettle := by
  unfold State.beginSettle
  split
  · exact h
  · exact K.clk _ _ h

theorem noteSupply (h : P s) : P s.noteSupply := by
  unfold State.noteSupply
  split
  · exact K.notify _ _ h
  · exact h

theorem supplyLow (h : P s) : P s.supplyLow := by
  have h1 : P ((s.setSupply .low).withPp { (s.setSupply .low).pp with scaleDerate := 40 }).noteSupply :=
    K.noteSupply (K.pp _ _ id (K.cm _ _ h))
  unfold State.supplyLow
  dsimp only
  split
  · exact K.stopWriter h1
  · exact h1

theorem powerUp (h : P s) : P s.powerUp := K.beginSettle (K.clk _ _ (K.cm _ _ h))

theorem resetScale (h : P s) : P s.resetScale := by
  unfold State.resetScale
  split
  · exact h
  · exact K.pp _ _ id h

theorem supplyGood (h : P s) : P s.supplyGood := K.noteSupply (K.resetScale (K.journalSame _ rfl (K.cm _ _ h)))

theorem expireCountdown (h : P s) : P s.expireCountdown := by
  unfold State.expireCountdown
  dsimp only
  split
  · exact K.cm _ _ h
  · exact K.notify _ _ (K.cm _ _ h)

/-- A request whose kind leaves the chain alone. -/
theorem requestOf (r : Request) (k : Byte) (op : State → State × Answer) (hop : ∀ t, P t → P (op t).1)
    (hq : ∀ x, ∀ t : State, t.ci = x → (op t).1.ci = x) (h : P s) : P (s.request r k op) :=
  K.request r k op hop ((KeepsDirections.of_chain fun t => hq _ t rfl).queue r.lane) h

/-- A request kept by the Repair Engine's closure alone. -/
theorem requestKept (r : Request) (k : Byte) (op : State → State × Answer)
    (hop : ∀ Q : State → Prop, KeptSu Q → ∀ t, Q t → Q (op t).1) (h : P s) : P (s.request r k op) :=
  K.requestOf r k op (hop P K.toKeptSu) (fun x => hop _ (KeptSu.chain x)) h

/-- A request that only reads. -/
theorem requestRead (r : Request) (k : Byte) (op : State → State × Answer) (hop : ∀ t, (op t).1 = t) (h : P s) :
    P (s.request r k op) :=
  K.requestOf r k op (fun t ht => (hop t).symm ▸ ht) (fun _ t ht => (hop t).symm ▸ ht) h

/-! ## Every command -/

/-- A property that survives each change of a block survives every command. -/
theorem exec (c : Instr) {t : State} (h : P s) (ht : exec c s = .next t) : P t := by
  cases c <;> simp only [Machine.exec] at ht <;> injection ht with ht <;> subst ht
  case frameHead lane r m =>
    split
    · exact K.headArrives _ _ _ (K.tick _ h)
    · exact K.tick _ h
  case line lane r =>
    have h1 := K.send lane (LineRecord.bytes r) h
    repeat' split
    · exact K.pp _ _ (PixelPath.takeLine_step _ _) h1
    · exact h1
    · exact h
  case replySlot lane r =>
    repeat' split
    · rename_i hq _
      exact K.placeReply _ _ _ hq h
    · exact K.send _ _ h
    · exact K.send _ _ h
    · exact h
  case frameTail lane r m =>
    split
    · exact K.tailArrives _ _ _ (K.tick _ h)
    · exact K.tick _ h
  case recordBadCheck lane bytes =>
    have h1 := K.send lane bytes h
    repeat' split
    · exact h1
    · exact K.setPort _ _ h1
    · exact h
  case frameTimerExpiry x =>
    split
    · exact K.timerExpiry _ h
    · exact h
  case stale x =>
    split
    · exact K.timerExpiry _ h
    · exact h
  case provingTimeout x =>
    split
    · exact K.timerExpiry _ h
    · exact h
  case rowGapOpen =>
    split
    · exact K.openGap h
    · exact h
  case rowGapEnd ticks r =>
    split
    · exact K.endGap _ _ h
    · exact h
  case portLossWatchdog lane x =>
    split
    · exact K.losePort _ _ h
    · exact h
  case feedReturn r m =>
    split
    · exact K.headArrives _ _ _ (K.tick _ h)
    · exact K.tick _ h
  case unknownKind r kind =>
    split
    · exact h
    · exact K.requestRead _ _ _ (fun _ => rfl) h
  case set r m =>
    exact K.settleFreeRun _ _ (K.request _ _ (Machine.setOp r.body) (fun _ ht => K.setOp _ ht)
      ((setOp_directions r.body).queue r.lane) (K.tick _ h))
  case assignId r =>
    exact K.requestOf _ _ (Machine.assignIdOp r.body) (fun _ ht => K.assignIdOp _ ht)
      (fun _ u hu => (assignIdOp_chain _ u).trans hu) h
  case reset r =>
    exact K.requestOf _ _ (Machine.resetOp r) (fun _ ht => K.resetOp _ ht)
      (fun _ u hu => (resetOp_chain _ u).trans hu) h
  case compact r =>
    exact K.requestOf _ _ (Machine.compactOp r.body) (fun _ ht => K.compactOp _ ht)
      (fun _ u hu => (compactOp_chain _ u).trans hu) h
  case clear r =>
    exact K.request _ _ (Machine.clearOp r.body) (fun _ ht => K.clearOp _ ht)
      ((clearOp_directions r.body).queue r.lane) h
  case readCell r =>
    exact K.requestRead _ _ _ (readCellOp_state r.body) h
  case readGroup r =>
    exact K.requestRead _ _ _ (readGroupOp_state r.body) h
  case readLine r =>
    exact K.requestRead _ _ _ (readLineOp_state r.body) h
  case readSuspects r =>
    exact K.requestRead _ _ _ (readSuspectsOp_state r.body) h
  case spare r =>
    exact K.requestKept _ _ (Machine.spareOp r.body) (fun _ K' _ ht => K'.spareOp _ ht) h
  case restore r =>
    exact K.requestKept _ _ (Machine.restoreOp r.body) (fun _ K' _ ht => K'.restoreOp _ ht) h
  case conceal r =>
    exact K.requestKept _ _ (Machine.concealOp r.body) (fun _ K' _ ht => K'.concealOp _ ht) h
  case forgive r =>
    exact K.requestKept _ _ (Machine.forgiveOp r.body) (fun _ K' _ ht => K'.forgiveOp _ ht) h
  case reviveDie r =>
    exact K.requestKept _ _ (Machine.reviveDieOp r.body) (fun _ K' _ ht => K'.reviveDieOp _ ht) h
  case restoreChannel r =>
    exact K.requestKept _ _ (Machine.restoreChannelOp r.body) (fun _ K' _ ht => K'.restoreChannelOp _ ht) h
  case holdLine r =>
    exact K.requestKept _ _ (Machine.holdLineOp r.body) (fun _ K' _ ht => K'.holdLineOp _ ht) h
  case releaseLine r =>
    exact K.requestKept _ _ (Machine.releaseLineOp r.body) (fun _ K' _ ht => K'.releaseLineOp _ ht) h
  case setBudget r =>
    exact K.requestKept _ _ (Machine.setBudgetOp r.body) (fun _ K' _ ht => K'.setBudgetOp _ ht) h
  case startSurvey r =>
    exact K.requestKept _ _ (Machine.startSurveyOp r.body) (fun _ K' _ ht => K'.startSurveyOp _ ht) h
  case stopSurvey r =>
    exact K.requestKept _ _ (Machine.stopSurveyOp r.body) (fun _ K' _ ht => K'.stopSurveyOp _ ht) h
  case readSense r =>
    exact K.requestKept _ _ (Machine.readSenseOp r.body) (fun _ K' _ ht => K'.readSenseOp _ ht) h
  case clearBaselines r =>
    exact K.requestKept _ _ (Machine.clearBaselinesOp r.body) (fun _ K' _ ht => K'.clearBaselinesOp _ ht) h
  case readJournal r =>
    exact K.requestRead _ _ _ (readJournalOp_state r.body) h
  case collect r =>
    exact K.requestRead _ _ _ (collectOp_state r.body) h
  case readFeed r =>
    exact K.requestRead _ _ _ (readFeedOp_state r.body) h
  case identify r =>
    exact K.requestRead _ _ _ (identifyOp_state r.body) h
  case get r =>
    exact K.requestRead _ _ _ (getOp_state r.body) h
  case recordWriteStart =>
    split
    · exact K.takeHead h
    · exact h
  case recordWriteEnd v =>
    repeat' split
    · exact K.recordEnd _ _ h
    · exact h
    · exact h
  case compactionStart =>
    split
    · exact K.reconsider (K.startCompaction h)
    · exact h
  case bankEraseEnd e =>
    split
    · exact K.eraseEnd _ h
    · exact h
  case headerWriteEnd w =>
    repeat' split
    · exact K.headerWritten h
    · exact K.failOperation h
    · exact h
  case completeMarkWriteEnd w =>
    repeat' split
    · exact K.markWritten h
    · exact K.failOperation h
    · exact h
  case supplyLow =>
    repeat' split
    · exact K.cm _ _ h
    · exact h
    · exact K.supplyLow h
    · exact h
  case supplyGood e =>
    repeat' split
    · exact K.powerUp (K.tick _ h)
    · exact K.supplyGood (K.tick _ h)
    · exact K.tick _ h
  case writerResume =>
    split
    · exact K.resume (K.reach _ h)
    · exact h
  case supplyFail cut =>
    split
    · exact K.cm _ _ h
    · exact K.clk _ _ (K.reset _ _ _ _ (K.cm _ _ h))
  case powerUp e =>
    split
    · exact K.powerUp (K.tick _ h)
    · exact K.tick _ h
  case resetPinAssert cut =>
    split
    · exact h
    · refine K.clk _ _ ?_
      split
      · exact h
      · exact K.reset _ _ _ _ h
  case resetPinRelease e =>
    split
    · exact K.beginSettle (K.clk _ _ (K.tick _ h))
    · exact K.tick _ h
  case oscillatorSettle =>
    split
    · exact K.pp _ _ id (K.clk _ _ (K.reach _ h))
    · exact h
  case resetPoint =>
    split
    · exact K.resetPoint (K.reach _ h)
    · exact h
  case replayEnd m =>
    split
    · exact K.endReplay _ (K.tick _ h)
    · exact K.tick _ h
  case derateCountdownExpiry =>
    split
    · exact K.expireCountdown (K.reach _ h)
    · exact h

end KeptAll

end Sys2Proof.Machine
end

