-- ==== Sys2Proof/Laws/Request.lean ====
section
/-! SUPPORT. The request mechanism, said once: what a request that is taken comes to, and one that is not. -/

namespace Sys2Proof.Machine

/-- Sending and counting a record touches one direction of the chain. -/
theorem State.heard_eq (s : State) (r : Request) (k : Byte) :
    s.heard r k = s.setDirection r.lane { s.ci.direction r.lane with
      sent := Request.bytes r k, considered := (s.ci.direction r.lane).considered + 1 } := by
  obtain ⟨lane, m, d, t, b⟩ := r
  cases lane <;> rfl

@[simp] theorem State.heard_pending (s : State) (r : Request) (k : Byte) : (s.heard r k).pending = s.pending := by
  simp [State.heard_eq]
@[simp] theorem State.heard_clk (s : State) (r : Request) (k : Byte) : (s.heard r k).clk = s.clk := by
  simp [State.heard_eq]
@[simp] theorem State.heard_live (s : State) (r : Request) (k : Byte) : (s.heard r k).live = s.live := by
  simp [State.heard_eq]
@[simp] theorem State.heard_stored (s : State) (r : Request) (k : Byte) : (s.heard r k).stored = s.stored := by
  simp [State.heard_eq]
@[simp] theorem State.heard_pp (s : State) (r : Request) (k : Byte) : (s.heard r k).pp = s.pp := by
  simp [State.heard_eq]
@[simp] theorem State.heard_su (s : State) (r : Request) (k : Byte) : (s.heard r k).su = s.su := by
  simp [State.heard_eq]
@[simp] theorem State.heard_re (s : State) (r : Request) (k : Byte) : (s.heard r k).re = s.re := by
  simp [State.heard_eq]
@[simp] theorem State.heard_rj (s : State) (r : Request) (k : Byte) : (s.heard r k).rj = s.rj := by
  simp [State.heard_eq]
@[simp] theorem State.heard_cm (s : State) (r : Request) (k : Byte) : (s.heard r k).cm = s.cm := by
  simp [State.heard_eq]
@[simp] theorem State.heard_nu (s : State) (r : Request) (k : Byte) : (s.heard r k).nu = s.nu := by
  simp [State.heard_eq]

@[simp] theorem State.heard_port (s : State) (r : Request) (k : Byte) (p : Port) :
    (s.heard r k).ci.port p = s.ci.port p := by
  simp [State.heard_eq]

/-- A record that is sent on leaves the addressing of requests as it was. -/
theorem State.addresses_heard (s : State) (r : Request) (k : Byte) : (s.heard r k).addresses r = s.addresses r := by
  obtain ⟨lane, m, d, t, b⟩ := r
  cases lane <;> rfl

/-- A taken request comes to its decision and its reply (R164). -/
theorem State.request_accepted {s : State} {r : Request} (h : s.accepts r = true) (k : Byte)
    (op : State → State × Answer) :
    s.request r k op =
      ((s.heard r k).decideRequest r k op).1.answered r k s.pp.frame ((s.heard r k).decideRequest r k op).2.status
        ((s.heard r k).decideRequest r k op).2.body := by
  unfold State.accepts at h
  simp only [Bool.and_eq_true, Bool.or_eq_true] at h
  obtain ⟨⟨⟨⟨h1, h2⟩, h3⟩, h4⟩, h5⟩ := h
  have hm : (s.send r.lane (Request.bytes r k)).mayConsider r.lane = true := by
    rw [← h3]
    obtain ⟨lane, m, d, t, b⟩ := r
    cases lane <;> rfl
  have ha : ((s.send r.lane (Request.bytes r k)).consider r.lane).addresses r = true :=
    (State.addresses_heard s r k).trans h4
  have hr : (!Request.toAll r && !((s.send r.lane (Request.bytes r k)).consider r.lane).hasRoom r.lane) = false := by
    rcases h5 with h5 | h5
    · simp [h5]
    · have : ((s.send r.lane (Request.bytes r k)).consider r.lane).hasRoom r.lane = true := by
        rw [← h5]
        obtain ⟨lane, m, d, t, b⟩ := r
        cases lane <;> rfl
      simp [this]
  unfold State.request
  simp only [h1, h2, hm, ha, hr, Bool.not_true, Bool.or_self, Bool.false_eq_true, if_false]
  have hf : s.pp.frame = (s.heard r k).pp.frame := by rw [State.heard_pp]
  rw [hf]
  rfl

/-- In operation a request of a known kind is its block's (R164, check 4). -/
theorem State.decideRequest_operating {s : State} {r : Request} {k : Byte} (op : State → State × Answer)
    (h : s.operating = true) (hk : knownKind k = true) (ha : k ≠ 2 ∨ r.mode.toNat = 1) : s.decideRequest r k op = op s := by
  unfold State.decideRequest
  have h2 : ¬(k = 2 ∧ ¬r.mode.toNat = 1) := fun hc => ha.elim (fun h' => h' hc.1) (fun h' => hc.2 h')
  simp only [h, hk, Bool.not_true, Bool.false_and, Bool.false_eq_true, if_false, Bool.and_eq_true, decide_eq_true_eq,
    ne_eq, h2]

@[simp] theorem State.heard_operating (s : State) (r : Request) (k : Byte) :
    (s.heard r k).operating = s.operating := by
  unfold State.operating
  rw [State.heard_clk]

/-- A request taken in operation: what its kind does, and its reply (R164). -/
theorem State.request_operating {s : State} {r : Request} {k : Byte} (op : State → State × Answer)
    (h : s.accepts r = true) (ho : s.operating = true) (hk : knownKind k = true) (ha : k ≠ 2 ∨ r.mode.toNat = 1) :
    s.request r k op =
      (op (s.heard r k)).1.answered r k s.pp.frame (op (s.heard r k)).2.status (op (s.heard r k)).2.body := by
  rw [State.request_accepted h, State.decideRequest_operating op (by simpa using ho) hk ha]

/-- The reply touches one direction's queue. -/
theorem State.answered_cases (s : State) (r : Request) (k : Byte) (f : Half) (st : Status) (b : List Byte) :
    s.answered r k f st b = s ∨ s.answered r k f st b = s.queueReply r.lane ⟨r.tag, k, st.code, f, b⟩ := by
  unfold State.answered
  split
  · exact Or.inl rfl
  · exact Or.inr rfl

@[simp] theorem State.answered_re (s : State) (r : Request) (k : Byte) (f : Half) (st : Status) (b : List Byte) :
    (s.answered r k f st b).re = s.re := by
  unfold State.answered; split <;> simp
@[simp] theorem State.answered_pp (s : State) (r : Request) (k : Byte) (f : Half) (st : Status) (b : List Byte) :
    (s.answered r k f st b).pp = s.pp := by
  unfold State.answered; split <;> simp
@[simp] theorem State.answered_su (s : State) (r : Request) (k : Byte) (f : Half) (st : Status) (b : List Byte) :
    (s.answered r k f st b).su = s.su := by
  unfold State.answered; split <;> simp
@[simp] theorem State.answered_rj (s : State) (r : Request) (k : Byte) (f : Half) (st : Status) (b : List Byte) :
    (s.answered r k f st b).rj = s.rj := by
  unfold State.answered; split <;> simp
@[simp] theorem State.answered_nu (s : State) (r : Request) (k : Byte) (f : Half) (st : Status) (b : List Byte) :
    (s.answered r k f st b).nu = s.nu := by
  unfold State.answered; split <;> simp
@[simp] theorem State.answered_live (s : State) (r : Request) (k : Byte) (f : Half) (st : Status) (b : List Byte) :
    (s.answered r k f st b).live = s.live := by
  unfold State.answered; split <;> simp
@[simp] theorem State.answered_stored (s : State) (r : Request) (k : Byte) (f : Half) (st : Status) (b : List Byte) :
    (s.answered r k f st b).stored = s.stored := by
  unfold State.answered; split <;> simp
@[simp] theorem State.answered_clk (s : State) (r : Request) (k : Byte) (f : Half) (st : Status) (b : List Byte) :
    (s.answered r k f st b).clk = s.clk := by
  unfold State.answered; split <;> simp
@[simp] theorem State.answered_cm (s : State) (r : Request) (k : Byte) (f : Half) (st : Status) (b : List Byte) :
    (s.answered r k f st b).cm = s.cm := by
  unfold State.answered; split <;> simp

end Sys2Proof.Machine
end

