-- ==== Sys2Proof/Laws/Repair.lean ====
section
/-! SUPPORT. The shared operations of the Repair Engine, each said once: what a change of a cell, a withdrawal, a hold, a new
proving and a binding leave in the maps, and that none reaches outside what `State.repairOnly` allows. -/

namespace Sys2Proof.Machine

/-! ## The frame of a repair event -/

/-- The frame block by block: the blocks that a repair event leaves alone, and the part that it may change of the Pixel Path,
the Sense Unit and the journal. -/
theorem State.repairOnly_iff (s u : State) :
    s.repairOnly u ↔
      (u.pending = s.pending ∧ u.clk = s.clk ∧ u.live = s.live ∧ u.stored = s.stored ∧ u.ci = s.ci ∧ u.cm = s.cm) ∧
      u.pp = { s.pp with pendingRoutes := u.pp.pendingRoutes } ∧
      u.su = { s.su with inFlight := u.su.inFlight, baselines := u.su.baselines } ∧
      u.rj = { s.rj with owed := u.rj.owed, liveImages := u.rj.liveImages, unrecorded := u.rj.unrecorded } := by
  unfold State.repairOnly
  obtain ⟨p, c, l, st, ci, pp, su, re, rj, cm, nu⟩ := u
  simp only [State.mk.injEq]
  tauto

theorem State.repairOnly_refl (s : State) : s.repairOnly s := rfl

/-- A Sense Unit that differs at most in the measurement in flight and the baselines stays inside the frame. -/
theorem State.repairOnly.sense {s t : State} (h : s.repairOnly t) (v : Option Measurement) (b : Table Baseline) :
    s.repairOnly { t with su := { t.su with inFlight := v, baselines := b } } := by
  have frame := (State.repairOnly_iff s t).1 h
  refine (State.repairOnly_iff _ _).2 ⟨frame.1, frame.2.1, ?_, frame.2.2.2⟩
  rw [frame.2.2.1]

/-- The operations of the Repair Engine stay inside the frame. -/
theorem Kept.repairOnly (s : State) : Kept s.repairOnly where
  inFlight := fun t v h => h.sense v t.su.baselines
  post := fun t n r h => by
    have frame := (State.repairOnly_iff s t).1 h
    refine (State.repairOnly_iff _ _).2 ⟨frame.1, ?_, frame.2.2⟩
    change { t.pp with pendingRoutes := (t.post n r).pp.pendingRoutes } = _
    rw [frame.2.1]
  re := fun t v _ h => (State.repairOnly_iff _ _).2 ((State.repairOnly_iff s t).1 h)
  rj := fun t v hv h => by
    have frame := (State.repairOnly_iff s t).1 h
    refine (State.repairOnly_iff _ _).2 ⟨frame.1, frame.2.1, frame.2.2.1, ?_⟩
    change v = _
    rw [hv.2.2, frame.2.2.2]
    rfl
  notify := fun t d h => (State.repairOnly_iff _ _).2 ((State.repairOnly_iff s t).1 h)
  enlist := fun t e _ h => (State.repairOnly_iff _ _).2 ((State.repairOnly_iff s t).1 h)
  full := Or.inr fun t e h => (State.repairOnly_iff _ _).2 ((State.repairOnly_iff s t).1 h)

/-- Clearing baselines stays inside the frame. -/
theorem State.repairOnly.clearClaim {s t : State} (us : List UnitId) (h : s.repairOnly t) :
    s.repairOnly (t.clearClaim us) := h.sense _ _

/-! ## Owing and posting -/

/-- A subject that is owed stays owed under every operation of the Repair Engine. -/
theorem Kept.owes (n : Nat) : Kept fun t => n ∈ t.rj.owed where
  inFlight := fun _ _ h => h
  post := fun _ _ _ h => h
  re := fun _ _ _ h => h
  rj := fun _ _ hv h => hv.2.1 n h
  notify := fun _ _ h => h
  enlist := fun _ _ _ h => h
  full := Or.inr fun _ _ h => h

theorem State.imageChanged_owed (s : State) (n : Nat) (a b : Image) :
    (s.imageChanged n a b).rj.owed = if a = b then s.rj.owed else oweList s.rj.owed n := by
  unfold State.imageChanged
  split <;> rfl

theorem State.imageChanged_of_eq (s : State) (n : Nat) {a b : Image} (h : a = b) : s.imageChanged n a b = s := by
  unfold State.imageChanged
  rw [if_pos h]

/-- A changed image is owed. -/
theorem State.imageChanged_owes (s : State) (n : Nat) {a b : Image} (h : a ≠ b) : n ∈ (s.imageChanged n a b).rj.owed := by
  rw [State.imageChanged_owed, if_neg h]
  exact oweList_self _ _

theorem State.countTallies_pp' (s : State) (n : Nat) (a b : CellState) : (s.countTallies n a b).pp = s.pp := by simp

theorem State.postChange_pendingRoute (s : State) (n : Nat) (a b : Route) (m : Nat) :
    (s.postChange n a b).pp.pendingRoute m = if a ≠ b ∧ n = m then some b else s.pp.pendingRoute m := by
  unfold State.postChange
  split
  · rename_i h
    simp [h]
  · rename_i h
    rw [State.post_pendingRoute]
    simp [h]

/-- The pending routes after a change of a cell (R14): the new called-for route of the cell when it is another. -/
theorem State.setCell_pendingRoute (s : State) (n : Nat) (c : CellState) (d : DieState) (m : Nat) :
    (s.setCell n c d).pp.pendingRoute m =
      if routeFor (s.re.cell n) (s.re.die n) ≠ routeFor c d ∧ n = m then some (routeFor c d)
      else s.pp.pendingRoute m := by
  unfold State.setCell
  simp only [State.countTallies_pp', State.postChange_pendingRoute, State.imageChanged_pp, State.writeCell_pp]

/-- The owed list after a change of a cell and its die. -/
theorem State.setCell_owed (s : State) (n : Nat) (c : CellState) (d : DieState) :
    (s.setCell n c d).rj.owed =
      let l := if dieImage (s.re.die n) = dieImage d then s.rj.owed else oweList s.rj.owed (dieSubject n)
      if cellImage (s.re.cell n) = cellImage c then l else oweList l (cellSubject n) := by
  unfold State.setCell
  simp only [State.countTallies_rj, State.postChange_rj, State.imageChanged_owed, State.writeCell_rj]

/-- A changed cell image is owed. -/
theorem State.setCell_owes (s : State) (n : Nat) (c : CellState) (d : DieState)
    (h : cellImage (s.re.cell n) ≠ cellImage c) : cellSubject n ∈ (s.setCell n c d).rj.owed := by
  rw [State.setCell_owed]
  simp only [h, if_false]
  exact oweList_self _ _

/-- With both images unchanged nothing is owed and the journal stays as it is. -/
theorem State.setCell_rj (s : State) (n : Nat) (c : CellState) (d : DieState)
    (h1 : cellImage (s.re.cell n) = cellImage c) (h2 : dieImage (s.re.die n) = dieImage d) :
    (s.setCell n c d).rj = s.rj := by
  unfold State.setCell
  simp only [State.countTallies_rj, State.postChange_rj, State.imageChanged_of_eq _ _ h1,
    State.imageChanged_of_eq _ _ h2, State.writeCell_rj]

/-- With the same route called for nothing is posted. -/
theorem State.setCell_pp (s : State) (n : Nat) (c : CellState) (d : DieState)
    (h : routeFor (s.re.cell n) (s.re.die n) = routeFor c d) : (s.setCell n c d).pp = s.pp := by
  unfold State.setCell State.postChange
  simp only [h, if_true, State.countTallies_pp', State.imageChanged_pp, State.writeCell_pp]

/-- With the same counted standing the lines stay as they are. -/
theorem State.setCell_lines (s : State) (n : Nat) (c : CellState) (d : DieState)
    (h : (s.re.cell n).counted = c.counted) : (s.setCell n c d).re.lines = s.re.lines := by
  unfold State.setCell State.countTallies
  simp [h]

/-! ## Lines -/

theorem State.moveTally_line (s : State) (l : Nat) (up : Bool) (m : Nat) :
    (s.moveTally l up).re.line m =
      if l = m then { s.re.line l with tally := if up then (s.re.line l).tally + 1 else (s.re.line l).tally - 1 }
      else s.re.line m := State.setLine_line _ _ _ _

/-- A change of a cell leaves every line's state and repairs undone. -/
theorem State.setCell_line_state (s : State) (n : Nat) (c : CellState) (d : DieState) (l : Nat) :
    ((s.setCell n c d).re.line l).state = (s.re.line l).state := by
  have h0 : ∀ t : State, ∀ b, ((t.moveTally b c.counted).re.line l).state = (t.re.line l).state := by
    intro t b
    rw [State.moveTally_line]
    split
    · rename_i h
      rw [h]
    · rfl
  unfold State.setCell State.countTallies
  dsimp only
  split
  · simp [RepairEngine.line]
  · rw [h0, h0]
    simp [RepairEngine.line]

/-! ## Channels -/

theorem RepairEngine.channel_congr {a b : RepairEngine} (h : a.channels = b.channels) (k : Nat) :
    a.channel k = b.channel k := by
  unfold RepairEngine.channel
  rw [h]

theorem RepairEngine.cell_congr {a b : RepairEngine} (h : a.cells = b.cells) (n : Nat) : a.cell n = b.cell n := by
  unfold RepairEngine.cell
  rw [h]

theorem RepairEngine.die_congr {a b : RepairEngine} (h : a.dies = b.dies) (n : Nat) : a.die n = b.die n := by
  unfold RepairEngine.die
  rw [h]

theorem RepairEngine.line_congr {a b : RepairEngine} (h : a.lines = b.lines) (n : Nat) : a.line n = b.line n := by
  unfold RepairEngine.line
  rw [h]

theorem State.setChannel_owed (s : State) (k : Nat) (v : Channel) :
    (s.setChannel k v).rj.owed = if channelImage (s.re.channel k).state = channelImage v.state then s.rj.owed
      else oweList s.rj.owed (channelSubject k) := by
  unfold State.setChannel
  rw [State.imageChanged_owed, State.withRe_rj]

theorem State.setChannel_rj (s : State) (k : Nat) (v : Channel)
    (h : channelImage (s.re.channel k).state = channelImage v.state) : (s.setChannel k v).rj = s.rj := by
  unfold State.setChannel
  rw [State.imageChanged_of_eq _ _ h, State.withRe_rj]

theorem State.freeNamed_none (s : State) {c : CellState} (h : c.channel = none) : s.freeNamed c = s := by
  unfold State.freeNamed
  rw [h]

theorem State.freeNamed_some (s : State) {c : CellState} {k : Nat} (h : c.channel = some k) :
    s.freeNamed c = s.freeChannel k := by
  unfold State.freeNamed
  rw [h]

theorem State.freeChannel_provings (s : State) (k : Nat) :
    (s.freeChannel k).re.provings = s.re.provings.filter fun p => decide (p.channel ≠ k) := by
  unfold State.freeChannel
  rw [State.setChannel_re_provings]
  unfold State.dropProving
  simp

/-! ## Withdrawal -/

/-- A withdrawal does what `State.withdrawn` says. -/
theorem State.withdraw_withdrawn (s : State) (n : Nat) (c : CellState) : s.withdrawn n c (s.withdraw n c) := by
  have hcell : ∀ m, (((s.dropEntry ⟨.primary, n⟩).dropEntry ⟨.spare, n⟩).freeNamed (s.re.cell n)).re.cell m = s.re.cell m :=
    fun m => RepairEngine.cell_congr (by simp) m
  have hdie : ∀ m, (((s.dropEntry ⟨.primary, n⟩).dropEntry ⟨.spare, n⟩).freeNamed (s.re.cell n)).re.die m = s.re.die m :=
    fun m => RepairEngine.die_congr (by simp) m
  have hchan : ∀ k, (s.withdraw n c).re.channel k =
      (((s.dropEntry ⟨.primary, n⟩).dropEntry ⟨.spare, n⟩).freeNamed (s.re.cell n)).re.channel k :=
    fun k => RepairEngine.channel_congr (by simp [State.withdraw]) k
  have hc : (s.withdraw n c).re.cell n = c := by
    unfold State.withdraw
    rw [State.setCell_cell, if_pos rfl]
  have hd : (s.withdraw n c).re.die n = (s.re.die n).afterLeaving := by
    unfold State.withdraw
    rw [State.setCell_die, if_pos rfl]
  have hdrop : ∀ u v : UnitId, ((s.dropEntry u).dropEntry v).re.channels = s.re.channels := fun u v => by simp
  have others : ∀ m, m ≠ n → (s.withdraw n c).re.cell m = s.re.cell m ∧ (s.withdraw n c).re.die m = s.re.die m := by
    intro m other
    unfold State.withdraw
    rw [State.setCell_cell, State.setCell_die, if_neg other.symm, if_neg other.symm, hcell, hdie]
    exact ⟨rfl, rfl⟩
  have entries : (s.withdraw n c).re.suspects = s.re.suspects.filter fun e => decide (e.unit.cell ≠ n) := by
    unfold State.withdraw
    rw [State.setCell_re_suspects, State.freeNamed_re_suspects]
    unfold State.dropEntry
    simp only [State.withRe_re, List.filter_filter]
    refine List.filter_congr fun e _ => ?_
    obtain ⟨⟨side, m⟩, _, _, _, _⟩ := e
    cases side <;> simp [UnitId.mk.injEq]
  have freed : ∀ k, (s.re.cell n).channel = some k →
      (s.withdraw n c).re.channel k = ⟨.free, (s.re.channel k).strike⟩ := by
    intro k named
    rw [hchan, State.freeNamed_some _ named, State.freeChannel_channel, if_pos rfl,
      RepairEngine.channel_congr (hdrop _ _)]
  have untouched : ∀ k, (s.re.cell n).channel ≠ some k → (s.withdraw n c).re.channel k = s.re.channel k := by
    intro k unnamed
    rw [hchan]
    cases named : (s.re.cell n).channel with
    | none => rw [State.freeNamed_none _ named, RepairEngine.channel_congr (hdrop _ _)]
    | some j =>
      have apart : ¬ j = k := fun same => unnamed (by rw [named, same])
      rw [State.freeNamed_some _ named, State.freeChannel_channel, if_neg apart, RepairEngine.channel_congr (hdrop _ _)]
  have records : (s.withdraw n c).re.provings =
      s.re.provings.filter fun p => decide ((s.re.cell n).channel ≠ some p.channel) := by
    unfold State.withdraw
    rw [State.setCell_re_provings]
    cases named : (s.re.cell n).channel with
    | none =>
      rw [State.freeNamed_none _ named]
      simp
    | some j =>
      rw [State.freeNamed_some _ named, State.freeChannel_provings]
      simp only [State.dropEntry_re_provings]
      exact List.filter_congr fun p _ => by simp [eq_comm]
  have owes : cellImage (s.re.cell n) ≠ cellImage c → cellSubject n ∈ (s.withdraw n c).rj.owed := by
    intro changed
    unfold State.withdraw
    exact State.setCell_owes _ _ _ _ (by rw [hcell]; exact changed)
  refine ⟨(Kept.repairOnly s).withdraw n c (State.repairOnly_refl s), by simp, by simp, hc, hd, others, entries, freed,
    untouched, records, owes, fun moved => ?_⟩
  have hcalled : (s.withdraw n c).re.calledRoute n = routeFor c (s.re.die n).afterLeaving := by
    unfold RepairEngine.calledRoute
    rw [hc, hd]
  rw [hcalled] at moved ⊢
  unfold State.withdraw
  rw [State.setCell_pendingRoute, hcell, hdie, if_pos ⟨moved, rfl⟩]

/-! ## A hold -/

/-- The cells of a list withdrawn one after another. -/
def State.withdrawAll (s : State) (l : List Nat) (c : CellState) : State := l.foldl (fun t n => t.withdraw n c) s

theorem DieState.afterLeaving_idem (d : DieState) : d.afterLeaving.afterLeaving = d.afterLeaving := by
  cases d <;> rfl

theorem State.withdrawAll_cell (l : List Nat) (c : CellState) (s : State) (m : Nat) :
    (s.withdrawAll l c).re.cell m = if m ∈ l then c else s.re.cell m := by
  unfold State.withdrawAll
  induction l generalizing s with
  | nil => simp
  | cons n l ih =>
    rw [List.foldl_cons, ih]
    by_cases h : m ∈ l
    · simp [h]
    · by_cases h' : m = n
      · subst h'
        simp [h, (s.withdraw_withdrawn m c).2.2.2.1]
      · simp [h, h', ((s.withdraw_withdrawn n c).2.2.2.2.2.1 m h').1]

theorem State.withdrawAll_die (l : List Nat) (c : CellState) (s : State) (m : Nat) :
    (s.withdrawAll l c).re.die m = if m ∈ l then (s.re.die m).afterLeaving else s.re.die m := by
  unfold State.withdrawAll
  induction l generalizing s with
  | nil => simp
  | cons n l ih =>
    rw [List.foldl_cons, ih]
    by_cases h' : m = n
    · subst h'
      rw [(s.withdraw_withdrawn m c).2.2.2.2.1]
      simp [DieState.afterLeaving_idem]
    · rw [((s.withdraw_withdrawn n c).2.2.2.2.2.1 m h').2]
      simp [h']

theorem State.withdrawAll_suspects (l : List Nat) (c : CellState) (s : State) :
    (s.withdrawAll l c).re.suspects = s.re.suspects.filter fun e => decide (e.unit.cell ∉ l) := by
  unfold State.withdrawAll
  induction l generalizing s with
  | nil => simp
  | cons n l ih =>
    rw [List.foldl_cons, ih, (s.withdraw_withdrawn n c).2.2.2.2.2.2.1, List.filter_filter]
    exact List.filter_congr fun e _ => by simp [Bool.and_comm]

/-- A channel after its cells are withdrawn: FREE with its strike if one of them names it, else as before. -/
theorem State.withdrawAll_channel (l : List Nat) {c : CellState} (hc : c.channel = none) (s : State) (k : Nat) :
    (s.withdrawAll l c).re.channel k =
      if ∃ n ∈ l, (s.re.cell n).channel = some k then ⟨.free, (s.re.channel k).strike⟩ else s.re.channel k := by
  unfold State.withdrawAll
  induction l generalizing s with
  | nil => simp
  | cons n l ih =>
    rw [List.foldl_cons, ih]
    have hw := s.withdraw_withdrawn n c
    have hcell : ∀ m, ((s.withdraw n c).re.cell m).channel = if m = n then none else (s.re.cell m).channel := by
      intro m
      by_cases h : m = n
      · subst h
        rw [hw.2.2.2.1, hc, if_pos rfl]
      · rw [(hw.2.2.2.2.2.1 m h).1, if_neg h]
    have hch : (s.withdraw n c).re.channel k =
        if (s.re.cell n).channel = some k then ⟨.free, (s.re.channel k).strike⟩ else s.re.channel k := by
      by_cases h : (s.re.cell n).channel = some k
      · rw [if_pos h, hw.2.2.2.2.2.2.2.1 k h]
      · rw [if_neg h, hw.2.2.2.2.2.2.2.2.1 k h]
    rw [hch]
    by_cases h : (s.re.cell n).channel = some k
    · simp [h]
    · have : (∃ m ∈ l, ((s.withdraw n c).re.cell m).channel = some k) ↔ ∃ m ∈ n :: l, (s.re.cell m).channel = some k := by
        simp only [List.mem_cons, exists_eq_or_imp, h, false_or]
        refine exists_congr fun m => and_congr_right fun _ => ?_
        rw [hcell]
        by_cases hm : m = n
        · simp [hm, h]
        · simp [hm]
      simp only [this, h, if_false]

/-- The proving records after cells are withdrawn: those of the channels that none of them names. -/
theorem State.withdrawAll_provings (l : List Nat) {c : CellState} (hc : c.channel = none) (s : State) :
    (s.withdrawAll l c).re.provings =
      s.re.provings.filter fun p => decide (∀ n ∈ l, (s.re.cell n).channel ≠ some p.channel) := by
  unfold State.withdrawAll
  induction l generalizing s with
  | nil => simp
  | cons n l ih =>
    have hw := s.withdraw_withdrawn n c
    rw [List.foldl_cons, ih, hw.2.2.2.2.2.2.2.2.2.1, List.filter_filter]
    refine List.filter_congr fun p _ => ?_
    have hcell : ∀ m, ((s.withdraw n c).re.cell m).channel = if m = n then none else (s.re.cell m).channel := by
      intro m
      by_cases h : m = n
      · subst h
        rw [hw.2.2.2.1, hc, if_pos rfl]
      · rw [(hw.2.2.2.2.2.1 m h).1, if_neg h]
    rw [← Bool.decide_and]
    refine decide_eq_decide.2 ?_
    simp only [hcell, List.forall_mem_cons, and_comm (b := (s.re.cell n).channel ≠ some p.channel)]
    refine and_congr_right fun unnamed => forall₂_congr fun m _ => ?_
    split
    · subst m
      exact iff_of_true (by simp) unnamed
    · rfl

theorem State.withdrawAll_nu (l : List Nat) (c : CellState) (s : State) : (s.withdrawAll l c).nu = s.nu := by
  unfold State.withdrawAll
  induction l generalizing s with
  | nil => rfl
  | cons n l ih => rw [List.foldl_cons, ih, (s.withdraw_withdrawn n c).2.1]

theorem State.withdrawAll_line_state (l : List Nat) (c : CellState) (s : State) (j : Nat) :
    ((s.withdrawAll l c).re.line j).state = (s.re.line j).state := by
  unfold State.withdrawAll
  induction l generalizing s with
  | nil => rfl
  | cons n l ih =>
    rw [List.foldl_cons, ih]
    unfold State.withdraw
    rw [State.setCell_line_state, RepairEngine.line_congr (b := s.re) (by simp)]

/-- What a hold leaves of the repairs undone count (R119). -/
def State.undoneBy (s : State) (l : Nat) : Nat :=
  if l < 192 then 0
  else (((lineCells l).filter fun n => (s.re.cell n).channel.isSome).filter fun n =>
    decide ((s.withdrawAll (lineCells l) (.concealed .line)).re.die n = .good)).length

/-- A hold is the withdrawal of the line's cells, then the line's own change, image and notice (R119 to R121). -/
theorem State.hold_eq (s : State) (l : Nat) :
    s.hold l = (((s.withdrawAll (lineCells l) (.concealed .line)).setLine l ⟨.held, 0, s.undoneBy l⟩).imageChanged
      (lineSubject l) (lineImage (s.re.line l).state) .held).notify (.lineHeld l) := rfl

theorem State.hold_cell (s : State) (l m : Nat) :
    (s.hold l).re.cell m = if m ∈ lineCells l then .concealed .line else s.re.cell m := by
  rw [State.hold_eq, ← State.withdrawAll_cell]
  exact RepairEngine.cell_congr (by simp) m

theorem State.hold_die (s : State) (l m : Nat) :
    (s.hold l).re.die m = if m ∈ lineCells l then (s.re.die m).afterLeaving else s.re.die m := by
  rw [State.hold_eq, ← State.withdrawAll_die _ (.concealed .line)]
  exact RepairEngine.die_congr (by simp) m

theorem State.hold_suspects (s : State) (l : Nat) :
    (s.hold l).re.suspects = s.re.suspects.filter fun e => decide (e.unit.cell ∉ lineCells l) := by
  rw [State.hold_eq, ← State.withdrawAll_suspects _ (.concealed .line)]
  simp

theorem State.hold_channel (s : State) (l k : Nat) :
    (s.hold l).re.channel k =
      if ∃ n ∈ lineCells l, (s.re.cell n).channel = some k then ⟨.free, (s.re.channel k).strike⟩
      else s.re.channel k := by
  rw [State.hold_eq, ← State.withdrawAll_channel _ (c := .concealed .line) rfl]
  exact RepairEngine.channel_congr (by simp) k

theorem State.hold_provings (s : State) (l : Nat) :
    (s.hold l).re.provings =
      s.re.provings.filter fun p => decide (∀ n ∈ lineCells l, (s.re.cell n).channel ≠ some p.channel) := by
  rw [State.hold_eq, ← State.withdrawAll_provings _ (c := .concealed .line) rfl]
  simp

theorem State.hold_line (s : State) (l : Nat) : (s.hold l).re.line l = ⟨.held, 0, s.undoneBy l⟩ := by
  rw [State.hold_eq, State.notify_re, State.imageChanged_re, State.setLine_line, if_pos rfl]

/-- A hold changes the state of its own line only. -/
theorem State.hold_line_state (s : State) (l j : Nat) :
    ((s.hold l).re.line j).state = if j = l then .held else (s.re.line j).state := by
  by_cases h : j = l
  · subst h
    rw [State.hold_line, if_pos rfl]
  · rw [if_neg h, State.hold_eq, State.notify_re, State.imageChanged_re, State.setLine_line, if_neg (Ne.symm h)]
    exact State.withdrawAll_line_state _ _ _ _

theorem State.hold_notice (s : State) (l k : Nat) :
    (s.hold l).notice k =
      if k = 7 then ⟨min ((s.notice 7).count + 1) 255, some (.lineHeld l)⟩ else s.notice k := by
  have h0 : ∀ j, (((s.withdrawAll (lineCells l) (.concealed .line)).setLine l ⟨.held, 0, s.undoneBy l⟩).imageChanged
      (lineSubject l) (lineImage (s.re.line l).state) .held).notice j = s.notice j := by
    intro j
    unfold State.notice
    rw [State.imageChanged_nu, State.setLine_nu, State.withdrawAll_nu]
  rw [State.hold_eq, State.notify_notice, h0, h0]
  by_cases h : k = 7
  · subst h
    rfl
  · rw [if_neg h, if_neg (fun h' => h (h'.symm.trans rfl))]

/-- A line that becomes HELD is owed. -/
theorem State.hold_owes (s : State) (l : Nat) (h : (s.re.line l).state = .normal) :
    lineSubject l ∈ (s.hold l).rj.owed := by
  rw [State.hold_eq, State.notify_rj, h]
  exact State.imageChanged_owes _ _ (by decide)

/-! ## Baselines -/

theorem Table.read_foldl_drop {α β : Type} (d : Nat → α) (key : β → Nat) (l : List β) (t : Table α) (k : Nat) :
    Table.read d (l.foldl (fun t u => Table.drop t (key u)) t) k =
      if k ∈ l.map key then d k else Table.read d t k := by
  induction l generalizing t with
  | nil => simp
  | cons u l ih =>
    rw [List.foldl_cons, ih, Table.read_drop]
    by_cases h : k ∈ l.map key
    · simp [h]
    · by_cases h' : key u = k
      · simp [h', h]
      · have : ¬k = key u := fun h'' => h' h''.symm
        simp [h, h', this]

/-- A clear claim sets the entries it names to NONE and leaves every other one (R47). -/
theorem State.clearClaim_baseline (s : State) (us : List UnitId) (u : UnitId) :
    (s.clearClaim us).su.baseline u = if u.key ∈ us.map UnitId.key then .none else s.su.baseline u :=
  Table.read_foldl_drop _ _ _ _ _

/-! ## The candidate -/

/-- With no condemned entry there is nothing to reconsider (R84). -/
theorem State.reconsider_of_no_candidate (s : State) (h : s.candidate = none) : s.reconsider = s := by
  unfold State.reconsider
  generalize s.re.suspects.length = fuel
  cases fuel with
  | zero => rfl
  | succ f =>
    unfold State.takeCondemned
    rw [h]

end Sys2Proof.Machine
end

