-- ==== Sys2Proof/Laws/Counts.lean ====
section
/-! SUPPORT. What is counted and walked, said once: a canonical table lists exactly what is not the default, the subjects that
are not at their factory image are listed once each in identity order, how many there are, what the snapshot walk finds next,
and which lines a cell lies on. -/

namespace Sys2Proof.Machine

/-! ## Canonical tables list what is not the default -/

/-- A number is listed in a canonical table exactly when it does not read as the default. -/
theorem Table.listed_iff {α : Type} [DecidableEq α] {d : Nat → α} {t : Table α} (h : Table.wf d t) (k : Nat) :
    k ∈ t.map (·.1) ↔ Table.read d t k ≠ d k := by
  induction t with
  | nil => simp
  | cons e t ih =>
    obtain ⟨j, v⟩ := e
    have hp := List.pairwise_cons.1 h.1
    have ht : Table.wf d t := ⟨hp.2, fun e he => h.2 e (List.mem_cons_of_mem _ he)⟩
    have hv : v ≠ d j := h.2 (j, v) List.mem_cons_self
    rw [List.map_cons, List.mem_cons, ih ht, Table.read_cons]
    by_cases hjk : j = k
    · subst hjk
      simp [hv]
    · simp [hjk, Ne.symm hjk]

/-- The numbers that a canonical table lists rise. -/
theorem Table.listed_pairwise {α : Type} [DecidableEq α] {d : Nat → α} {t : Table α} (h : Table.wf d t) :
    (t.map (·.1)).Pairwise (· < ·) := List.pairwise_map.2 h.1

/-! ## The subjects that are not at their factory image (R127) -/

/-- The subjects that the tables list, before the filter that keeps those whose image is not the factory image. -/
def State.listedSubjects (s : State) : List Nat :=
  s.re.cells.map (fun e => cellSubject e.1) ++ s.re.dies.map (fun e => dieSubject e.1) ++
    s.re.channels.map (fun e => channelSubject e.1) ++ s.re.lines.map (fun e => lineSubject e.1) ++
    s.stored.map (fun e => settingSubject e.1)

theorem State.nonFactory_eq (s : State) :
    s.nonFactory = s.listedSubjects.filter fun n => decide (s.imageOf n ≠ factoryImage n) := rfl

/-- What a number listed in one of the tables reads as, in range. -/
theorem Table.listed_lt {α : Type} [DecidableEq α] {d : Nat → α} {t : Table α} (h : Table.wf d t) {bound : Nat}
    (hb : ∀ k, bound ≤ k → Table.read d t k = d k) : ∀ e ∈ t, e.1 < bound := by
  intro e he
  by_contra hle
  exact (Table.listed_iff h e.1).1 (List.mem_map_of_mem he) (hb e.1 (not_lt.1 hle))

/-- A list of numbers that rises from `low` on and stays below `high`. -/
def RisesWithin (low high : Nat) (l : List Nat) : Prop := l.Pairwise (· < ·) ∧ ∀ a ∈ l, low ≤ a ∧ a < high

/-- Two lists that rise in ranges that follow each other rise as one. -/
theorem RisesWithin.append {low middle high : Nat} {l r : List Nat} (hl : RisesWithin low middle l)
    (hr : RisesWithin middle high r) (h : low ≤ middle) (h' : middle ≤ high) : RisesWithin low high (l ++ r) := by
  refine ⟨List.pairwise_append.2 ⟨hl.1, hr.1, fun a ha b hb => (hl.2 a ha).2.trans_le (hr.2 b hb).1⟩, fun a ha => ?_⟩
  rcases List.mem_append.1 ha with hal | har
  · exact ⟨(hl.2 a hal).1, (hl.2 a hal).2.trans_le h'⟩
  · exact ⟨h.trans (hr.2 a har).1, (hr.2 a har).2⟩

/-- The subjects of one kind that a canonical table lists rise within the kind's range, which begins at `first`. -/
theorem Table.subjects_rise {α : Type} [DecidableEq α] {d : Nat → α} {t : Table α} (ht : Table.wf d t) {count : Nat}
    (hb : ∀ k, count ≤ k → Table.read d t k = d k) (first : Nat) (subject : Nat → Nat)
    (hs : ∀ k, subject k = first + k) : RisesWithin first (first + count) (t.map fun e => subject e.1) := by
  refine ⟨List.pairwise_map.2 (ht.1.imp fun hab => by rw [hs, hs]; omega), fun a ha => ?_⟩
  obtain ⟨e, he, rfl⟩ := List.mem_map.1 ha
  have := Table.listed_lt ht hb e he
  rw [hs]
  omega

section

variable {s : State} (hc : s.tablesCanonical) (hr : s.inRange)
include hc hr

/-- The listed subjects rise, and every one of them is a subject (R126). -/
theorem State.listedSubjects_rise : RisesWithin 0 19483 s.listedSubjects := by
  have cells := Table.subjects_rise hc.2.2.1.1 (fun k hk => (hr.1 k hk).1) 0 cellSubject fun k => (Nat.zero_add k).symm
  have dies := Table.subjects_rise hc.2.2.1.2.1 (fun k hk => (hr.1 k hk).2) 9216 dieSubject fun _ => rfl
  have channels := Table.subjects_rise hc.2.2.1.2.2.1 hr.2.1 18432 channelSubject fun _ => rfl
  have lines := Table.subjects_rise hc.2.2.1.2.2.2 hr.2.2.1 19200 lineSubject fun _ => rfl
  have settings := Table.subjects_rise hc.2.2.2.2.1 hr.2.2.2.1 19440 settingSubject fun _ => rfl
  exact (((cells.append dies (by omega) (by omega)).append channels (by omega) (by omega)).append lines (by omega)
    (by omega)).append settings (by omega) (by omega)

/-- The subjects that are not at their factory image stand in identity order. -/
theorem State.nonFactory_pairwise : s.nonFactory.Pairwise (· < ·) :=
  (State.listedSubjects_rise hc hr).1.filter _

/-- A subject is listed as not at its factory image exactly when it is a subject and its image is another one. -/
theorem State.mem_nonFactory (n : Nat) : n ∈ s.nonFactory ↔ n < 19483 ∧ s.imageOf n ≠ factoryImage n := by
  rw [State.nonFactory_eq, List.mem_filter, decide_eq_true_eq]
  refine and_congr_left fun hne => ⟨fun h => ?_, fun h => ?_⟩
  · exact ((State.listedSubjects_rise hc hr).2 n h).2
  · have place : ∀ {α : Type} [DecidableEq α] {d : Nat → α} {t : Table α}, Table.wf d t → ∀ (k : Nat) (f : Nat → Nat),
        Table.read d t k ≠ d k → f k ∈ t.map fun e => f e.1 := by
      intro α _ d t ht k f hk
      obtain ⟨e, he, rfl⟩ := List.mem_map.1 ((Table.listed_iff ht k).2 hk)
      exact List.mem_map_of_mem he
    simp only [State.listedSubjects, List.mem_append]
    by_cases a1 : n < 9216
    · refine Or.inl (Or.inl (Or.inl (Or.inl (place hc.2.2.1.1 n cellSubject fun hd => hne ?_))))
      simp only [State.imageOf, factoryImage, a1, if_true, RepairEngine.cell]
      rw [hd]
      rfl
    · by_cases a2 : n < 18432
      · have hn : n = dieSubject (n - 9216) := by
          simp only [dieSubject]
          omega
        refine Or.inl (Or.inl (Or.inl (Or.inr ?_)))
        rw [hn]
        refine place hc.2.2.1.2.1 (n - 9216) dieSubject fun hd => hne ?_
        simp only [State.imageOf, factoryImage, a1, a2, if_true, if_false, RepairEngine.die]
        rw [hd]
        rfl
      · by_cases a3 : n < 19200
        · have hn : n = channelSubject (n - 18432) := by
            simp only [channelSubject]
            omega
          refine Or.inl (Or.inl (Or.inr ?_))
          rw [hn]
          refine place hc.2.2.1.2.2.1 (n - 18432) channelSubject fun hd => hne ?_
          simp only [State.imageOf, factoryImage, a1, a2, a3, if_true, if_false, RepairEngine.channel]
          rw [hd]
          rfl
        · by_cases a4 : n < 19440
          · have hn : n = lineSubject (n - 19200) := by
              simp only [lineSubject]
              omega
            refine Or.inl (Or.inr ?_)
            rw [hn]
            refine place hc.2.2.1.2.2.2 (n - 19200) lineSubject fun hd => hne ?_
            simp only [State.imageOf, factoryImage, a1, a2, a3, a4, if_true, if_false, RepairEngine.line]
            rw [hd]
            rfl
          · have hn : n = settingSubject (n - 19440) := by
              simp only [settingSubject]
              omega
            refine Or.inr ?_
            rw [hn]
            refine place hc.2.2.2.2.1 (n - 19440) settingSubject fun hd => hne ?_
            simp only [State.imageOf, factoryImage, a1, a2, a3, a4, if_false, State.storedSetting]
            rw [hd]

/-- The live image count is right exactly when it is the number of the listed subjects. -/
theorem State.liveCounted_iff : s.liveCounted ↔ s.rj.liveImages = s.nonFactory.length := by
  have hperm : s.nonFactory.Perm ((List.range 19483).filter fun n => decide (s.imageOf n ≠ factoryImage n)) :=
    (List.perm_ext_iff_of_nodup ((State.nonFactory_pairwise hc hr).imp fun h => h.ne)
      (List.nodup_range.filter _)).2 fun n => by
        rw [State.mem_nonFactory hc hr, List.mem_filter, List.mem_range, decide_eq_true_eq]
  rw [State.liveCounted, List.countP_eq_length_filter, ← hperm.length_eq]

/-- What the snapshot walk finds from a subject on: the least one whose image is not its factory image. -/
theorem State.nonFactory_next (start n : Nat) (hn : n < 19483) (hs : start ≤ n) (hi : s.imageOf n ≠ factoryImage n)
    (hm : ∀ m, start ≤ m → m < n → s.imageOf m = factoryImage m) :
    (s.nonFactory.find? fun m => decide (start ≤ m)) = some n := by
  have hp := State.nonFactory_pairwise hc hr
  have hmem := (State.mem_nonFactory hc hr n).2 ⟨hn, hi⟩
  obtain ⟨front, back, heq⟩ := List.append_of_mem hmem
  rw [heq] at hp ⊢
  have hfront : ∀ m ∈ front, ¬start ≤ m := by
    intro m hmf hsm
    have hlt : m < n := (List.pairwise_append.1 hp).2.2 m hmf n List.mem_cons_self
    have hmn : m ∈ s.nonFactory := heq ▸ List.mem_append_left _ hmf
    exact ((State.mem_nonFactory hc hr m).1 hmn).2 (hm m hsm hlt)
  rw [List.find?_append, List.find?_eq_none.2 fun m hmf => by simpa using hfront m hmf]
  simp [hs]

/-- The snapshot walk finds nothing from a subject on when every later subject is at its factory image. -/
theorem State.nonFactory_none (start : Nat) (hm : ∀ m < 19483, start ≤ m → s.imageOf m = factoryImage m) :
    (s.nonFactory.find? fun m => decide (start ≤ m)) = none :=
  List.find?_eq_none.2 fun m hmf => by
    have := (State.mem_nonFactory hc hr m).1 hmf
    simpa using fun hsm => this.2 (hm m this.1 hsm)

end

/-! ## Lines and cells (R7) -/

/-- A cell lies on its own C-line and its own R-line, and on no other line. -/
theorem mem_lineCells (l n : Nat) (hl : l < 240) (hn : n < 9216) : n ∈ lineCells l ↔ l = cLineOf n ∨ l = rLineOf n := by
  unfold lineCells cLineOf rLineOf columnOf colourOf rowOf
  split
  · simp only [List.mem_map, List.mem_range, cellAt]
    constructor
    · rintro ⟨row, hrow, rfl⟩
      omega
    · intro h
      refine ⟨n / 3 / 64, ?_, ?_⟩ <;> omega
  · simp only [List.mem_map, List.mem_range, cellAt]
    constructor
    · rintro ⟨i, hi, rfl⟩
      omega
    · intro h
      refine ⟨n - (l - 192) * 192, ?_, ?_⟩ <;> omega

end Sys2Proof.Machine
end

