-- ==== Sys2Proof/Tests/Slice0.lean ====
section
/-! SUPPORT. Tests of Slice 0: ill-formed commands, worked examples of the manual, and for the statements of
Certificates/Slice0/Obligations.lean a state and operands that meet their hypotheses, clause by clause. -/

-- One theorem at a time: each proof has the checker's memory to itself.
set_option Elab.async false

namespace Sys2Proof.Tests

open Sys2Proof.Machine

/-! ## Small states -/

/-- A part in operation: START-UP cleared, a LIVE feed on port A, an active bank 0 of generation 7, an IDLE writer. -/
def running : State := { State.reset with
  clk := ⟨.running, false, false, .none, 20000, 0, 0⟩
  pp := { PixelPath.reset with startUp := false, frame := 9, frameStartAt := 16000 }
  ci := { ChainInterface.reset with
    portA := ⟨true, some 16667, false, 4000, false⟩
    forward := { DirectionState.reset with hop := some 1, inFrame := true }
    feed := some .a
    leftNone := true }
  rj := { Journal.resetWith ⟨7, true, []⟩ Bank.erased with active := some .zero } }

/-- The running part with another Repair Engine. -/
def withEngine (r : RepairEngine) : State := { running with re := r }
/-- The running part with another journal. -/
def withJournal (j : Journal) : State := { running with rj := j }
/-- The running part with another Sense Unit and an open gap. -/
def withGap (u : SenseUnit) : State :=
  { running with su := u, pp := { running.pp with gap := some ⟨50, 9⟩, nextGap := 51 } }
/-- A request to the tile by hop on lane A. -/
def ask (body : List Byte) : Request := ⟨.a, 1, 1, 7, body⟩
/-- A frame head. -/
def head : HeadRecord := ⟨0x1234, 0, 200, 3, 2⟩
/-- A moment 12,667 microseconds later, at 25 °C. -/
def later : Moment := ⟨12667, 25000⟩
/-- The state an outcome gives. -/
def stateOf (o : Host.Outcome State Fault Refusal) : Option State :=
  match o with
  | .next s => some s
  | .fault _ => none
  | .refused _ => none
/-- The replies that wait in the FORWARD direction after a command. -/
def replies (c : Instr) (s : State) : Option (List (Byte × List Byte)) :=
  (stateOf (exec c s)).map fun t => t.ci.forward.queue.map fun r => (r.status, r.body)

/-! ## Ill-formed commands, which the check refuses -/

theorem test_line_row_is_checked : Instr.wellFormed (.line .a ⟨4096, 0, [⟨1, 2, 3⟩]⟩) = false := by decide +kernel
theorem test_line_column_is_checked : Instr.wellFormed (.line .a ⟨0, 4096, [⟨1, 2, 3⟩]⟩) = false := by decide +kernel
theorem test_line_count_is_checked : Instr.wellFormed (.line .a ⟨0, 0, []⟩) = false := by decide +kernel
theorem test_line_is_well_formed : Instr.wellFormed (.line .a ⟨4095, 4095, [⟨1, 2, 3⟩]⟩) = true := by decide +kernel
/-- A slot's state is 0 or 1. -/
theorem test_slot_state_is_checked :
    Instr.wellFormed (.replySlot .b ⟨2, 0, 0, 0, 0, 0, 0, 0, 0, 0, 0, List.replicate 48 0⟩) = false := by decide +kernel
/-- A slot's body length is at most 48. -/
theorem test_slot_body_length_is_checked :
    Instr.wellFormed (.replySlot .b ⟨0, 0, 0, 0, 0, 0, 0, 0, 0, 0, 49, List.replicate 48 0⟩) = false := by decide +kernel
/-- A slot's body area has 48 bytes. -/
theorem test_slot_area_is_checked :
    Instr.wellFormed (.replySlot .b ⟨0, 0, 0, 0, 0, 0, 0, 0, 0, 0, 0, []⟩) = false := by decide +kernel
theorem test_request_body_is_checked : Instr.wellFormed (.get (ask (List.replicate 25 0))) = false := by decide +kernel
theorem test_known_kind_is_checked : Instr.wellFormed (.unknownKind (ask []) 27) = false := by decide +kernel
theorem test_unknown_kinds_are_well_formed :
    Instr.wellFormed (.unknownKind (ask []) 0) = true ∧ Instr.wellFormed (.unknownKind (ask []) 28) = true := by decide +kernel
theorem test_good_record_is_no_bad_one :
    Instr.wellFormed (.recordBadCheck .a (TailRecord.bytes ⟨0, 0⟩)) = false := by decide +kernel
theorem test_record_with_a_bad_check_is_one :
    Instr.wellFormed (.recordBadCheck .a [5, 0, 0, 0, 0, 0]) = true := by decide +kernel
theorem test_cut_slots_are_checked :
    Instr.wellFormed (.supplyFail ⟨false, 1025⟩) = false ∧ Instr.wellFormed (.resetPinAssert ⟨false, 1025⟩) = false ∧
    Instr.wellFormed (.supplyFail ⟨false, 1024⟩) = true := by decide +kernel

/-! ## Worked examples of the manual -/

/-- The check code of the nine ASCII digits is the one that fixes the polynomial, the initial value and the bit order
(R156). -/
theorem test_check_code : checkCode [0x31, 0x32, 0x33, 0x34, 0x35, 0x36, 0x37, 0x38, 0x39] = 0x29B1#16 := by decide +kernel

/-- The correction table of R43: TEMPCO 4 and 15. -/
theorem test_corrections :
    [(-20 : Int), 0, 27, 30, 33, 46, 70, 75].map (fun t => (correction (some t) 4, correction (some t) 15)) =
    [(-12, -46), (-7, -28), (0, -2), (0, 0), (0, 2), (4, 15), (10, 37), (11, 42)] := by decide +kernel

/-- The worked classifications a to g (R44). -/
theorem test_worked_classification :
    let c := fun (raw : Nat) (t : Int) (tempco : Nat) (b : Baseline) =>
      (compensated raw (some t) tempco, running.classify raw (compensated raw (some t) tempco) b)
    c 1023 40 4 (.set 512) = (1021, .bad .openFault) ∧ c 812 40 4 .none = (810, .bad .openFault) ∧
    c 45 70 4 (.set 480) = (35, .bad .shortFault) ∧ c 35 0 4 .none = (42, .good) ∧
    c 790 (-20) 15 (.set 800) = (836, .bad .driftFault) ∧ c 10 75 15 (.set 300) = (0, .bad .shortFault) ∧
    c 487 27 4 (.set 500) = (487, .good) := by decide +kernel

/-- The worked baseline of cell 2608: four counts learned, then one tick up (R46). -/
theorem test_worked_baseline :
    ([500, 502, 499, 504].foldl Baseline.next .none = .set 501) ∧ Baseline.next (.set 501) 506 = .set 502 := by decide +kernel

/-! ## The statements' hypotheses are met: the step and the invariants -/

/-- A Repair Engine with a proving whose next frame start is the 120th, a SPARED cell, a HELD C-line and a suspect. -/
def engine : RepairEngine where
  cells := [(5, .pendingSpare .proving 0), (6, .suspect), (15, .spared 4)]
  dies := [(15, .good)]
  channels := [(0, ⟨.proving 5, 1⟩), (4, ⟨.bound 15, 0⟩)]
  lines := [(5, ⟨.normal, 1, 0⟩), (15, ⟨.normal, 1, 0⟩), (192, ⟨.normal, 2, 0⟩)]
  suspects := [⟨⟨.primary, 6⟩, .openFault, 1, 60, 3⟩]
  provings := [⟨5, 0, .proving, 1, 119⟩]
  budget := 1

/-- The maps of `engine` agree. -/
theorem engine_consistent : engine.consistent := by
  refine ⟨?_, ?_, ?_, ?_, ?_⟩
  · intro n k
    simp only [RepairEngine.cell, RepairEngine.channel, engine, Table.read]
    refine ⟨?_, ?_, ?_⟩ <;> split_ifs <;> simp_all <;> omega
  · intro p hp
    simp only [engine, List.mem_singleton] at hp
    subst hp; decide
  · intro e he
    simp only [engine, List.mem_singleton] at he
    subst he; decide
  · intro l h
    simp only [RepairEngine.line, engine, Table.read] at h
    split_ifs at h
  · intro n h
    simp only [RepairEngine.die, engine, Table.read] at h
    split_ifs at h

/-- A part at every bound: full queues, 8 requests considered, a notice count of 255, 32 entries, 8 proving slots. -/
def brimming : State := { running with
  pending := [.frameTimerExpiry 25000]
  ci := { running.ci with
    forward := { running.ci.forward with queue := List.replicate 8 ⟨0, 1, 0, 0, []⟩, considered := 8 } }
  nu := [(13, ⟨255, none⟩)]
  re := { RepairEngine.reset with
    suspects := (List.range 32).map fun n => ⟨⟨.primary, n⟩, .driftFault, 1, 9, 0⟩
    provings := (List.range 8).map fun n => ⟨100 + n, n, .proving, 0, 0⟩ }
  rj := { running.rj with owed := [5, 19440] } }

/-- Hypotheses of StepRunsTheFrontCommand: an empty queue. -/
theorem test_meets_StepRunsTheFrontCommand : running.pending = [] := by decide +kernel

/-- Hypotheses of StepsKeepEveryBound. -/
theorem test_meets_StepsKeepEveryBound :
    (∃ t, step brimming = .next t) ∧ brimming.ci.bounded ∧ noticesBounded brimming.nu ∧ brimming.re.listBounded ∧
    brimming.re.slotsBounded ∧ brimming.rj.owedOnce := by
  constructor
  · exact ⟨_, rfl⟩
  · unfold ChainInterface.bounded DirectionState.bounded noticesBounded noticesCanonical RepairEngine.listBounded
      RepairEngine.slotsBounded Journal.owedOnce
    decide +kernel

/-- The part with every kind of table in use: `engine`, a live and a stored setting, a notice and a survey's cursor. -/
def listed : State := { withEngine engine with
  pending := [.frameTimerExpiry 25000]
  live := [(13, 5)]
  stored := [(13, 5)]
  su := { running.su with baselines := [(70, .set 500)], survey := some ⟨2, 0, 1, 0, [(0, ⟨5, false⟩)]⟩ }
  nu := [(9, ⟨1, some (.surveyEnded .done 1 5 0)⟩)]
  rj := { running.rj with liveImages := 2 } }

/-- Every table of `listed` is canonical. -/
theorem listed_canonical : listed.tablesCanonical := by
  have senses : listed.su.canonical := by
    constructor
    · decide +kernel
    · intro v found
      cases found
      decide +kernel
  refine ⟨senses, ?_⟩
  unfold PixelPath.canonical RepairEngine.canonical settingsCanonical noticesCanonical
  decide +kernel

/-- A table whose numbers lie below a bound reads as its default from there on. -/
theorem reads_default {α : Type} {d : Nat → α} {t : Table α} {bound k : Nat}
    (below : (t.all fun entry => decide (entry.1 < bound)) = true) (far : bound ≤ k) : Table.read d t k = d k :=
  Table.read_of_not_mem fun entry listed =>
    Nat.ne_of_lt (Nat.lt_of_lt_of_le (of_decide_eq_true (List.all_eq_true.1 below entry listed)) far)

/-- Every cell of `engine` that names a channel names one of its own group. -/
theorem engine_own_group (n k : Nat) (named : (engine.cell n).channel = some k) : groupOfChannel k = groupOf n := by
  simp only [RepairEngine.cell, engine, Table.read] at named
  split_ifs at named <;> cases named <;> subst_vars <;> decide

/-- The numbers of a part with `engine` are in range. -/
theorem inRange_of_engine {s : State} (repair : s.re = engine) (cursor : s.su.sweepCursor < 9216)
    (stored : (s.stored.all fun entry => decide (entry.1 < 43)) = true) (idle : s.su.inFlight = none) : s.inRange := by
  unfold State.inRange
  rw [repair, idle]
  refine ⟨fun n far => ⟨?_, ?_⟩, fun k far => ?_, fun l far => ?_, fun i far => reads_default stored far, engine_own_group,
    cursor, fun m u purpose channel measured => by cases measured⟩
  · unfold RepairEngine.cell
    exact reads_default (t := engine.cells) (bound := 9216) (by decide +kernel) far
  · unfold RepairEngine.die
    exact reads_default (t := engine.dies) (bound := 9216) (by decide +kernel) far
  · unfold RepairEngine.channel
    exact reads_default (t := engine.channels) (bound := 768) (by decide +kernel) far
  · unfold RepairEngine.line
    exact reads_default (t := engine.lines) (bound := 240) (by decide +kernel) far

/-- The numbers of `listed` are in range. -/
theorem listed_inRange : listed.inRange :=
  inRange_of_engine rfl (by decide +kernel) (by decide +kernel) rfl

/-- Hypotheses of StepsKeepTheTablesCanonical. -/
theorem test_meets_StepsKeepTheTablesCanonical :
    listed.tablesCanonical ∧ ∃ t, step listed = .next t := ⟨listed_canonical, _, rfl⟩

/-- A running part without a reset is orderly when its journal is. -/
theorem orderly_of_running {s : State} (work : s.rj.orderly) (runs : s.operating = true)
    (free : (s.clk.pinHeld || s.clk.powerReset) = false) : s.orderly := by
  refine ⟨work, fun stands => ?_, fun reset => ?_⟩
  · cases runs.symm.trans stands
  · rw [← Bool.or_eq_true] at reset
    cases reset.symm.trans free

/-- The suspect list of `listed` obeys its law. -/
theorem listed_lawful : listed.suspectsLawful := by
  refine ⟨by decide +kernel, ?_, ?_⟩
  · intro e found
    simp only [listed, withEngine, engine, List.mem_singleton] at found
    subst found
    refine ⟨by decide, by decide, fun condemned => ?_, fun full => ?_⟩
    · cases condemned
    · exact absurd full (by decide)
  · intro u doubted
    have primary : u = ⟨.primary, 6⟩ := by
      obtain ⟨side, n⟩ := u
      cases side <;>
        simp only [RepairEngine.isSuspected, RepairEngine.isCondemned, RepairEngine.cell, RepairEngine.die, listed,
          withEngine, engine, Table.read] at doubted <;> split_ifs at doubted <;> simp_all
    exact ⟨⟨⟨.primary, 6⟩, .openFault, 1, 60, 3⟩, by decide, primary.symm⟩

/-- Hypotheses of StepsKeepTheRepairMapsConsistent: maps that agree, numbers and settings in range, tallies and live image
count that are right, a lawful suspect list, and an orderly journal, in one state. -/
theorem test_meets_StepsKeepTheRepairMapsConsistent :
    listed.re.consistent ∧ listed.inRange ∧ listed.re.tallied ∧ listed.liveCounted ∧ listed.orderly ∧
    listed.settingsInRange ∧ listed.suspectsLawful ∧ listed.restsUntilOperation ∧ ∃ t, step listed = .next t := by
  have counted := (State.liveCounted_iff listed_canonical listed_inRange).2 (by decide +kernel)
  have inside : listed.settingsInRange := by unfold State.settingsInRange; decide +kernel
  have sums : listed.re.tallied := by unfold RepairEngine.tallied; decide +kernel
  exact ⟨engine_consistent, listed_inRange, sums, counted, orderly_of_running ⟨rfl, rfl⟩ rfl rfl, inside, listed_lawful,
    fun stands => absurd stands (by decide), _, rfl⟩

/-- Hypotheses of StepsKeepTheRepairMapsConsistent about a part at rest: one whose bank scan ends next. -/
theorem test_meets_APartAtRest :
    (let s : State := { State.reset with
       clk := ⟨.starting, false, false, .none, 4000, 0, 0⟩, pending := [.replayEnd later] }
     s.operating = false ∧ s.orderly ∧ s.restsUntilOperation ∧ ∃ t, step s = .next t ∧ t.operating = true) := by
  intro s
  have free : (s.clk.pinHeld || s.clk.powerReset) = false := rfl
  have still : s.orderly := ⟨⟨rfl, rfl⟩, fun _ => rfl, fun reset => by simp_all⟩
  have rests : s.restsUntilOperation := fun _ => by decide +kernel
  exact ⟨rfl, still, rests, _, rfl, by decide +kernel⟩

/-- The running part with `engine` and a table of active routes. -/
def withRoutes (t : Table Route) : State := { running with pp := { running.pp with active := t }, re := engine }

/-- Hypotheses of StepsKeepTheRepairMapsConsistent about the routes: a part in operation in which every route follows. -/
theorem test_meets_RoutesThatFollow :
    ∃ t, (withRoutes t).pp.canonical ∧ (withRoutes t).pp.startUp = false ∧ (withRoutes t).restsUntilOperation ∧
      (withRoutes t).routesFollow := by
  obtain ⟨t, shows, called⟩ : ∃ t, Table.wf (fun _ => Route.blank) t ∧
      ∀ n < 9216, Table.read (fun _ => Route.blank) t n = engine.calledRoute n :=
    ⟨Table.ofFunction (fun _ => Route.blank) 9216 engine.calledRoute, Table.wf_ofFunction _ _ _,
      fun n shown => (Table.read_ofFunction _ _ _ n).trans (if_pos shown)⟩
  have empty : ∀ {α : Type} [DecidableEq α] (d : Nat → α), Table.wf d [] := fun d => ⟨List.Pairwise.nil, by simp⟩
  have operates : (withRoutes t).operating = true := rfl
  exact ⟨t, ⟨shows, empty _, empty _, empty _, empty _⟩, rfl, fun stands => absurd (operates.symm.trans stands) nofun,
    fun _ n shown => called n shown⟩

/-! ## Reset, power and start-up -/

/-- Hypotheses of SupplyFailureAndResetPinStopThePart, clause by clause: no reset, the power-up reset, the pin held. -/
theorem test_meets_SupplyFailureAndResetPinStopThePart :
    running.clk.powerReset = false ∧ running.clk.pinHeld = false ∧
    (let t := stateOf (exec (.supplyFail ⟨false, 0⟩) running)
     t.map (fun s => (s.clk.powerReset, s.clk.pinHeld)) = some (true, false)) ∧
    (let t := stateOf (exec (.resetPinAssert ⟨true, 1024⟩) running)
     t.map (fun s => (s.clk.powerReset, s.clk.pinHeld)) = some (false, true)) := by decide +kernel

/-- A record slot with a mark and a check code that is not its content's (R129). -/
def damagedSlot : Slot := .marked 5 .healthy 0

/-- The journal with a bank erase, header write or mark write in progress for a compaction of bank 0 into bank 1. -/
def operationRunning (op : Operation) (step : CompactionStep) : Journal :=
  { running.rj with operation := some op, writer := .compacting step, bank1 := ⟨0, false, [.torn, damagedSlot]⟩ }

/-- The journal with a record write in progress, `used` slots used and some failures running. -/
def recordRunning (used failures : Nat) : Journal :=
  { running.rj with
    writer := .writing, record := some ⟨5, .spared 0⟩, failures := failures
    bank0 := ⟨7, true, List.replicate used .torn⟩ }

/-- Hypotheses of CutWorkLeavesTheBanksAsStated: a record write, and each of the three operations; both values of the mark,
and both ends of the range of slots left. -/
theorem test_meets_CutWorkLeavesTheBanksAsStated :
    (withJournal (recordRunning 1023 0)).rj.writesTo = some .zero ∧ (recordRunning 1023 0).operation = none ∧
    (operationRunning .erase .erase).record = none ∧ (operationRunning .erase .erase).newBank = .one ∧
    (operationRunning .header .erase).operation = some .header ∧
    (operationRunning .mark .finish).operation = some .mark ∧
    (stateOf (exec (.supplyFail ⟨true, 0⟩) (withJournal (recordRunning 0 0)))).map (fun s => s.rj.bank0.slots) =
      some [.complete 5 (.spared 0)] ∧
    (stateOf (exec (.supplyFail ⟨false, 1⟩) (withJournal (operationRunning .erase .erase)))).map
      (fun s => s.rj.bank1.slots) = some [.torn] ∧
    (stateOf (exec (.resetPinAssert ⟨true, 1024⟩) (withJournal (operationRunning .header .erase)))).map
      (fun s => s.rj.bank1) = some ⟨8, false, [.torn, damagedSlot]⟩ := by decide +kernel

/-- The running part with a RESET that waits for the next frame start. -/
def resetDue : State := { running with clk := { running.clk with reset := .ready } }

/-- Hypotheses of ResetPointClearsTheBlocks. -/
theorem test_meets_ResetPointClearsTheBlocks :
    resetDue.forwarding = true ∧ resetDue.clk.reset = .ready ∧ resetDue.rj.record = none ∧
    resetDue.rj.operation = none ∧ running.clk.reset ≠ .ready := by decide +kernel

/-- Hypotheses of StartUpRunsThroughTheSettle: each of its five clauses. -/
theorem test_meets_StartUpRunsThroughTheSettle :
    (let s : State := { State.reset with clk := ⟨.off, false, true, .none, 0, 0, 0⟩ }
     s.clk.powerReset = true ∧ s.clk.pinHeld = false) ∧
    (let s : State := { State.reset with clk := ⟨.off, true, true, .none, 0, 0, 0⟩ }
     s.clk.powerReset = true ∧ s.clk.pinHeld = true) ∧
    (let s : State := { State.reset with clk := ⟨.off, true, false, .none, 0, 0, 0⟩ }
     s.clk.pinHeld = true ∧ s.clk.powerReset = false) ∧
    State.reset.clk.phase = .settling ∧
    (stateOf (exec .oscillatorSettle State.reset)).map (fun s => (s.clk.now, s.clk.phase)) =
      some (4000, .starting) := by decide +kernel

/-- Hypotheses of SupplyLowAndGoodActAsStated: nothing and something in progress, and a LOW supply. -/
theorem test_meets_SupplyLowAndGoodActAsStated :
    running.clk.powerReset = false ∧ running.operating = true ∧ running.cm.supply = .good ∧
    running.rj.record = none ∧ running.rj.operation = none ∧ (recordRunning 0 0).record ≠ none ∧
    (stateOf (exec .supplyLow running)).map (fun s => (s.cm.supply, s.rj.writer, s.operating, s.clk.powerReset)) =
      some (.low, .held false, true, false) := by decide +kernel

/-- Hypotheses of SupplyLowAndGoodActAsStated where a stop waits: the ends of the new bank's erase, of its header write and
of the old bank's erase, with subjects that the walk took. -/
theorem test_meets_StopsThatWait :
    (let stopping := fun (j : Journal) => withJournal { j with stopping := true, owed := [7], walkTaken := [5, 7] }
     let seen := fun (c : Instr) (j : Journal) => (stateOf (exec c (stopping j))).map fun t =>
       ((t.rj.writer, t.rj.due), t.rj.owed, t.rj.bank1)
     (stopping (operationRunning .erase .erase)).operating = true ∧ (operationRunning .erase .erase).compacting = true ∧
     (stopping (operationRunning .header .erase)).rj.operation = some .header ∧
     seen (.bankEraseEnd true) (operationRunning .erase .erase) =
       some ((.held false, true), [7, 5], ⟨0, false, []⟩) ∧
     seen (.headerWriteEnd true) { operationRunning .header .erase with bank1 := ⟨0, false, []⟩ } =
       some ((.held false, true), [7, 5], ⟨8, false, []⟩) ∧
     seen (.bankEraseEnd true) { operationRunning .erase .erase with writer := .erasingOld } =
       some ((.held false, false), [7], ⟨0, false, []⟩)) := by decide +kernel

/-- Hypotheses of SupplyLowAndGoodActAsStated in reset: the reset pin is held while the supply goes LOW and GOOD again, and the
scale follows (R39). -/
theorem test_meets_SupplyInReset :
    (let held : State := { State.reset with clk := ⟨.off, true, false, .none, 0, 0, 0⟩ }
     held.clk.powerReset = false ∧ held.forwarding = false ∧
     (stateOf (exec .supplyLow held)).map (fun t => (t.pp.scaleDerate, t.nu)) = some (40, []) ∧
     (stateOf (exec (.supplyGood 5) { held with
       cm := ConditionMonitor.resetWith .low, pp := { held.pp with scaleDerate := 40 } })).map
       (fun t => (t.pp.scaleDerate, t.cm.supply, t.nu)) = some (100, .good, [])) := by decide +kernel

/-- The running part with a Condition Monitor of its own. -/
def withMonitor (t : Thermal) (d : Derate) (countdown : Option Nat) : State :=
  { running with cm := ⟨some 30, t, d, countdown, false, .good⟩ }

/-- Hypotheses of TheCountdownStepsTheDerateLevel: HOT, WARM at the lowest level, NORMAL one below 100 %. -/
theorem test_meets_TheCountdownStepsTheDerateLevel :
    (withMonitor .hot .d40 (some 70000)).cm.thermal = .hot ∧ (withMonitor .warm .d40 (some 70000)).cm.thermal = .warm ∧
    (withMonitor .normal .d80 (some 70000)).cm.countdown = some 70000 ∧
    (stateOf (exec .derateCountdownExpiry (withMonitor .warm .d40 (some 70000)))).map (fun s => s.cm.derate) =
      some .d40 ∧
    (stateOf (exec .derateCountdownExpiry (withMonitor .normal .d80 (some 70000)))).map
      (fun s => (s.cm.derate, s.cm.countdown)) = some (.d100, none) := by decide +kernel

/-- Hypotheses of SamplesAreRoundedAndMoveTheThermalState at the edges of its ranges, with limits 5 °C apart. -/
theorem test_meets_SamplesAreRoundedAndMoveTheThermalState :
    (70 : Int) + 5 ≤ 75 ∧ Thermal.after .normal 75 70 75 = .hot ∧ Thermal.after .normal 74 70 75 = .warm ∧
    Thermal.after .hot 71 70 75 = .hot ∧ Thermal.after .hot 70 70 75 = .warm ∧ Thermal.after .hot 69 70 75 = .warm ∧
    Thermal.after .warm 66 70 75 = .warm ∧ Thermal.after .warm 65 70 75 = .normal ∧
    roundDegrees (-40000) = -40 ∧ roundDegrees (-40001) = -40 ∧ roundDegrees 125000 = 125 ∧
    roundDegrees 30501 = 31 ∧ roundDegrees 30499 = 30 := by decide +kernel

/-- The part at the end of start-up with two banks. -/
def starting (bank0 bank1 : Bank) : State :=
  { State.reset with clk := ⟨.starting, false, false, .none, 4000, 0, 0⟩, rj := Journal.resetWith bank0 bank1 }

/-- Hypotheses of ReplayEndBringsThePartIntoOperation: every case of the bank scan, and the three forms of the writer. -/
theorem test_meets_ReplayEndBringsThePartIntoOperation :
    (starting Bank.erased Bank.erased).clk.phase = .starting ∧ (starting Bank.erased Bank.erased).clk.reset ≠ .ready ∧
    (let f := fun (a b : Bank) => (stateOf (exec (.replayEnd ⟨9, 25000⟩) (starting a b))).map
      fun t => (t.rj.active, t.rj.writer)
     f Bank.erased Bank.erased = some (none, .compacting .erase) ∧
     f ⟨3, true, []⟩ ⟨0, false, [.torn]⟩ = some (some .zero, .idle) ∧
     f ⟨0, false, []⟩ ⟨3, true, []⟩ = some (some .one, .idle) ∧
     f ⟨16777215, true, []⟩ ⟨0, true, []⟩ = some (some .one, .idle) ∧
     f ⟨4, true, []⟩ ⟨3, true, List.replicate 3 damagedSlot⟩ = some (some .zero, .idle) ∧
     f ⟨3, true, List.replicate 895 .torn⟩ Bank.erased = some (some .zero, .idle) ∧
     f ⟨3, true, List.replicate 896 .torn⟩ Bank.erased = some (some .zero, .compacting .erase)) := by decide +kernel

/-- The part after start-up with two banks and a supply. -/
def started (a b : Bank) (supply : Supply) : Option State :=
  stateOf (exec (.replayEnd ⟨9, 25000⟩) { starting a b with cm := { (starting a b).cm with supply := supply } })

/-- Hypotheses of ReplayEndBringsThePartIntoOperation about JOURNAL: fresh, a conflict with the greater generation in bank 1
and with equal ones, damaged records, and none of these. -/
theorem test_meets_ReplayEndRaisesJournal :
    (started Bank.erased Bank.erased .good).map (fun t => (t.rj.active, t.rj.damaged, t.notice 14)) =
      some (none, 0, ⟨1, some (.journal .fresh)⟩) ∧
    (started ⟨3, true, []⟩ ⟨5, true, []⟩ .good).map (fun t => (t.rj.active, t.rj.damaged, t.notice 14)) =
      some (some .one, 0, ⟨1, some (.journal .bankConflict)⟩) ∧
    (started ⟨5, true, [damagedSlot, .complete 5 .dead]⟩ ⟨5, true, []⟩ .good).map
      (fun t => (t.rj.active, t.rj.damaged, t.notice 14)) =
      some (some .zero, 2, ⟨3, some (.journal .damagedRecord)⟩) ∧
    (started ⟨3, true, [.torn]⟩ Bank.erased .good).map (fun t => (t.rj.active, t.rj.damaged, t.notice 14)) =
      some (some .zero, 0, ⟨0, none⟩) := by decide +kernel

/-- Hypotheses of ReplayEndBringsThePartIntoOperation about a LOW supply, at 895 and 896 used slots and without a bank. -/
theorem test_meets_ReplayEndWithALowSupply :
    (started Bank.erased Bank.erased .low).map (fun t => (t.rj.writer, t.rj.due)) = some (.held false, true) ∧
    (started ⟨3, true, List.replicate 895 .torn⟩ Bank.erased .low).map (fun t => (t.rj.writer, t.rj.due)) =
      some (.held false, false) ∧
    (started ⟨3, true, List.replicate 896 .torn⟩ Bank.erased .low).map (fun t => (t.rj.writer, t.rj.due)) =
      some (.held false, true) := by decide +kernel

/-- The part whose writer start-up settles, with 896 used slots and 961 live images. -/
def crammed (supply : Supply) : State := { starting Bank.erased Bank.erased with
  cm := { (starting Bank.erased Bank.erased).cm with supply := supply }
  rj := { Journal.resetWith ⟨3, true, List.replicate 896 .torn⟩ Bank.erased with
    active := some .zero, liveImages := 961 } }

/-- The FULL writer of ReplayEndBringsThePartIntoOperation, and the HELD one that a LOW supply makes of it. -/
theorem test_meets_StartUpFillsTheWriter :
    896 ≤ (crammed .good).rj.used ∧ 960 < (crammed .good).rj.liveImages ∧
    (crammed .good).startWriter.rj.writer = .full ∧
    (crammed .good).startWriter.notice 14 = ⟨1, some (.journal .full)⟩ ∧
    (crammed .low).startWriter.rj.writer = .held true := by decide +kernel

/-- Hypotheses of ReplayAndReconciliationRebuildTheTables: a fitting image that no later record of the subject replaces. -/
theorem test_meets_ReplayAndReconciliationRebuildTheTables :
    imageFits 15 (.spared 4) = true ∧ imageFits 15 (.spared 0) = false ∧ imageFits 9215 (.concealed .line) = false ∧
    imageFits 18431 .dead = true ∧ imageFits 18432 .dead = false ∧ imageFits 19199 .failed = true ∧
    imageFits 19439 .held = true ∧ imageFits 19482 (.value 7) = true ∧ imageFits 19482 (.value 8) = false ∧
    imageFits 19483 (.value 0) = false ∧
    Replayed.cellState (Replayed.applyAll [] 0 [.complete 15 (.spared 4)]) 15 = .spared 4 ∧
    (Replayed.image (Replayed.applyAll [] 0 [.complete 15 (.spared 4), .complete 15 (.spared 0), .torn]) 15 =
      .spared 4) := by decide +kernel

/-- Hypotheses of the second and third clause of ReplayAndReconciliationRebuildTheTables: no record of the subject. -/
theorem test_meets_ReplayWithoutARecord : ∀ other, Slot.complete 5 other ∈ [Slot.torn, .marked 6 .healthy 0] →
    imageFits 5 other = false := by
  intro other h
  simp [Slot.complete] at h

/-- Hypotheses of ReplayAndReconciliationRebuildTheTables about REPLAY-END: a part at rest whose active bank holds records of
every kind, with a FAILED channel and with thermal limits 3 °C apart. -/
theorem test_meets_ReplayLeavesTheTables :
    (let t := started ⟨3, true, [.complete 15 (.spared 4), .complete 16 (.spared 5), .complete (channelSubject 5) .failed,
        .complete (dieSubject 30) .dead, .complete (settingSubject 20) (.value 82),
        .complete (settingSubject 13) (.value 5)]⟩ Bank.erased .good
     t.map (fun t => ([15, 16].map t.re.cell, [15, 16, 30].map t.re.die)) =
       some ([.spared 4, .concealed .dieDead], [.good, .untried, .dead]) ∧
     t.map (fun t => ([4, 5].map t.re.channel, t.re.lines)) = some ([⟨.bound 15, 0⟩, ⟨.failed, 0⟩],
        [(15, ⟨.normal, 1, 0⟩), (16, ⟨.normal, 1, 0⟩), (192, ⟨.normal, 2, 0⟩)]) ∧
     t.map (fun t => ([13, 20, 21].map t.setting, t.rj.owed, t.rj.liveImages)) = some ([5, 70, 85], [], 5)) ∧
    (started ⟨3, true, [.complete (lineSubject 239) .held]⟩ Bank.erased .good).map
      (fun t => (t.re.line 239, t.re.cell 9215, t.re.cell 0)) = some (⟨.held, 0, 0⟩, .concealed .line, .healthy) := by
  decide +kernel

/-- A record written whole has its check code; a slot with another one is damaged, sets nothing, and is counted (R129,
R141). -/
theorem test_check_code_of_a_record :
    recordCheck 15 (.spared 4) = checkCode [0, 15, 1, 0, 4] ∧ (Slot.complete 15 (.spared 4)).isDamaged = false ∧
    damagedSlot.isDamaged = true ∧ (0 : Half) ≠ checkCode (byte2 5 ++ Image.bytes .healthy) ∧
    Replayed.image (Replayed.applyAll [] 0 [.complete 15 (.spared 4), .marked 15 .healthy 0]) 15 = .spared 4 ∧
    [Slot.torn, .complete 5 .dead, .complete 5 .healthy, damagedSlot].countP Slot.unusable = 2 := by decide +kernel

/-! ## The chain -/

/-- A feed NONE after a loss, or before the first head. -/
def feedNone (leftNone : Bool) : State :=
  { running with ci := { ChainInterface.reset with leftNone := leftNone } }

/-- The running part with RETURN TO PREFERRED on, the feed on port B and a return count. -/
def returning (count : Nat) : State := { running with
  live := [(25, 1)]
  ci := { ChainInterface.reset with
    portB := ⟨true, none, false, 10000, false⟩, feed := some .b, leftNone := true, returnCount := count } }

/-- Hypotheses of HeadsAreForwardedWithTheirHopRaised, at hop count 255, and for a record with a bad check. -/
theorem test_meets_HeadsAreForwardedWithTheirHopRaised :
    running.forwarding = true ∧ running.clk.reset ≠ .ready ∧ goodRecord [1, 0] = false ∧
    (stateOf (exec (.frameHead .b { head with hopCount := 255 } later) running)).map (fun t => t.ci.reverse.hop) =
      some (some 255) := by decide +kernel

/-- Hypotheses of AHeadOnTheLiveFeedMeasuresAndOpensACapture: a period within and one past the tolerance, an empty history
and a void interval. -/
theorem test_meets_AHeadOnTheLiveFeedMeasuresAndOpensACapture :
    running.ci.feed = some .a ∧ (running.ci.port .a).live = true ∧ running.ci.pendingSwitch = none ∧
    (running.ci.port .a).history = some 16667 ∧ (running.ci.port .a).voided = false ∧
    cadenceDiffers 16667 (32667 - 4000) (running.setting 26) = true ∧
    cadenceDiffers 100 (100 + running.setting 26) (running.setting 26) = false ∧
    cadenceDiffers 100 (101 + running.setting 26) (running.setting 26) = true ∧
    (running.setPort .a { running.ci.portA with history := none }).ci.portA.history = none ∧
    (running.voidInterval .a).ci.portA.voided = true := by decide +kernel

/-- Hypotheses of AHeadBringsTheFeedOutOfNone, before the first change and after one. -/
theorem test_meets_AHeadBringsTheFeedOutOfNone :
    (feedNone false).ci.feed = none ∧ (feedNone false).forwarding = true ∧ (feedNone true).ci.leftNone = true ∧
    (stateOf (exec (.frameHead .b head later) (feedNone false))).map (fun t => (t.ci.feed, (t.notice 10).count)) =
      some (some .b, 0) := by decide +kernel

/-- Hypotheses of TheReturnCountBringsTheFeedBack, at 119 and at 118. -/
theorem test_meets_TheReturnCountBringsTheFeedBack :
    (returning 119).forwarding = true ∧ (returning 119).setting 25 = 1 ∧ (returning 119).ci.pendingSwitch = none ∧
    (returning 119).ci.feed = some (otherPort (returning 119).preferredPort) ∧
    (returning 118).ci.returnCount < 119 ∧
    (stateOf (exec (.feedReturn head later) (returning 119))).map (fun t => (t.ci.feed, (t.notice 10).count)) =
      some (some .a, 1) ∧
    (stateOf (exec (.feedReturn head later) (returning 118))).map (fun t => (t.ci.feed, t.ci.returnCount)) =
      some (some .b, 118) := by decide +kernel

/-- Hypotheses of APortIsLostAfter100Milliseconds: the feed with and without another LIVE port, the pending switch, and a
port that is neither. -/
theorem test_meets_APortIsLostAfter100Milliseconds :
    (let both := running.setPort .b ⟨true, none, false, 0, false⟩
     (both.ci.port .a).live = true ∧ both.ci.feed = some .a ∧ (both.ci.port (otherPort .a)).live = true ∧
     both.ci.feed ≠ some .b ∧ both.ci.pendingSwitch ≠ some .b ∧
     (let pending : State := both.withCi { both.ci with pendingSwitch := some .b }
      pending.ci.feed ≠ none ∧ pending.ci.pendingSwitch = some .b)) ∧
    (running.ci.port (otherPort .a)).live = false ∧ Port.a = running.preferredPort := by decide +kernel

/-- Hypotheses of APortIsLostAfter100Milliseconds about a head while a switch is pending, on either port, and about a capture
in progress when the feed is lost. -/
theorem test_meets_APendingSwitch :
    (let s : State := { running.setPort .b ⟨true, none, false, 0, false⟩ with
       pp := { running.pp with captureOpen := true, filling := ⟨[(9, 1)], false, 7, 7⟩, received := [(3, true)] } }
     let pending : State := s.withCi { s.ci with pendingSwitch := some .b }
     let seen := fun (lane : Port) => (stateOf (exec (.frameHead lane head later) pending)).map fun t =>
       ((t.ci.feed, t.ci.pendingSwitch), (t.notice 10).count, t.pp.captureOpen)
     let lost := fun (lane : Port) => (stateOf (exec (.portLossWatchdog lane 25000) pending)).map fun t =>
       (t.pp.captureOpen, t.pp.filling, t.pp.received.isEmpty)
     seen .b = some ((some .b, none), 1, true) ∧ seen .a = some ((some .a, none), 0, true) ∧
     lost .a = some (false, ⟨[], false, 0, 0⟩, true) ∧ lost .b = some (false, ⟨[], false, 0, 0⟩, true)) := by decide +kernel

/-- A part with an open capture under the default window. -/
def capturing : State := { running with pp := { running.pp with captureOpen := true } }

/-- Hypotheses of ALineIsTakenIntoTheWindow, at the last row and column of the window, and for a row outside it. -/
theorem test_meets_ALineIsTakenIntoTheWindow :
    capturing.forwarding = true ∧ LineRecord.inRange ⟨47, 63, [⟨1, 2, 3⟩, ⟨4, 5, 6⟩]⟩ = true ∧
    capturing.ci.feed = some .a ∧ capturing.pp.filling.dark = false ∧ capturing.pp.window.wallRow 47 = 47 ∧
    capturing.pp.window.wallColumn 63 = 63 + 0 ∧ running.pp.captureOpen = false ∧
    (∀ row < 48, capturing.pp.window.wallRow row ≠ 48) ∧
    (stateOf (exec (.line .a ⟨47, 63, [⟨1, 2, 3⟩, ⟨4, 5, 6⟩]⟩) capturing)).map
      (fun t => t.pp.filling.pixels) = some [(9213, 1), (9214, 2), (9215, 3)] := by decide +kernel

/-- A REPLY SLOT without a reply. -/
def emptySlot : SlotRecord := ⟨0, 0, 0, 0, 0, 0, 0, 0, 0, 0, 0, List.replicate 48 0⟩

/-- The running part with the DONE reply of a RESET queued. -/
def resetAnswered : State := { running with
  clk := { running.clk with reset := .waiting .a }
  ci := { running.ci with forward := { running.ci.forward with queue := [⟨7, 5, 0, 9, []⟩] } } }

/-- Hypotheses of ASlotTakesTheOldestReply: the DONE reply of a RESET, another reply, a FILLED slot, an empty queue. -/
theorem test_meets_ASlotTakesTheOldestReply :
    SlotRecord.inRange emptySlot = true ∧ emptySlot.state = 0 ∧ running.ci.forward.queue = [] ∧
    SlotRecord.inRange { emptySlot with state := 1 } = true ∧ running.clk.reset ≠ .waiting .a ∧
    (stateOf (exec (.replySlot .a emptySlot) resetAnswered)).map (fun t => (t.clk.reset, t.ci.forward.queue)) =
      some (.ready, []) := by decide +kernel

/-- Hypotheses of ASlotTakesTheOldestReply about the flags: priorities of 0..7, nothing pending, and two kinds pending. -/
theorem test_meets_ReplyFlags :
    (∀ k < 15, running.setting (28 + k) ≤ 7) ∧ (∀ k < 15, (running.notice k).count = 0) ∧
    running.replyFlags .a = 8 ∧
    State.replyFlags { running with nu := [(0, ⟨1, none⟩), (13, ⟨1, none⟩)] } .a = 1 := by decide +kernel

/-- Hypotheses of TailsAreMarkedWhileAttentionIsSet: a tail on the port that is not the feed. -/
theorem test_meets_TailsAreMarkedWhileAttentionIsSet :
    running.forwarding = true ∧ running.ci.feed ≠ some .b ∧
    State.attention { running with nu := [(14, ⟨1, none⟩)] } = true ∧ running.attention = false := by decide +kernel

/-- Hypotheses of TailsAreMarkedWhileAttentionIsSet on the feed port: LIVE, and not LIVE with an open capture. -/
theorem test_meets_TailsOnTheFeedPort :
    (let lost : State := { capturing.setPort .a { capturing.ci.portA with live := false } with
       nu := [(14, ⟨1, none⟩)] }
     capturing.ci.feed = some .a ∧ (capturing.ci.port .a).live = true ∧ capturing.clk.reset ≠ .ready ∧
     lost.ci.feed = some .a ∧ (lost.ci.port .a).live = false ∧
     (stateOf (exec (.frameTail .a ⟨255, 0⟩ later) lost)).map
       (fun t => (t.pp.captureOpen, t.pp.frame, t.ci.forward.sent, t.ci.forward.inFrame)) =
       some (false, 9, TailRecord.bytes ⟨255, 0⟩, false)) := by decide +kernel

/-- Hypotheses of ATailOnTheLiveFeedStartsAFrame: a complete FILLING (a DARK frame) and none. -/
theorem test_meets_ATailOnTheLiveFeedStartsAFrame :
    running.ci.feed = some .a ∧ (running.ci.port .a).live = true ∧ running.clk.reset ≠ .ready ∧
    running.pp.complete = false ∧ capturing.pp.complete = false ∧
    PixelPath.complete { capturing.pp with filling := ⟨[], true, 200, 5⟩ } = true := by decide +kernel

/-- Hypotheses of ADamagedRecordVoidsTheInterval: a bad check, and a good check on a length that no type has. -/
theorem test_meets_ADamagedRecordVoidsTheInterval :
    goodRecord [5, 0, 0, 0, 0, 0] = false ∧ goodCheck [5, 0, 0, 0, 0, 0] = false ∧
    goodRecord (sealed [5, 0]) = false ∧ goodCheck (sealed [5, 0]) = true := by decide +kernel

/-! ## Frame starts and the pixel path -/

/-- Hypotheses of TheFrameTimerStartsARepeatedFrame, at a repeat count of 29 and at another. -/
theorem test_meets_TheFrameTimerStartsARepeatedFrame :
    (let s : State := { running with pp := { running.pp with repeats := 29 } }
     s.forwarding = true ∧ s.clk.reset ≠ .ready ∧ s.pp.repeats = 29 ∧
     (stateOf (exec (.stale 25000) s)).map (fun t => (t.pp.repeats, t.pp.stale)) = some (30, true)) ∧
    running.pp.repeats ≠ 29 := by decide +kernel

/-- What a frame start of the frame timer makes of a Condition Monitor. -/
def sampled (cm : ConditionMonitor) (sensor : Int) : Option (ConditionMonitor × Nat × SenseStatus) :=
  (stateOf (exec (.frameTimerExpiry sensor) { running with cm := cm })).map fun t =>
    (t.cm, (t.notice 13).count, t.su.status)

/-- Hypotheses of TheFrameTimerStartsARepeatedFrame about the thermal state: each change of it, and none. -/
theorem test_meets_FrameStartsSampleTheTemperature :
    sampled ⟨some 30, .normal, .d100, none, false, .good⟩ 70000 =
      some (⟨some 70, .warm, .d100, some 600049400, false, .good⟩, 1, .ok) ∧
    sampled ⟨some 30, .warm, .d60, some 90000000, false, .good⟩ 85000 =
      some (⟨some 85, .hot, .d60, some 60049400, false, .good⟩, 1, .hold) ∧
    sampled ⟨some 30, .hot, .d60, none, true, .good⟩ 80000 =
      some (⟨some 80, .warm, .d60, some 600049400, false, .good⟩, 1, .hold) ∧
    sampled ⟨some 30, .hot, .d100, none, true, .good⟩ 30000 =
      some (⟨some 30, .normal, .d100, none, false, .good⟩, 1, .ok) ∧
    sampled ⟨some 30, .normal, .d100, none, false, .good⟩ 69000 =
      some (⟨some 69, .normal, .d100, none, false, .good⟩, 0, .ok) := by
  decide +kernel

/-- What a frame start makes of a survey, and what it raises. -/
def surveyedAt (dark : Bool) (sensor : Int) : Option (Option Survey × Notice) :=
  (stateOf (exec (.frameTimerExpiry sensor) { running with
    pp := { running.pp with showing := ⟨[], dark, 0, 0⟩ }
    su := { running.su with survey := some ⟨1, 0, 5, 2, []⟩ } })).map fun t => (t.su.survey, t.notice 9)

/-- The expected period that a frame start latches with a monitor of the feed port. -/
def expectedWith (m : PortMonitor) : Option Nat :=
  (stateOf (exec (.frameTimerExpiry 25000) (running.setPort .a m))).map fun t => t.pp.expected

/-- Hypotheses of TheFrameTimerStartsARepeatedFrame about the survey, the expected period and the due counts. -/
theorem test_meets_FrameStartsMoveEveryBlock :
    (surveyedAt true 25000 = some (some ⟨1, 0, 5, 2, []⟩, ⟨0, none⟩) ∧
     surveyedAt false 25000 = some (none, ⟨1, some (.surveyEnded .cut 0 5 2)⟩) ∧
     surveyedAt true (-21000) = some (none, ⟨1, some (.surveyEnded .cut 0 5 2)⟩)) ∧
    (expectedWith ⟨true, some 8299, false, 0, false⟩ = some 8300 ∧
     expectedWith ⟨true, some 41701, false, 0, false⟩ = some 41700 ∧
     expectedWith ⟨true, none, false, 0, false⟩ = some (running.setting 4 * 100) ∧
     expectedWith ⟨false, none, false, 0, false⟩ = some (running.setting 4 * 100)) ∧
    (stateOf (exec (.frameTimerExpiry 25000) (withEngine { RepairEngine.reset with
      cells := [(6, .suspect), (7, .suspect)]
      suspects := [⟨⟨.primary, 6⟩, .openFault, 2, 0, 3⟩, ⟨⟨.primary, 7⟩, .openFault, 1, 60, 3⟩] }))).map
      (fun t => t.re.suspects.map (·.due)) = some [0, 59] := by decide +kernel

/-- Hypotheses of AFrameStartAppliesThePendingRoutes: a pending route in operation, START-UP in operation, start-up. -/
theorem test_meets_AFrameStartAppliesThePendingRoutes :
    (running.post 5 (.spare 0)).pp.canonical ∧ running.re.suspects = [] ∧ running.re.provings = [] ∧
    running.operating = true ∧ running.pp.startUp = false ∧
    (stateOf (exec (.frameTimerExpiry 25000) (running.post 5 (.spare 0)))).map (fun t => t.pp.active) =
      some [(5, .spare 0)] := by
  unfold PixelPath.canonical
  decide +kernel

/-- Hypotheses of AFrameStartAppliesThePendingRoutes about the route that a cell's state calls for. -/
theorem test_meets_CalledRoutes :
    engine.cell 0 = .healthy ∧ engine.cell 6 = .suspect ∧ engine.cell 15 = .spared 4 ∧ engine.die 15 = .good ∧
    engine.cell 5 = .pendingSpare .proving 0 ∧ engine.calledRoute 15 = .spare 4 ∧
    (let r : RepairEngine := { engine with dies := [(15, .condemned)] }
     r.die 15 = .condemned ∧ r.calledRoute 15 = .blank) := by decide +kernel

/-- Hypotheses of TheActiveRouteDrivesTheCell: black, and lit at the last row, column and colour. -/
theorem test_meets_TheActiveRouteDrivesTheCell :
    (47 < 48 ∧ 63 < 64 ∧ 2 < 3) ∧ State.reset.black = true ∧ running.black = false ∧ running.forwarding = true ∧
    State.cLineDrive { running with pp := { running.pp with
      active := [(9215, .primary)], showing := ⟨[(9215, 65535)], false, 255, 0⟩, scaleBrightness := 255 } } 47 191 =
      65535 ∧
    running.pp.gap = none ∧ (withGap SenseUnit.reset).pp.gap ≠ none ∧ (withGap SenseUnit.reset).black = false := by
  decide +kernel

/-- A spare channel carries the cell it is connected to, and nothing for a cell it has left inside the frame (R6, R31). -/
theorem test_meets_TheActiveRouteDrivesTheCell_spare :
    let s : State := { running with re := engine, pp := { running.pp with
      active := [(15, .spare 4)], showing := ⟨[(15, 65535)], false, 255, 0⟩, scaleBrightness := 255 } }
    let left : State := { s with re := { engine with channels := [(4, ⟨.proving 16, 0⟩)] } }
    s.black = false ∧ s.forwarding = true ∧ s.pp.gap = none ∧ s.pp.route 15 = .spare 4 ∧
    (s.re.channel 4).state = .bound 15 ∧ s.spareDrive 15 4 = 65535 ∧
    left.black = false ∧ left.pp.route 15 = .spare 4 ∧ left.spareDrive 15 4 = 0 ∧ left.spareDrive 16 4 = 0 := by
  decide +kernel

/-- Hypotheses of AProvingTimesOutAt120Frames. -/
theorem test_meets_AProvingTimesOutAt120Frames :
    (withEngine engine).forwarding = true ∧ (withEngine engine).clk.reset ≠ .ready ∧
    (withEngine engine).re.consistent ∧ ⟨5, 0, .proving, 1, 119⟩ ∈ (withEngine engine).re.provings ∧
    (stateOf (exec (.provingTimeout 25000) (withEngine engine))).map
      (fun t => (t.re.cell 5, t.re.channel 0, (t.notice 2).count)) =
      some (.concealed .unproven, ⟨.free, 1⟩, 1) :=
  ⟨by decide +kernel, by decide +kernel, engine_consistent, by decide +kernel, by decide +kernel⟩

/-! ## Measuring -/

/-- The running part in which gap `g` opens next, with a Repair Engine and a survey. -/
def beforeGap (g : Nat) (r : RepairEngine) (v : Option Survey) : State :=
  { running with re := r, pp := { running.pp with nextGap := g }, su := { SenseUnit.reset with survey := v } }

/-- A Repair Engine with a proving and a due entry, both in row 0. -/
def claims : RepairEngine := { engine with
  suspects := [⟨⟨.primary, 6⟩, .openFault, 1, 0, 3⟩], provings := [⟨5, 0, .proving, 0, 1⟩] }

/-- A Repair Engine whose last cell of row 0 is the row's only qualifying one from position 190 on. -/
def rowEnd : RepairEngine := { RepairEngine.reset with cells := [(190, .concealed .ordered)] }

/-- Hypotheses of TheArbiterGrantsTheGap: gap 0, HOLD, FAULTED, a proving, a retest, the sweep in its row, in another row
and at its rate, and the survey's last position of a row. -/
theorem test_meets_TheArbiterGrantsTheGap :
    (beforeGap 383 claims none).mayOpenGap = true ∧ (beforeGap 0 claims none).su.status ≠ .hold ∧
    State.provingClaim (beforeGap 48 claims none) (48 % 48) = some ⟨5, 0, .proving, 0, 1⟩ ∧
    State.provingClaim (beforeGap 48 { claims with provings := [] } none) 0 = none ∧
    (State.retestClaim (beforeGap 48 { claims with provings := [] } none) 0).isSome = true ∧
    State.retestClaim (beforeGap 48 RepairEngine.reset none) 0 = none ∧
    State.sweepNext (beforeGap 48 RepairEngine.reset none) = some 0 ∧ rowOf 0 = 48 % 48 ∧ rowOf 0 ≠ 49 % 48 ∧
    (beforeGap 48 RepairEngine.reset none).su.sweepCount < running.setting 11 ∧
    (let s := beforeGap 48 rowEnd (some ⟨4, 0, 0, 0, [(0, ⟨190, false⟩)]⟩)
     s.mayOpenGap = true ∧ s.su.status = .ok ∧ s.provingClaim 0 = none ∧ s.retestClaim 0 = none ∧
     s.re.servingUnit (0 * 192 + 190) = none ∧ s.re.servingUnit (0 * 192 + 191) = some (⟨.primary, 191⟩, none)) := by
  decide +kernel

/-- A survey whose rows from 1 on are wrapped. -/
def nearPassEnd (requested position : Nat) : Survey :=
  ⟨requested, 0, 7, 2, (0, ⟨position, false⟩) :: (List.range 47).map fun row => (row + 1, ⟨0, true⟩)⟩

/-- What the opening of gap 48 makes of a survey, where nothing from position 190 of row 0 on qualifies. -/
def searched (v : Survey) : Option (Option Survey × Nat × Bool) :=
  (stateOf (exec .rowGapOpen (beforeGap 48 { RepairEngine.reset with
    cells := [(190, .concealed .ordered), (191, .concealed .ordered)] } (some v)))).map fun t =>
      (t.su.survey, (t.notice 9).count, t.su.inFlight.isSome)

/-- Hypotheses of TheArbiterGrantsTheGap about a search that finds nothing: a row that is not the pass's last, the last one of
a pass, the last one of the survey, and a row already wrapped. -/
theorem test_meets_ASearchThatFindsNothing :
    (let first := fun (c : Cursor) => (⟨1, 0, 7, 2, [(0, c)]⟩ : Survey)
     let wrapped := first ⟨0, true⟩
     searched (first ⟨190, false⟩) = some (some wrapped, 0, false) ∧ searched wrapped = some (some wrapped, 0, false)) ∧
    searched (nearPassEnd 2 190) = some (some ⟨2, 1, 7, 2, []⟩, 0, false) ∧
    searched (nearPassEnd 1 191) = some (none, 1, false) := by decide +kernel

/-- Hypotheses of TheArbiterGrantsTheGap about the claims: a serving spare, a cell that nothing serves, and a sweep whose next
cell lies before its cursor. -/
theorem test_meets_Claims :
    engine.servingUnit 15 = some (⟨.spare, 15⟩, some 4) ∧ engine.servingUnit 6 = none ∧
    engine.pulseChannel ⟨.spare, 15⟩ = some 4 ∧
    (let s := beforeGap 48 { RepairEngine.reset with cells := [(9215, .suspect)] } none
     State.sweepNext { s with su := { s.su with sweepCursor := 9215 } } = some 0) := by decide +kernel

/-- Hypotheses of CountsAreCompensatedClassifiedAndLearned where its clauses meet. -/
theorem test_meets_CountsAreCompensatedClassifiedAndLearned :
    compensated 1023 (some 30) 15 = 1023 ∧ compensated 1023 (some (-20)) 15 = 1023 ∧ compensated 0 (some 75) 15 = 0 ∧
    running.setting 6 ≤ 800 ∧ 799 < running.setting 6 ∧ 39 < running.setting 7 ∧ running.setting 7 ≤ 40 ∧
    running.classify 799 524 (.set 500) = .good ∧ running.classify 799 525 (.set 500) = .bad .driftFault := by
  decide +kernel

/-- A measurement in flight in frame 9 at 25 °C. -/
def measuring (g : Grant) : Measurement := ⟨g, 50, 9, some 25, false, false, false, false⟩

/-- The running part with a measurement in flight and a Repair Engine. -/
def measured (g : Grant) (r : RepairEngine) : State :=
  { withGap { SenseUnit.reset with inFlight := some (measuring g) } with re := r }

/-- Hypotheses of AGapEndCountsItsVerdict: an unused gap, a GOOD verdict, and a cut pulse. -/
theorem test_meets_AGapEndCountsItsVerdict :
    (withGap SenseUnit.reset).su.inFlight = none ∧
    (measured (.unit ⟨.primary, 70⟩ .sweep none) RepairEngine.reset).pp.gap.isSome = true ∧
    (stateOf (exec (.rowGapEnd 500 false) (measured (.unit ⟨.primary, 70⟩ .sweep none) RepairEngine.reset))).map
      (fun t => (t.su.goodCount, t.su.baseline ⟨.primary, 70⟩)) = some (1, .learning 1 501) ∧
    rawCount 500 true false = 1023 := by decide +kernel

/-- What a bad SURVEY verdict at the last cell of its row makes of a survey. -/
def surveyedLast (wraps : Bool) (v : Survey) : Option (Option Survey × Notice) :=
  (stateOf (exec (.rowGapEnd 1023 false) (withGap { SenseUnit.reset with
    survey := some v
    inFlight := some ⟨.unit ⟨.primary, 191⟩ .survey none, 48, 9, some 25, false, false, true, wraps⟩ }))).map fun t =>
      (t.su.survey, t.notice 9)

/-- Hypotheses of AGapEndCountsItsVerdict about a survey: a verdict inside its row, and at its row's end before, at and after
which the pass and the survey end. -/
theorem test_meets_ASurveyedVerdict :
    (surveyedLast false ⟨1, 0, 7, 2, [(0, ⟨5, false⟩)]⟩).map Prod.fst = some (some ⟨1, 0, 8, 3, [(0, ⟨5, false⟩)]⟩) ∧
    (surveyedLast true ⟨1, 0, 7, 2, []⟩).map Prod.fst = some (some ⟨1, 0, 8, 3, [(0, ⟨0, true⟩)]⟩) ∧
    surveyedLast true (nearPassEnd 2 0) = some (some ⟨2, 1, 8, 3, []⟩, ⟨0, none⟩) ∧
    surveyedLast true (nearPassEnd 1 0) = some (none, ⟨1, some (.surveyEnded .done 1 8 3)⟩) := by decide +kernel

/-- Hypotheses of ThreeReferenceResultsMoveTheCondition: good and bad results at the tolerance's edges. -/
theorem test_meets_ThreeReferenceResultsMoveTheCondition :
    (measured .reference RepairEngine.reset).su.inFlight = some (measuring .reference) ∧
    (measured .reference RepairEngine.reset).pp.gap.isSome = true ∧
    running.referenceGood 496 = true ∧ running.referenceGood 528 = true ∧ running.referenceGood 495 = false ∧
    running.referenceGood 529 = false ∧
    (let f := fun (c : RefCondition) (bad good ticks : Nat) =>
      (stateOf (exec (.rowGapEnd ticks false) (withGap { SenseUnit.reset with
        inFlight := some (measuring .reference), condition := c, badRun := bad, goodRun := good }))).map
        fun t => (t.su.condition, t.su.badRun, t.su.goodRun)
     f .sound 2 0 529 = some (.failed, 0, 0) ∧ f .sound 1 0 495 = some (.sound, 2, 0) ∧
     f .failed 0 2 528 = some (.sound, 0, 0) ∧ f .failed 0 1 496 = some (.failed, 0, 2)) := by decide +kernel

/-- Hypotheses of ThreeReferenceResultsMoveTheCondition in a HOLD frame: the condition moves both ways, the status stays. -/
theorem test_meets_AReferenceResultInAHoldFrame :
    (let f := fun (c : RefCondition) (ticks : Nat) => (stateOf (exec (.rowGapEnd ticks false) (withGap { SenseUnit.reset with
       inFlight := some (measuring .reference), condition := c, status := .hold, badRun := 2, goodRun := 2 }))).map
         fun t => (t.su.condition, t.su.status, (t.notice 12).count)
     f .sound 529 = some (.failed, .hold, 1) ∧ f .failed 528 = some (.sound, .hold, 1)) := by decide +kernel

/-! ## Suspects, decisions, provings -/

/-- Hypotheses of ABadVerdictAdmitsItsUnit, for a primary and for the die of a SPARED cell. -/
theorem test_meets_ABadVerdictAdmitsItsUnit :
    (let s := measured (.unit ⟨.primary, 70⟩ .survey none) engine
     s.pp.gap.isSome = true ∧ s.re.qualifies ⟨.primary, 70⟩ = true ∧ s.re.suspects.length < 32 ∧
     s.candidate = none ∧ 2 ≤ s.setting 13 ∧
     s.classify 1023 (compensated 1023 (some 25) 4) (s.su.baseline ⟨.primary, 70⟩) = .bad .openFault) ∧
    engine.qualifies ⟨.spare, 15⟩ = true := by decide +kernel

/-- The state of a unit whose entry has some evidence, with the default CONFIRM THRESHOLD of 3 (R81). -/
def doubted (evidence : Nat) : CellState := if evidence = 3 then .condemned else .suspect

/-- A full list whose 16th entry is a DRIFT entry with some evidence, and every other an OPEN one. -/
def crowded (evidence : Nat) : RepairEngine := { RepairEngine.reset with
  cells := (List.range 32).map fun n => (n, doubted (if n = 15 then evidence else 1))
  suspects := (List.range 32).map fun n =>
    ⟨⟨.primary, n⟩, if n = 15 then .driftFault else .openFault, if n = 15 then evidence else 1, 9, 0⟩ }

/-- What every entry's value and the default satisfy, every read satisfies. -/
theorem reads_within {α : Type} {p : α → Bool} {d : Nat → α} {t : Table α} (listed : (t.all fun entry => p entry.2) = true)
    (k : Nat) (default : p (d k) = true) : p (Table.read d t k) = true := by
  induction t with
  | nil => exact default
  | cons entry t rest =>
    rw [List.all_cons, Bool.and_eq_true] at listed
    rw [Table.read_cons]
    split
    · exact listed.1
    · exact rest listed.2

/-- The maps of a Repair Engine in which no cell names a channel and none is in use agree, if its suspects and lines do. -/
theorem consistent_without_channels {r : RepairEngine} (unused : r.channels = []) (slots : r.provings = [])
    (named : ∀ n, (r.cell n).channel = none) (suspects : r.suspectsAgree) (lines : r.linesAgree) : r.consistent := by
  refine ⟨fun n k => ?_, by simp [RepairEngine.provingsAgree, slots], suspects, lines, fun n _ => named n⟩
  have free : (r.channel k).state = .free := by simp [RepairEngine.channel, unused]
  have bare := named n
  rw [free]
  cases held : r.cell n <;> simp_all [CellState.channel]

/-- A Repair Engine with a crowded list is one whose maps agree. -/
theorem crowded_consistent (evidence : Nat) (known : evidence = 1 ∨ evidence = 2 ∨ evidence = 3) :
    (crowded evidence).consistent := by
  refine consistent_without_channels rfl rfl (fun n => ?_) ?_ fun l held => ?_
  · have bare := reads_within (p := fun c : CellState => c.channel.isNone) (d := fun _ => .healthy)
      (t := (crowded evidence).cells) (by rcases known with rfl | rfl | rfl <;> decide +kernel) n rfl
    exact Option.isNone_iff_eq_none.1 bare
  · intro e listed
    obtain ⟨n, below, rfl⟩ := List.mem_map.1 listed
    have doubt : ∀ n ∈ List.range 32, (crowded evidence).cell n = .suspect ∨ (crowded evidence).cell n = .condemned := by
      rcases known with rfl | rfl | rfl <;> decide +kernel
    exact doubt n below
  · cases held

/-- A part with a crowded list obeys the law of the suspect list. -/
theorem crowded_lawful {s : State} (evidence : Nat) (known : evidence = 2 ∨ evidence = 3) (repair : s.re = crowded evidence)
    (threshold : s.setting 13 = 3) : s.suspectsLawful := by
  unfold State.suspectsLawful
  rw [repair, threshold]
  refine ⟨by rcases known with rfl | rfl <;> decide +kernel, ?_, fun u found => ?_⟩
  · intro e listed
    obtain ⟨n, below, rfl⟩ := List.mem_map.1 listed
    have law : ∀ n ∈ List.range 32, 1 ≤ (if n = 15 then evidence else 1) ∧ (if n = 15 then evidence else 1) ≤ 3 ∧
        ((crowded evidence).cell n = .condemned ↔ (if n = 15 then evidence else 1) = 3) := by
      rcases known with rfl | rfl <;> decide +kernel
    exact law n below
  · have low : u.side = .primary ∧ u.cell < 32 := by
      obtain ⟨side, n⟩ := u
      cases side with
      | spare => rcases found with found | found <;> cases found
      | primary =>
        refine ⟨rfl, not_le.1 fun far => ?_⟩
        have healthy : (crowded evidence).cell n = .healthy :=
          reads_default (bound := 32) (by rcases known with rfl | rfl <;> decide +kernel) far
        rcases found with found | found <;> exact absurd (healthy.symm.trans found) nofun
    obtain ⟨side, n⟩ := u
    obtain ⟨rfl, below⟩ := low
    exact ⟨_, List.mem_map.2 ⟨n, List.mem_range.2 below, rfl⟩, rfl⟩

/-- Hypotheses of ABadVerdictAdmitsItsUnit about a full list: maps that agree, and a lawful list. -/
theorem test_meets_AFullLawfulList :
    (measured (.unit ⟨.primary, 70⟩ .sweep none) (crowded 2)).re.consistent ∧
    (measured (.unit ⟨.primary, 70⟩ .sweep none) (crowded 2)).suspectsLawful ∧
    (measured (.unit ⟨.primary, 70⟩ .sweep none) (crowded 3)).re.consistent ∧
    (measured (.unit ⟨.primary, 70⟩ .sweep none) (crowded 3)).suspectsLawful :=
  ⟨crowded_consistent 2 (by decide), crowded_lawful 2 (by decide) rfl (by decide +kernel), crowded_consistent 3 (by decide),
    crowded_lawful 3 (by decide) rfl (by decide +kernel)⟩

/-- Hypotheses of ABadVerdictAdmitsItsUnit with the list full: an eviction, a refusal where the one DRIFT entry carries the
condemned mark, and a refused DRIFT verdict. -/
theorem test_meets_AFullListEvictsOrRefuses :
    (let s := measured (.unit ⟨.primary, 70⟩ .sweep none) (crowded 2)
     32 ≤ s.re.suspects.length ∧ s.re.qualifies ⟨.primary, 70⟩ = true ∧ s.re.cell 15 = .suspect ∧ s.setting 13 = 3 ∧
     s.classify 1023 (compensated 1023 (some 25) (s.setting 9)) (s.su.baseline ⟨.primary, 70⟩) = .bad .openFault ∧
     (stateOf (exec (.rowGapEnd 1023 false) s)).map (fun t => (t.notice 8, t.re.cell 15, t.re.cell 70,
       (t.re.suspects.drop 30).map (·.unit.cell))) =
       some (⟨1, some (.listFull true ⟨.primary, 15⟩)⟩, .healthy, .suspect, [31, 70])) ∧
    (stateOf (exec (.rowGapEnd 1023 false) (measured (.unit ⟨.primary, 70⟩ .sweep none) (crowded 3)))).map
      (fun t => t.notice 8) = some ⟨1, some (.listFull false ⟨.primary, 70⟩)⟩ ∧
    (let s := measured (.unit ⟨.primary, 70⟩ .sweep none) (crowded 2)
     let u : State := { s with su := { s.su with baselines := [(70, .set 500)] } }
     (stateOf (exec (.rowGapEnd 700 false) u)).map (fun t => (t.notice 8, t.re)) =
       some (⟨1, some (.listFull false ⟨.primary, 70⟩)⟩, crowded 2)) := by decide +kernel

/-- A Repair Engine with one suspect entry of a primary. -/
def oneSuspect (evidence : Nat) : RepairEngine := { RepairEngine.reset with
  cells := [(6, .suspect)], suspects := [⟨⟨.primary, 6⟩, .openFault, evidence, 0, 3⟩] }

/-- Hypotheses of RetestsMoveTheEvidence: from 1 off the list, from 2 down, up below and to CONFIRM THRESHOLD. -/
theorem test_meets_RetestsMoveTheEvidence :
    (let s := measured (.unit ⟨.primary, 6⟩ .retest none) (oneSuspect 2)
     s.re.entry ⟨.primary, 6⟩ = some ⟨⟨.primary, 6⟩, .openFault, 2, 0, 3⟩ ∧
     2 ≠ s.setting 13 ∧ s.setting 13 = 3 ∧
     (s.re.line (cLineOf 6)).tally + 1 < s.lineLimit (cLineOf 6) ∧
     (s.re.line (rLineOf 6)).tally + 1 < s.lineLimit (rLineOf 6)) ∧
    (let f := fun (evidence ticks : Nat) =>
      (stateOf (exec (.rowGapEnd ticks false) (measured (.unit ⟨.primary, 6⟩ .retest none) (oneSuspect evidence)))).map
        fun t => (t.re.cell 6, t.re.suspects.map (·.evidence))
     f 1 500 = some (.healthy, []) ∧ f 2 500 = some (.suspect, [1]) ∧ f 1 1023 = some (.suspect, [2]) ∧
     f 2 1023 = some (.pendingSpare .proving 0, [])) := by decide +kernel

/-- Hypotheses of RetestsMoveTheEvidence where the condemnation brings its C-line, or its R-line, to its limit. -/
theorem test_meets_ACondemnationHoldsItsLine :
    (let s := fun (l limit : Nat) => measured (.unit ⟨.primary, 6⟩ .retest none)
      { oneSuspect 2 with lines := [(l, ⟨.normal, limit - 1, 0⟩)] }
     cLineOf 6 = 6 ∧ rLineOf 6 = 192 ∧ ((s 6 4).re.line 6).state = .normal ∧ (s 6 4).re.cell 6 = .suspect ∧
     [6, 192].all (fun l => decide ((s l (running.lineLimit l)).lineLimit l ≤
       ((s l (running.lineLimit l)).re.line l).tally + 1)) = true ∧
     [6, 192].map (fun l => (stateOf (exec (.rowGapEnd 1023 false) (s l (running.lineLimit l)))).map fun t =>
       ((t.re.line l).state, t.re.cell 6, t.re.suspects, t.notice 7)) =
       [some (.held, .concealed .line, [], ⟨1, some (.lineHeld 6)⟩),
        some (.held, .concealed .line, [], ⟨1, some (.lineHeld 192)⟩)]) := by decide +kernel

/-- A Repair Engine whose group 0 has one channel in one state and the three others in another. -/
def firstGroup (first others : Channel) : RepairEngine := { RepairEngine.reset with
  channels := [0, 1, 2, 3].map fun k => (k, if k = 0 then first else others) }

/-- Hypotheses of ADecisionTakesTheFirstOutcome: the five outcomes, and the decision for a condemned die. -/
theorem test_meets_ADecisionTakesTheFirstOutcome :
    running.refers .openFault = false ∧ State.refers { running with live := [(14, 1)] } .openFault = true ∧
    RepairEngine.die { RepairEngine.reset with dies := [(6, .dead)] } 6 = .dead ∧ running.re.budget ≠ 0 ∧
    running.re.choose (groupOf 6) = some (4 * groupOf 6) ∧
    (firstGroup (⟨.failed, 0⟩) (⟨.failed, 0⟩)).choose 0 = none ∧ (firstGroup (⟨.free, 1⟩) (⟨.free, 0⟩)).choose 0 = some 1 ∧
    (firstGroup (⟨.failed, 0⟩) (⟨.free, 1⟩)).choose 0 = some 1 ∧
    engine.cell 15 = .spared 4 ∧ running.candidate = none ∧
    (withEngine (oneSuspect 3)).candidate = some ⟨⟨.primary, 6⟩, .openFault, 3, 0, 3⟩ ∧
    (withEngine (oneSuspect 3)).needsSlot ⟨⟨.primary, 6⟩, .openFault, 3, 0, 3⟩ = true ∧
    8 ≤ brimming.re.provings.length ∧ (⟨.primary, 6⟩ : UnitId).side = .primary ∧ (⟨.spare, 15⟩ : UnitId).side = .spare ∧
    (let once : State := { running with re := { RepairEngine.reset with budget := 1 } }
     once.re.budget = 1 ∧ (once.decidePrimary 6 .openFault).notice 6 = ⟨1, some .budgetSpent⟩ ∧
     (once.decidePrimary 6 .openFault).re.cell 6 = .pendingSpare .proving 0) ∧
    ((withEngine { RepairEngine.reset with budget := 0 }).decidePrimary 6 .openFault).notice 2 =
      ⟨1, some (.faultReferred 6 .budget)⟩ := by decide +kernel

/-- Hypotheses of ADecisionTakesTheFirstOutcome about a condemned cell that is left CONCEALED, a die's first and second strike,
each REFER policy, and a candidate behind another entry. -/
theorem test_meets_DecisionsOweAndRaise :
    (let s := withEngine { RepairEngine.reset with cells := [(6, .condemned)], budget := 0 }
     s.re.cell 6 = .condemned ∧ (s.decidePrimary 6 .openFault).re.cell 6 = .concealed .budget ∧
     (s.decidePrimary 6 .openFault).rj.owed = [6]) ∧
    (let struck := fun (strike : Nat) => (withEngine { engine with channels := [(4, ⟨.bound 15, strike⟩)] }).decideDie 15
     (struck 0).re.channel 4 = ⟨.free, 1⟩ ∧ (struck 1).re.channel 4 = ⟨.failed, 0⟩ ∧
     [0, 1].map (fun strike => ((struck strike).notice 3, (struck strike).notice 4)) =
       [(⟨1, some (.spareDieDead 15)⟩, ⟨0, none⟩), (⟨1, some (.spareDieDead 15)⟩, ⟨1, some (.channelFailed 4)⟩)] ∧
     [15, 9231].all (fun m => decide (m ∈ (struck 0).rj.owed)) = true ∧
     [15, 9231, 18436].all (fun m => decide (m ∈ (struck 1).rj.owed)) = true) ∧
    (let policy := fun (n : Nat) => ({ running with live := [(n, 1)] } : State)
     [(14, FaultKind.openFault), (15, .shortFault), (16, .driftFault)].all (fun p => (policy p.1).refers p.2) = true ∧
     (policy 14).refers .shortFault = false) ∧
    (withEngine { crowded 3 with suspects := ⟨⟨.primary, 70⟩, .openFault, 1, 9, 0⟩ :: (crowded 3).suspects }).candidate =
      some ⟨⟨.primary, 15⟩, .driftFault, 3, 9, 0⟩ := by decide +kernel

/-- Hypotheses of TwoGoodVerdictsPassAProving, for the first and the second GOOD verdict. -/
theorem test_meets_TwoGoodVerdictsPassAProving :
    engine.provings.find? (fun q => decide (q.channel = 0)) = some ⟨5, 0, .proving, 1, 119⟩ ∧
    claims.provings.find? (fun q => decide (q.channel = 0)) = some ⟨5, 0, .proving, 0, 1⟩ ∧
    engine.cell 5 = .pendingSpare .proving 0 ∧ (withEngine engine).rj.blocked = false ∧
    ((withEngine engine).provingVerdict 5 0 .good).re.cell 5 = .pendingSpare .recording 0 ∧
    (let failed := fun (r : RepairEngine) => (withEngine r).provingVerdict 5 0 (.bad .openFault)
     (engine.channel 0).strike ≠ 0 ∧ (failed engine).re.channel 0 = ⟨.failed, 0⟩ ∧
     (failed engine).notice 3 = ⟨1, some (.spareDieDead 5)⟩ ∧ (failed engine).notice 4 = ⟨1, some (.channelFailed 0)⟩ ∧
     (failed { engine with channels := [(0, ⟨.proving 5, 0⟩)] }).re.channel 0 = ⟨.free, 1⟩ ∧
     (failed { engine with channels := [(0, ⟨.proving 5, 0⟩)] }).notice 4 = ⟨0, none⟩) := by decide +kernel

/-- Hypotheses of TwoGoodVerdictsPassAProving about the gap's end and a FULL writer: a verdict that its proving takes, one
that is stale for each purpose, and a second GOOD one while the writer is FULL. -/
theorem test_meets_VerdictsOfAProving :
    (let s := measured (.unit ⟨.spare, 5⟩ .proving (some 0)) engine
     s.pp.gap.isSome = true ∧ (s.re.channel 0).state = .proving 5 ∧
     (stateOf (exec (.rowGapEnd 500 false) s)).map (fun t => t.re.cell 5) = some (.pendingSpare .recording 0)) ∧
    (let seen := fun (g : Grant) => (stateOf (exec (.rowGapEnd 1023 false) (measured g engine))).map fun t => t.re
     seen (.unit ⟨.spare, 9⟩ .proving (some 0)) = some engine ∧ seen (.unit ⟨.spare, 5⟩ .proving none) = some engine ∧
     seen (.unit ⟨.primary, 70⟩ .retest none) = some engine ∧ engine.entry ⟨.primary, 70⟩ = none ∧
     seen (.unit ⟨.primary, 6⟩ .survey none) = some engine ∧ engine.qualifies ⟨.primary, 6⟩ = false) ∧
    (let full : State := { withJournal { running.rj with writer := .full } with re := engine }
     full.rj.blocked = true ∧ (full.provingVerdict 5 0 .good).re.cell 5 = .spared 0 ∧
     (full.provingVerdict 5 0 .good).rj.unrecorded = true) := by decide +kernel

/-! ## Requests -/

/-- A request of another mode, lane and destination. -/
def askIn (mode : Byte) (destination : Half) (body : List Byte) : Request := ⟨.a, mode, destination, 7, body⟩

/-- The running part whose direction has considered 8 requests, or whose queue is full. -/
def busyDirection (considered : Nat) (queue : List Reply) : State := { running with
  ci := { running.ci with forward := { running.ci.forward with considered := considered, queue := queue } } }

/-- Hypotheses of RequestsAreTurnedAwayAsStated: the ninth request of a frame, one for another tile, a full queue, start-up,
an unknown kind, and an ASSIGN-ID by TILE ID. -/
theorem test_meets_RequestsAreTurnedAwayAsStated :
    (busyDirection 8 []).mayConsider .a = false ∧ (busyDirection 7 []).mayConsider .a = true ∧
    running.addresses (askIn 1 2 []) = false ∧ running.addresses (askIn 1 1 []) = true ∧
    running.addresses (askIn 2 9 []) = true ∧ running.addresses (askIn 0 0 []) = false ∧
    running.addresses (askIn 3 1 []) = false ∧ (busyDirection 0 (List.replicate 7 ⟨0, 1, 0, 0, []⟩)).hasRoom .a = true ∧
    (busyDirection 0 (List.replicate 8 ⟨0, 1, 0, 0, []⟩)).hasRoom .a = false ∧ Request.toAll (ask []) = false ∧
    (let s : State := { running with clk := { running.clk with phase := .starting } }
     s.accepts (ask []) = true ∧ s.operating = false) ∧
    running.accepts (ask []) = true ∧ running.operating = true ∧ knownKind 0 = false ∧ knownKind 28 = false ∧
    (let s : State := { running with live := [(23, 300)] }
     s.accepts (askIn 0 300 []) = true ∧ (askIn 0 300 []).mode.toNat ≠ 1) := by decide +kernel

/-- The running part serves a request, whatever its body; this is the first hypothesis of every statement about one. -/
theorem test_meets_serves : running.serves (ask [0, 5]) ∧ (withEngine engine).serves (ask []) := by
  refine ⟨⟨?_, ?_⟩, ?_, ?_⟩ <;> decide +kernel

/-- Hypotheses of ReadsReportAndChangeNothing: wrong bodies, the last number in range and the first outside. -/
theorem test_meets_ReadsReportAndChangeNothing :
    oneNumber [0] = none ∧ oneNumber [0x23, 0xFF] = some 9215 ∧ oneNumber [0x24, 0] = some 9216 ∧ oneByte [] = none ∧
    oneByte [191] = some 191 ∧ oneByte [192] = some 192 ∧ oneByte [239] = some 239 ∧ oneByte [240] = some 240 ∧
    oneByte [31] = some 31 ∧ oneByte [32] = some 32 ∧ oneByte [14] = some 14 ∧ oneByte [15] = some 15 ∧
    twoBytes [33, 10] = some (33, 10) ∧ twoBytes [34, 10] = some (34, 10) ∧ twoBytes [33, 11] = some (33, 11) ∧
    twoBytes [43, 0] = some (43, 0) ∧ twoBytes [] = none ∧ running.accepts (ask []) = true ∧
    replies (.readCell (ask [0x24, 0])) running = some [(4, [])] ∧
    replies (.get (ask [42, 1])) running = some [(0, [0, 2, 0, 2])] ∧
    replies (.identify (ask [])) running =
      some [(0, [0x19, 0x30, 0x43, 1, 0, 0, 1, 0, 0, 0, 0, 0, 0, 0])] := by decide +kernel

/-- Hypotheses of ReadSenseAndClearBaselinesActAsStated. -/
theorem test_meets_ReadSenseAndClearBaselinesActAsStated :
    oneByte [0, 0] = none ∧ oneByte [2] = some 2 ∧ oneByte [0] = some 0 ∧ oneByte [1] = some 1 ∧
    (ask []).body = [] ∧ (ask [0]).body ≠ [] ∧ running.su.inFlight = none ∧
    replies (.readSense (ask [1])) running = some [(0, [0, 0, 0, 0, 0x80, 0, 0, 0, 0, 0, 0, 0, 0, 3, 0xFF, 0, 0, 0,
      0x48, 0, 0, 0, 0, 0, 0, 0xFF, 0xFF, 0, 0])] ∧
    (measured .reference RepairEngine.reset).su.inFlight = some (measuring .reference) := by decide +kernel

/-- Hypotheses of SetAndAssignIdChangeOneSetting: a persisted value, the edges of a range, the thermal limits 5 °C apart and
closer, the TILE ID, a setting above 42, and the edges of an ID. -/
theorem test_meets_SetAndAssignIdChangeOneSetting :
    running.clk.reset ≠ .ready ∧ settingBody [13, 0, 2, 1] = some (13, 2, 1) ∧
    running.mayTakeValue 13 2 true = true ∧ running.mayTakeValue 13 1 false = false ∧
    running.mayTakeValue 20 80 false = true ∧ running.setting 21 = 85 ∧ running.mayTakeValue 20 81 false = false ∧
    settingBody [20, 0, 81, 1] = some (20, 81, 1) ∧ settingBody [21, 0, 74, 0] = some (21, 74, 0) ∧
    settingBody [43, 0, 0, 0] = some (43, 0, 0) ∧ settingBody [23, 0, 0, 0] = some (23, 0, 0) ∧ settingBody [] = none ∧
    (ask [0, 1]).mode.toNat = 1 ∧ oneNumber [0, 1] = some 1 ∧ oneNumber [0x0F, 0xFE] = some 4094 ∧
    oneNumber [0x0F, 0xFF] = some 4095 ∧ oneNumber [0, 0] = some 0 ∧ oneNumber [] = none ∧
    replies (.set (ask [13, 0, 2, 1]) later) running = some [(0, [0, 2, 0, 2])] ∧
    (stateOf (exec (.assignId (ask [0x0F, 0xFE])) running)).map (fun t => (t.setting 23, t.rj.owed)) =
      some (4094, [19463]) := by decide +kernel

/-- A persist flag above 1 in SET (log 22). -/
theorem test_meets_APersistFlagAbove1 : settingBody [13, 0, 2, 2] = some (13, 2, 2) ∧
    replies (.set (ask [13, 0, 2, 2]) later) running = some [(4, [])] := by decide +kernel

/-- The part after a SET of a live value below 256. -/
def afterSet (s : State) (n v : Byte) : Option State := stateOf (exec (.set (ask [n, 0, v, 0]) later) s)

/-- Hypotheses of SetAndAssignIdChangeOneSetting about what a setting does: CONFIRM THRESHOLD lowered onto an entry, onto a
condemned one, and raised; a limit lowered onto a line; PREFERRED PORT; a policy. -/
theorem test_meets_SettingsActOnTheirBlocks :
    (afterSet (withEngine (oneSuspect 2)) 13 2).map (fun t => (t.setting 13, t.re.cell 6, (t.notice 0).count)) =
      some (2, .pendingSpare .proving 0, 1) ∧
    ((withEngine (oneSuspect 2)).newThreshold 3 2).re.cell 6 = .condemned ∧
    ((withEngine (oneSuspect 3)).newThreshold 3 2).re.suspects.map (·.evidence) = [2] ∧
    ((withEngine (oneSuspect 3)).newThreshold 3 4).re.suspects.map (·.evidence) = [4] ∧
    (afterSet (withEngine { engine with lines := [(192, ⟨.normal, 4, 0⟩)] }) 19 4).map
      (fun t => ((t.re.line 192).state, t.re.cell 6, (t.re.line 15).state)) =
      some (.held, .concealed .line, .normal) ∧
    (afterSet { running with ci := { running.ci with returnCount := 100 } } 24 1).map (fun t => t.ci.returnCount) =
      some 0 ∧
    (afterSet running 14 1).map (fun t => t.setting 14) = some 1 := by decide +kernel

/-- Hypotheses of SetAndAssignIdChangeOneSetting about a lower CONFIRM THRESHOLD that two entries on one line reach, where the
first one's condemnation holds the line: the second leaves the list with it, and one FAULT CONFIRMED is raised. -/
theorem test_meets_AThresholdThatHoldsALine :
    (let t := (withEngine { RepairEngine.reset with
       cells := [(6, .suspect), (198, .suspect)], lines := [(6, ⟨.normal, running.lineLimit 6 - 1, 0⟩)]
       suspects := [⟨⟨.primary, 6⟩, .openFault, 2, 9, 0⟩, ⟨⟨.primary, 198⟩, .openFault, 2, 9, 0⟩] }).newThreshold 3 2
     (t.re.cell 6, t.re.cell 198, t.re.suspects, (t.notice 0).count) =
       (.concealed .line, .concealed .line, [], 1)) := by decide +kernel

/-- The part without a feed, its last frame start a while ago. -/
def freeRunning (start : Nat) : State := { running with
  ci := { running.ci with feed := none }, pp := { running.pp with frameStartAt := start } }

/-- Hypotheses of SetAndAssignIdChangeOneSetting about a FREE-RUN PERIOD of 10 ms, at and just past its end. -/
theorem test_meets_AFreeRunPeriodPastItsEnd :
    (freeRunning 0).feedLive = false ∧ (freeRunning 0).setting 4 ≠ 100 ∧
    (afterSet (freeRunning 22667) 4 100).map (fun t => t.pp.frame) = some 9 ∧
    (afterSet (freeRunning 22666) 4 100).map (fun t => t.pp.frame) = some 10 := by decide +kernel

/-- Hypotheses of ResetWaitsForItsReply: addressed by hop, in ALL mode, and while one is pending. -/
theorem test_meets_ResetWaitsForItsReply :
    running.clk.reset = .none ∧ (ask [1]).body ≠ [] ∧ (askIn 2 0 []).mode.toNat = 2 ∧
    running.accepts (askIn 2 0 []) = true ∧ resetDue.clk.reset ≠ .none ∧ resetDue.accepts (ask []) = true := by
  decide +kernel

/-! ## Repair requests -/

/-- Hypotheses of SpareStartsAProving: each of the six checks, the last cell and channel, a counted cell, and a C-line one
below its limit. -/
theorem test_meets_SpareStartsAProving :
    twoNumbers [] = none ∧ twoNumbers [0x23, 0xFF, 0xFF, 0xFF] = some (9215, 65535) ∧
    twoNumbers [0x24, 0, 0xFF, 0xFF] = some (9216, 65535) ∧ twoNumbers [0, 0, 3, 0] = some (0, 768) ∧
    twoNumbers [0, 0, 0, 4] = some (0, 4) ∧ 4 / 4 ≠ groupOf 0 ∧ 767 / 4 = groupOf 9215 ∧
    (engine.cell 15).mayBeSpared = false ∧ (engine.cell 6).mayBeSpared = true ∧
    (CellState.concealed .budget).mayBeSpared = true ∧ (CellState.concealed .budget).counted = true ∧
    8 ≤ brimming.re.provings.length ∧ running.re.provings.length < 8 ∧ (running.re.cell 0).counted = false ∧
    (running.re.line (cLineOf 0)).tally + 1 < running.lineLimit (cLineOf 0) ∧
    (let s := withEngine { RepairEngine.reset with lines := [(0, ⟨.normal, running.lineLimit 0 - 1, 0⟩)] }
     (s.re.line (cLineOf 0)).state = .normal ∧ s.lineLimit (cLineOf 0) ≤ (s.re.line (cLineOf 0)).tally + 1) ∧
    (let s := withEngine { RepairEngine.reset with lines := [(192, ⟨.normal, running.lineLimit 192 - 1, 0⟩)] }
     rLineOf 0 = 192 ∧ s.lineLimit 192 ≤ (s.re.line 192).tally + 1 ∧
     (stateOf (exec (.spare (ask [0, 0, 0xFF, 0xFF])) s)).map (fun t => (t.re.cell 0, t.notice 7)) =
       some (.concealed .line, ⟨1, some (.lineHeld 192)⟩)) ∧
    replies (.spare (ask [0x23, 0xFF, 0xFF, 0xFF])) running = some [(1, [2, 0xFC])] ∧
    replies (.spare (ask [0, 15, 0xFF, 0xFF])) (withEngine engine) = some [(3, [])] ∧
    replies (.spare (ask [0, 6, 0, 0])) (withEngine engine) = some [(7, [])] := by decide +kernel

/-- Hypotheses of SpareStartsAProving about a group without a FREE channel, and with its last one only. -/
theorem test_meets_AGroupWithoutAFreeChannel :
    (let r := firstGroup ⟨.failed, 0⟩ ⟨.failed, 0⟩
     (∀ k < 4, (r.channel k).state ≠ .free) ∧
     replies (.spare (ask [0, 0, 0xFF, 0xFF])) (withEngine r) = some [(5, [])]) ∧
    (firstGroup ⟨.free, 1⟩ ⟨.failed, 0⟩).choose 0 = some 0 := by decide +kernel

/-- Hypotheses of RestoreConcealAndForgiveWithdrawFromRepair: the states each refuses and accepts, and the units FORGIVE
reads. -/
theorem test_meets_RestoreConcealAndForgiveWithdrawFromRepair :
    engine.cell 0 = .healthy ∧ engine.cell 15 ≠ .healthy ∧ engine.cell 15 ≠ .concealed .line ∧
    (∃ reason, rowEnd.cell 190 = .concealed reason) ∧ (∀ reason, engine.cell 15 ≠ .concealed reason) ∧
    unitOf 32768 = none ∧ unitOf 32767 = some ⟨.spare, 16383⟩ ∧ unitOf 16384 = some ⟨.spare, 0⟩ ∧
    (∃ e ∈ engine.suspects, e.unit = ⟨.primary, 6⟩) ∧ (∀ e ∈ engine.suspects, e.unit ≠ ⟨.spare, 15⟩) ∧
    replies (.restore (ask [0, 15])) (withEngine engine) = some [(0, [])] ∧
    replies (.conceal (ask [0, 5])) (withEngine engine) = some [(0, [])] ∧
    replies (.forgive (ask [0, 6])) (withEngine engine) = some [(0, [])] := by
  refine ⟨?_, ?_, ?_, ⟨.ordered, ?_⟩, ?_, ?_, ?_, ?_, ?_, ?_, ?_, ?_, ?_⟩
  case refine_5 => intro reason h; cases h
  all_goals decide +kernel

/-- Hypotheses of ReviveDieAndRestoreChannelBringBack at the ends of both ranges. -/
theorem test_meets_ReviveDieAndRestoreChannelBringBack :
    (let r : RepairEngine := { RepairEngine.reset with dies := [(9215, .dead)], channels := [(767, ⟨.failed, 0⟩)] }
     r.die 9215 = .dead ∧ r.die 0 ≠ .dead ∧ (r.channel 767).state = .failed ∧ (r.channel 0).state ≠ .failed ∧
     replies (.reviveDie (ask [0x23, 0xFF])) (withEngine r) = some [(0, [])] ∧
     replies (.restoreChannel (ask [2, 0xFF])) (withEngine r) = some [(0, [])] ∧
     replies (.restoreChannel (ask [3, 0])) (withEngine r) = some [(4, [])]) := by decide +kernel

/-- A Repair Engine with a HELD R-line 239 and its 192 cells. -/
def lineHeld : RepairEngine := { RepairEngine.reset with
  cells := (lineCells 239).map fun n => (n, .concealed .line)
  lines := [(239, ⟨.held, 0, 0⟩)] }

/-- Hypotheses of HoldLineConcealsTheWholeLine: both states of a line, the last line, a cell of the line with a channel. -/
theorem test_meets_HoldLineConcealsTheWholeLine :
    oneByte [239] = some 239 ∧ (running.re.line 239).state = .normal ∧ (lineHeld.line 239).state = .held ∧
    15 ∈ lineCells 15 ∧ (engine.cell 15).channel = some 4 ∧
    (stateOf (exec (.holdLine (ask [15])) (withEngine engine))).map
      (fun t => (t.re.cell 15, (t.re.line 15).state, t.re.channel 4)) =
      some (.concealed .line, .held, ⟨.free, 0⟩) := by decide +kernel

/-- Hypotheses of HoldLineConcealsTheWholeLine about an R-line with a SPARED cell, in maps that agree: its repairs undone
count, a crossing line's tally, the routes posted and the subjects owed. -/
theorem test_meets_HoldOfAnRLine :
    engine.consistent ∧ rLineOf 15 = 192 ∧ otherLineOf 192 15 = 15 ∧
    (stateOf (exec (.holdLine (ask [192])) (withEngine engine))).map
      (fun t => ([192, 15].map t.re.line, [5, 6, 15].map t.pp.pendingRoute, t.rj.owed)) =
      some ([⟨.held, 0, 1⟩, ⟨.normal, 0, 0⟩], [none, some .blank, some .blank], [15, 19392]) :=
  ⟨engine_consistent, by decide +kernel, by decide +kernel, by decide +kernel⟩

/-- Hypotheses of ReleaseLineReturnsItsCells: a HELD line whose crossing lines are NORMAL, and one crossing line HELD. -/
theorem test_meets_ReleaseLineReturnsItsCells :
    oneByte [239] = some 239 ∧ (lineHeld.line 239).state = .held ∧ 9215 ∈ lineCells 239 ∧ otherLineOf 239 9215 = 191 ∧
    (lineHeld.line 191).state = .normal ∧
    RepairEngine.line { lineHeld with lines := [(191, ⟨.held, 0, 0⟩), (239, ⟨.held, 0, 0⟩)] } 191 = ⟨.held, 0, 0⟩ ∧
    (stateOf (exec (.releaseLine (ask [239])) (withEngine lineHeld))).map (fun t => (t.re.cells, t.re.lines)) =
      some ([], []) := by decide +kernel

/-- The maps of `lineHeld` agree. -/
theorem lineHeld_consistent : lineHeld.consistent := by
  refine consistent_without_channels rfl rfl (fun n => ?_) nofun fun l held n crossing => ?_
  · have bare := reads_within (p := fun c : CellState => c.channel.isNone) (d := fun _ => .healthy) (t := lineHeld.cells)
      (by decide +kernel) n rfl
    exact Option.isNone_iff_eq_none.1 bare
  · have named : l = 239 := by
      by_contra other
      simp [RepairEngine.line, lineHeld, Table.read, Ne.symm other] at held
    subst named
    exact of_decide_eq_true (List.all_eq_true.1
      (by decide +kernel : (lineCells 239).all (fun n => decide (lineHeld.cell n = .concealed .line)) = true) n crossing)

/-- Hypotheses of ReleaseLineReturnsItsCells in maps that agree: what is posted and owed. -/
theorem test_meets_ReleaseInMapsThatAgree :
    lineHeld.consistent ∧ lineHeld.calledRoute 9215 = .blank ∧
    (stateOf (exec (.releaseLine (ask [239])) (withEngine lineHeld))).map
      (fun t => (t.pp.pendingRoute 9215, t.pp.pendingRoute 0, t.rj.owed)) = some (some .primary, none, [19439]) :=
  ⟨lineHeld_consistent, by decide +kernel, by decide +kernel⟩

/-- Hypotheses of SetBudgetReportsBeforeAndAfter: KEEP, 768, and one above it. -/
theorem test_meets_SetBudgetReportsBeforeAndAfter :
    oneNumber [0xFF, 0xFF] = some 65535 ∧ oneNumber [3, 0] = some 768 ∧ oneNumber [3, 1] = some 769 ∧
    oneNumber [3] = none ∧ replies (.setBudget (ask [3, 0])) running = some [(0, [0, 32, 3, 0])] := by decide +kernel

/-- The running part that shows a DARK frame. -/
def darkShown : State := { running with pp := { running.pp with showing := ⟨[], true, 0, 0⟩ } }

/-- Hypotheses of StartSurveyNeedsADarkFrameAndAnIdleSurvey. -/
theorem test_meets_StartSurveyNeedsADarkFrameAndAnIdleSurvey :
    darkShown.accepts (ask [4]) = true ∧ darkShown.su.survey = none ∧ darkShown.su.status = .ok ∧
    darkShown.pp.showing.dark = true ∧ running.pp.showing.dark = false ∧ oneByte [4] = some 4 ∧
    oneByte [5] = some 5 ∧ oneByte [1] = some 1 ∧ oneByte [0] = some 0 ∧
    (beforeGap 1 engine (some ⟨1, 0, 0, 0, []⟩)).su.survey.isSome = true := by decide +kernel

/-- Hypotheses of StopSurveyEndsARunningSurvey. -/
theorem test_meets_StopSurveyEndsARunningSurvey :
    (beforeGap 1 engine (some ⟨1, 0, 5, 2, []⟩)).accepts (ask []) = true ∧
    (beforeGap 1 engine (some ⟨1, 0, 5, 2, []⟩)).su.survey = some ⟨1, 0, 5, 2, []⟩ ∧ running.su.survey = none ∧
    (stateOf (exec (.stopSurvey (ask [])) (beforeGap 1 engine (some ⟨1, 0, 5, 2, []⟩)))).map (fun t => t.notice 9) =
      some ⟨1, some (.surveyEnded .stopped 0 5 2)⟩ := by decide +kernel

/-- Hypotheses of ClearTakesTheSeenCountsOff: the whole count, a part, more than the count, a kind twice, kind 15. -/
theorem test_meets_ClearTakesTheSeenCountsOff :
    clearPairs [] = none ∧ clearPairs [0, 1, 0, 1] = none ∧ clearPairs [15, 1] = some [(15, 1)] ∧
    clearPairs [14, 2, 11, 3, 0, 9] = some [(14, 2), (11, 3), (0, 9)] ∧
    (let s : State := { running with nu := [(0, ⟨2, none⟩), (11, ⟨3, none⟩), (14, ⟨4, none⟩)] }
     s.accepts (ask [14, 2, 11, 3, 0, 9]) = true ∧ (s.notice 11).count = 3 ∧
     replies (.clear (ask [14, 2, 11, 3, 0, 9])) s = some [(0, [0, 2, 14, 2])]) := by decide +kernel

/-! ## The journal -/

/-- The running part with a FREE writer and an owed list, in a writer state. -/
def owing (w : Writer) (owed : List Nat) : State :=
  withJournal { running.rj with writer := w, owed := owed }

/-- Hypotheses of TheWriterTakesTheHeadOfTheOwedList: the four writer states that take it, and each reason not to. -/
theorem test_meets_TheWriterTakesTheHeadOfTheOwedList :
    (owing .idle [5, 19440]).operating = true ∧ (owing .idle [5, 19440]).rj.record = none ∧
    (owing .idle [5, 19440]).rj.stopping = false ∧ (owing .idle [5, 19440]).rj.hasSlot = true ∧
    (owing .full [5]).rj.writer = .full ∧ (owing .full [5]).rj.due = false ∧
    (owing .erasingOld [5]).rj.writer = .erasingOld ∧ (owing (.held false) [5]).rj.isHeld = true ∧
    (owing (.compacting .erase) [5]).rj.compacting = true ∧ (owing .faulted [5]).rj.writer = .faulted ∧
    running.rj.owed = [] ∧ Journal.hasSlot { running.rj with bank0 := ⟨7, true, List.replicate 1024 .torn⟩ } = false ∧
    Journal.hasSlot { running.rj with bank0 := ⟨7, true, List.replicate 1023 .torn⟩ } = true ∧
    (stateOf (exec .recordWriteStart (owing .idle [5, 19440]))).map (fun t => (t.rj.record, t.rj.owed)) =
      some (some ⟨5, .healthy⟩, [19440]) := by decide +kernel

/-- Hypotheses of AGoodVerifyBindsTheRecording: a recording with its image, at 895 used slots, and a record of another
kind. -/
theorem test_meets_AGoodVerifyBindsTheRecording :
    (let s : State := { withJournal (recordRunning 895 0) with re := { engine with
      cells := [(5, .pendingSpare .recording 0)], channels := [(0, ⟨.recording 5, 0⟩)], suspects := []
      provings := [⟨5, 0, .recording, 1, 7⟩] } }
     s.operating = true ∧ s.rj.record = some ⟨5, .spared 0⟩ ∧ s.rj.active = some .zero ∧ s.rj.compacting = false ∧
     s.re.cell 5 = .pendingSpare .recording 0 ∧
     (stateOf (exec (.recordWriteEnd true) s)).map (fun t => (t.re.cell 5, t.re.channel 0, t.rj.due)) =
       some (.spared 0, ⟨.bound 5, 0⟩, true)) ∧
    (∀ k, Image.dead ≠ .spared k) := by
  refine ⟨?_, ?_⟩
  · decide +kernel
  · intro k h; cases h

/-- A snapshot that writes the record of subject 5, with some slots of the new bank used. -/
def snapshotting (used : Nat) (r : RepairEngine) : State := { withJournal { running.rj with
  writer := .compacting .snapshot, record := some ⟨5, .spared 0⟩, walk := 5, owed := [2, 9, 15, 30]
  bank1 := ⟨8, false, List.replicate used .torn⟩ } with re := r }

/-- What a good verify in a snapshot leaves of the writer's work. -/
def afterVerify (s : State) : Option (Writer × List Nat × List RecordWrite) :=
  (stateOf (exec (.recordWriteEnd true) s)).map fun t => (t.rj.writer, t.rj.owed, t.rj.heldReports)

/-- Hypotheses of AGoodVerifyBindsTheRecording in a snapshot: a next subject with and without a slot for it, none, and a
stop that waits. -/
theorem test_meets_ASnapshotGoesOn :
    (snapshotting 1022 engine).operating = true ∧ (snapshotting 0 engine).rj.operation = none ∧
    afterVerify (snapshotting 1022 engine) =
      some (.compacting .snapshot, [2, 30], [⟨5, .spared 0⟩]) ∧
    afterVerify (snapshotting 1023 engine) = some (.full, [2, 30, 9, 15], []) ∧
    afterVerify (snapshotting 1023 RepairEngine.reset) = some (.compacting .finish, [2], [⟨5, .spared 0⟩]) ∧
    afterVerify { snapshotting 0 engine with rj := { (snapshotting 0 engine).rj with
      stopping := true, walkTaken := [4] } } = some (.held false, [2, 9, 15, 30, 4], []) := by decide +kernel

/-- `snapshotting` meets the invariants that the clauses about a snapshot ask for. -/
theorem test_meets_SnapshotInvariants :
    (snapshotting 1 engine).tablesCanonical ∧ (snapshotting 1 engine).inRange ∧ (snapshotting 1 engine).re.consistent := by
  refine ⟨⟨⟨by decide +kernel, nofun⟩, ?_⟩, ?_, engine_consistent⟩
  · unfold PixelPath.canonical RepairEngine.canonical settingsCanonical noticesCanonical
    decide +kernel
  · exact inRange_of_engine rfl (by decide +kernel) (by decide +kernel) rfl

/-- Hypotheses of AGoodVerifyBindsTheRecording where a stop waits, and for a FULL writer's last slot. -/
theorem test_meets_AWriteBeforeAStop :
    (let seen := fun (j : Journal) => (stateOf (exec (.recordWriteEnd true) (withJournal j))).map fun t =>
       (t.rj.writer, t.rj.stopping, t.rj.unrecorded)
     seen { recordRunning 0 0 with stopping := true } = some (.held false, false, false) ∧
     seen { recordRunning 0 0 with writer := .full, stopping := true } = some (.held true, false, false) ∧
     seen { recordRunning 1023 0 with writer := .full, owed := [7] } = some (.full, false, true) ∧
     seen { recordRunning 1022 0 with writer := .full, owed := [7] } = some (.full, false, false) ∧
     seen { recordRunning 0 0 with writer := .erasingOld } = some (.erasingOld, false, false)) := by decide +kernel

/-- Hypotheses of FailedWritesAreRetriedOnceThenFaultTheWriter for a snapshot's last slot, with and without a stop that
waits. -/
theorem test_meets_ASnapshotsLastSlotFails :
    (let s := snapshotting 1023 engine
     s.rj.failures = 0 ∧ s.rj.compacting = true ∧ s.rj.writesTo = some .one ∧
     (stateOf (exec (.recordWriteEnd false) s)).map (fun t => (t.rj.writer, t.rj.failures, t.rj.owed, t.notice 14)) =
       some (.full, 1, [2, 9, 15, 30, 5], ⟨1, some (.journal .full)⟩) ∧
     (stateOf (exec (.recordWriteEnd false) { s with rj := { s.rj with stopping := true } })).map
       (fun t => (t.rj.writer, t.rj.due)) = some (.held true, false)) := by decide +kernel

/-- Hypotheses of FailedWritesAreRetriedOnceThenFaultTheWriter: a first failure with and without a next slot, a second one,
and the three operations. -/
theorem test_meets_FailedWritesAreRetriedOnceThenFaultTheWriter :
    (withJournal (recordRunning 1022 0)).rj.writesTo = some .zero ∧
    (Journal.bank (recordRunning 1022 0) .zero).slots.length + 1 < 1024 ∧
    1024 ≤ (Journal.bank (recordRunning 1023 0) .zero).slots.length + 1 ∧
    (recordRunning 1023 0).compacting = false ∧ (recordRunning 0 1).failures ≠ 0 ∧
    (withJournal (operationRunning .erase .erase)).operating = true ∧
    (stateOf (exec (.recordWriteEnd false) (withJournal (recordRunning 0 1)))).map
      (fun t => (t.rj.writer, t.rj.owed, t.rj.unrecorded)) = some (.faulted, [5], true) ∧
    (stateOf (exec (.bankEraseEnd false) (withJournal (operationRunning .erase .erase)))).map
      (fun t => t.rj.writer) = some .faulted := by decide +kernel

/-- Hypotheses of FailedWritesAreRetriedOnceThenFaultTheWriter about a compaction that a torn slot makes due: the 895th and
the 896th slot, a FULL writer, the last slot, and a second failure. -/
theorem test_meets_ATornSlotMakesACompactionDue :
    (let due := fun (j : Journal) => (stateOf (exec (.recordWriteEnd false) (withJournal j))).map fun t =>
       (t.rj.due, t.rj.failures)
     due (recordRunning 894 0) = some (false, 1) ∧ due (recordRunning 895 0) = some (true, 1) ∧
     due { recordRunning 895 0 with writer := .full } = some (false, 1) ∧ due (recordRunning 1023 0) = some (true, 1) ∧
     (due (recordRunning 895 1)).map Prod.fst = some false) := by decide +kernel

/-- A due compaction with a live image count. -/
def dueWith (images : Nat) : State := withJournal { running.rj with due := true, liveImages := images }

/-- Hypotheses of ADueCompactionStartsOrFillsTheWriter at 960 and 961 live images. -/
theorem test_meets_ADueCompactionStartsOrFillsTheWriter :
    (dueWith 960).mayStartCompaction = true ∧ (dueWith 961).mayStartCompaction = true ∧
    running.mayStartCompaction = false ∧
    (stateOf (exec .compactionStart (dueWith 960))).map (fun t => t.rj.writer) = some (.compacting .erase) ∧
    (stateOf (exec .compactionStart (dueWith 961))).map (fun t => t.rj.writer) = some .full := by decide +kernel

/-- Hypotheses of ADueCompactionStartsOrFillsTheWriter: the three writer states that start, and each reason not to. -/
theorem test_meets_ACompactionsCondition :
    (let begins := fun (j : Journal) => (stateOf (exec .compactionStart (withJournal { j with due := true }))).map fun t =>
       t.rj.due
     [Writer.idle, .writing, .full].map (fun w => begins { running.rj with writer := w }) = [some false, some false, some false] ∧
     [Writer.erasingOld, .held false, .held true, .faulted, .compacting .finish].map
       (fun w => begins { running.rj with writer := w }) = [some true, some true, some true, some true, some true] ∧
     [recordRunning 0 0, operationRunning .erase .erase, { running.rj with stopping := true }].map begins =
       [some true, some true, some true]) ∧
    ({ dueWith 0 with clk := State.reset.clk } : State).operating = false := by decide +kernel

/-- Hypotheses of ACompactionGoesThroughEraseHeaderAndSnapshot: each of its four clauses, with and without a subject. -/
theorem test_meets_ACompactionGoesThroughEraseHeaderAndSnapshot :
    (operationRunning .erase .erase).compacting = true ∧ (operationRunning .erase .erase).stopping = false ∧
    Journal.compacting { operationRunning .erase .erase with writer := .erasingOld } = false ∧
    (withJournal (operationRunning .header .erase)).nonFactory = [] ∧
    (let s : State := { withJournal (operationRunning .header .erase) with re := engine }
     s.nonFactory = [15] ∧
     (stateOf (exec (.headerWriteEnd true) s)).map (fun t => (t.rj.writer, t.rj.record)) =
       some (.compacting .snapshot, some ⟨15, .spared 4⟩)) ∧
    (stateOf (exec (.bankEraseEnd true) (withJournal { operationRunning .erase .erase with writer := .erasingOld }))).map
      (fun t => t.rj.writer) = some .idle ∧
    (stateOf (exec (.bankEraseEnd true) (withJournal { operationRunning .erase .erase with
      writer := .erasingOld, record := some ⟨5, .healthy⟩ }))).map (fun t => t.rj.writer) = some .writing := by
  decide +kernel

/-- Hypotheses of ACompactionGoesThroughEraseHeaderAndSnapshot about a header in a state that the invariants allow, and
about a compaction due at the end of the old bank's erase, with 960 and 961 live images. -/
theorem test_meets_AHeaderAndADueErase :
    (let s : State := { listed with rj := { operationRunning .header .erase with bank1 := ⟨0, false, []⟩ } }
     s.operating = true ∧ s.orderly ∧ s.tablesCanonical ∧ s.inRange ∧ s.rj.stopping = false ∧
     s.imageOf 15 ≠ factoryImage 15) ∧
    (let due := fun (images : Nat) => withJournal { operationRunning .erase .erase with
      writer := .erasingOld, due := true, liveImages := images }
     [960, 961].map (fun n => (stateOf (exec (.bankEraseEnd true) (due n))).map fun t => (t.rj.writer, t.rj.due)) =
       [some (.compacting .erase, false), some (.full, false)]) := by
  constructor
  · intro s
    have work : s.rj.orderly := ⟨rfl, Or.inr ⟨rfl, rfl⟩⟩
    exact ⟨rfl, orderly_of_running work rfl rfl, listed_canonical, listed_inRange, rfl, by decide +kernel⟩
  · decide +kernel

/-- Hypotheses of TheCompleteMarkMakesTheNewBankActive with a held report of a recording, and one that meets none. -/
theorem test_meets_TheMarkDeliversHeldReports :
    (let s : State := { withJournal { operationRunning .mark .finish with
        heldReports := [⟨5, .spared 0⟩, ⟨15, .spared 4⟩] } with re := { engine with
      cells := [(5, .pendingSpare .recording 0), (6, .suspect), (15, .spared 4)]
      channels := [(0, ⟨.recording 5, 0⟩), (4, ⟨.bound 15, 0⟩)], provings := [⟨5, 0, .recording, 2, 9⟩] } }
     s.operating = true ∧ s.re.cell 5 = .pendingSpare .recording 0 ∧ (∀ k, s.re.cell 15 ≠ .pendingSpare .recording k) ∧
     (stateOf (exec (.completeMarkWriteEnd true) s)).map
       (fun t => ((t.re.cell 5, t.re.channel 0, t.re.cell 15), t.notice 1, t.rj.active)) =
       some ((.spared 0, ⟨.bound 5, 0⟩, .spared 4), ⟨1, some (.spared 5 0)⟩, some .one)) := by
  refine ⟨?_, ?_, ?_, ?_⟩
  case refine_3 => intro k h; cases h
  all_goals decide +kernel

/-- Hypotheses of TheCompleteMarkMakesTheNewBankActive, with and without an old bank, and with a stop that waits. -/
theorem test_meets_TheCompleteMarkMakesTheNewBankActive :
    (withJournal (operationRunning .mark .finish)).operating = true ∧
    (operationRunning .mark .finish).heldReports = [] ∧ (operationRunning .mark .finish).active = some .zero ∧
    (stateOf (exec (.completeMarkWriteEnd true) (withJournal (operationRunning .mark .finish)))).map
      (fun t => (t.rj.active, t.rj.writer)) = some (some .one, .erasingOld) ∧
    (stateOf (exec (.completeMarkWriteEnd true) (withJournal { operationRunning .mark .finish with
      active := none }))).map (fun t => (t.rj.active, t.rj.writer)) = some (some .zero, .idle) ∧
    (let stopping := { operationRunning .mark .finish with stopping := true }
     (stateOf (exec (.completeMarkWriteEnd true) (withJournal stopping))).map (fun t => (t.rj.writer, t.rj.stopping)) =
       some (.erasingOld, true) ∧
     (stateOf (exec (.completeMarkWriteEnd true) (withJournal { stopping with active := none }))).map
       (fun t => (t.rj.writer, t.rj.stopping)) = some (.held false, false)) := by decide +kernel

/-- Hypotheses of AHeldWriterResumesAfterASteadySecond: to FULL, to a due compaction, to a record, to IDLE, and not HELD. -/
theorem test_meets_AHeldWriterResumesAfterASteadySecond :
    running.cm.supply = .good ∧ (owing (.held true) []).re.provings = [] ∧ running.rj.isHeld = false ∧
    (let f := fun (s : State) => (stateOf (exec .writerResume s)).map fun t => (t.rj.writer, t.clk.now)
     f (owing (.held true) []) = some (.full, 1000000) ∧
     f (withJournal { running.rj with writer := .held false, due := true, liveImages := 960 }) =
       some (.compacting .erase, 1000000) ∧
     f (owing (.held false) [5]) = some (.writing, 1000000) ∧ f (owing (.held false) []) = some (.idle, 1000000)) := by
  decide +kernel

/-- Hypotheses of AHeldWriterResumesAfterASteadySecond: a return to FULL with a recording that waits, a due compaction with 961
live images, and a subject owed without a slot. -/
theorem test_meets_AHeldWriterReturnsToFull :
    (let recording : RepairEngine := { RepairEngine.reset with
       cells := [(5, .pendingSpare .recording 0)], dies := [(5, .good)], channels := [(0, ⟨.recording 5, 0⟩)]
       provings := [⟨5, 0, .recording, 2, 9⟩] }
     let s : State := { owing (.held true) [5] with re := recording }
     recording.consistent ∧ s.re.provings ≠ [] ∧
     (stateOf (exec .writerResume s)).map (fun t => (t.rj.writer, t.re.cell 5, t.re.channel 0, t.notice 1, t.rj.unrecorded)) =
       some (.full, .spared 0, ⟨.bound 5, 0⟩, ⟨1, some (.spared 5 0)⟩, true)) ∧
    (stateOf (exec .writerResume (withJournal { running.rj with
      writer := .held false, due := true, liveImages := 961 }))).map (fun t => (t.rj.writer, t.rj.due, t.notice 14)) =
      some (.full, false, ⟨1, some (.journal .full)⟩) ∧
    (stateOf (exec .writerResume (withJournal { running.rj with
      writer := .held false, owed := [5], bank0 := ⟨7, true, List.replicate 1024 .torn⟩ }))).map
      (fun t => (t.rj.writer, t.rj.owed, t.rj.record)) = some (.writing, [5], none) := by
  refine ⟨⟨⟨fun n k => ?_, ?_, nofun, fun l held => ?_, fun n dead => ?_⟩, ?_, ?_⟩, ?_, ?_⟩
  · simp only [RepairEngine.cell, RepairEngine.channel, Table.read]
    refine ⟨?_, ?_, ?_⟩ <;> split_ifs <;> simp_all
  · unfold RepairEngine.provingsAgree; decide +kernel
  · cases held
  · simp only [RepairEngine.die, Table.read] at dead
    split_ifs at dead
  all_goals decide +kernel

/-- Hypotheses of CompactMakesACompactionDue: every writer state. -/
theorem test_meets_CompactMakesACompactionDue :
    (owing .full []).accepts (ask []) = true ∧ (owing .full []).operating = true ∧
    [Writer.idle, .writing, .full, .compacting .finish, .erasingOld, .held true, .faulted].map
      (fun w => replies (.compact (ask [])) (owing w [5])) =
      [1, 1, 1, 2, 2, 2, 3].map (fun status => some [(status, [])]) ∧
    replies (.compact (ask [0])) running = some [(10, [])] ∧ (dueWith 961).rj.due = true ∧
    (withJournal (operationRunning .mark .finish)).rj.operation = some .mark := by decide +kernel


/-! ## The manual's worked tables -/

/-- The worked identity of cell 2608: row 13, column 37, GREEN, group 57 with channels 228 to 231, lines 112 and 205 (R1,
R5, R6, R7). -/
theorem test_worked_identity :
    cellAt 13 37 1 = 2608 ∧ rowOf 2608 = 13 ∧ columnOf 2608 = 37 ∧ colourOf 2608 = 1 ∧ groupOf 2608 = 57 ∧
    groupChannels 57 = [228, 229, 230, 231] ∧ cLineOf 2608 = 112 ∧ rLineOf 2608 = 205 ∧ (groupCells 57).length = 48 ∧
    2415 ∈ groupCells 57 ∧ (lineCells 112).length = 48 ∧ 2608 ∈ lineCells 205 := by decide +kernel

/-- The worked drive value of R33. -/
theorem test_worked_drive : driven 50000 200 80 = 31372 ∧ driven 50000 255 100 = 50000 ∧ driven 50000 0 100 = 0 := by
  decide +kernel

/-- The worked capture's window: tile column c takes wall column 511 − c, and wall row 100 is tile row 4 (R19, R22). -/
theorem test_worked_capture :
    (let w : Window := ⟨448, 96, true, false⟩
     w.tileRow 100 = some 4 ∧ w.tileRow 95 = none ∧ w.tileRow 144 = none ∧ w.tileColumn 511 = some 0 ∧
     w.tileColumn 480 = some 31 ∧ w.tileColumn 448 = some 63 ∧ w.tileColumn 489 = some 22 ∧ w.tileColumn 512 = none) ∧
    (let s : State := { capturing with pp := { capturing.pp with window := ⟨448, 96, true, false⟩ } }
     let t := stateOf (exec (.line .a ⟨100, 500, List.replicate 8 ⟨7, 8, 9⟩⟩) s)
     t.map (fun u => (List.range 64).filter fun c => u.pp.got (siteAt 4 c)) = some [4, 5, 6, 7, 8, 9, 10, 11]) := by
  decide +kernel

/-- C-line 60 before the failing column's condemning retest. -/
def failingColumn : State := { measured (.unit ⟨.primary, 6396⟩ .retest none) { RepairEngine.reset with
    cells := [(444, .spared 20), (1788, .spared 148), (2364, .concealed .ordered), (3324, .spared 277),
      (5052, .pendingSpare .recording 404), (6396, .suspect), (7740, .concealed .line), (8508, .suspect)]
    dies := [(444, .good), (1788, .good), (3324, .good), (5052, .good)]
    channels := [(20, ⟨.bound 444, 0⟩), (148, ⟨.bound 1788, 0⟩), (277, ⟨.bound 3324, 0⟩), (404, ⟨.recording 5052, 0⟩)]
    lines := [(60, ⟨.normal, 4, 0⟩), (194, ⟨.normal, 1, 0⟩), (201, ⟨.normal, 1, 0⟩), (209, ⟨.normal, 1, 0⟩),
      (218, ⟨.normal, 1, 0⟩), (225, ⟨.normal, 1, 0⟩), (232, ⟨.held, 0, 0⟩)]
    suspects := [⟨⟨.primary, 6396⟩, .openFault, 2, 0, 3⟩, ⟨⟨.primary, 8508⟩, .driftFault, 1, 4, 5⟩]
    provings := [⟨5052, 404, .recording, 1, 9⟩] } with
  rj := { running.rj with owed := [5052], liveImages := 5 } }

/-- The failing column: the retest of 6396 condemns it, brings C-line 60 to its limit, and holds the line (R81, R117, R120,
R121). -/
theorem test_worked_failing_column :
    (stateOf (exec (.rowGapEnd 1023 false) failingColumn)).map (fun t =>
      (lineCells 60).all (fun n => decide (t.re.cell n = .concealed .line)) &&
      [20, 148, 277, 404].all (fun k => decide (t.re.channel k = ⟨.free, 0⟩)) &&
      decide (t.re.suspects = []) && decide (t.re.provings = []) &&
      decide ((t.re.line 60) = ⟨.held, 0, 0⟩) && decide (t.re.line 225 = ⟨.normal, 1, 0⟩) &&
      decide ([194, 201, 204, 209, 218, 232].map (fun l => (t.re.line l).tally) = [0, 0, 0, 0, 0, 0]) &&
      decide (t.rj.owed = [5052, 444, 1788, 2364, 3324, 19260]) &&
      decide ([444, 1788, 3324, 6396, 8508, 60].map t.pp.pendingRoute =
        [some .blank, some .blank, some .blank, some .blank, some .blank, some .blank]) &&
      decide ([2364, 5052, 7740].map t.pp.pendingRoute = [none, none, none]) &&
      decide (t.notice 0 = ⟨1, some (.faultConfirmed ⟨.primary, 6396⟩ .openFault)⟩) &&
      decide (t.notice 7 = ⟨1, some (.lineHeld 60)⟩)) = some true := by decide +kernel

/-- A summer afternoon, one line of the table at a time, with times in seconds (R147, R148, R149). -/
theorem test_worked_summer_afternoon :
    (let at_ := fun (seconds : Nat) (cm : ConditionMonitor) =>
      ({ running with cm := cm, clk := { running.clk with now := seconds * 1000000 } } : State)
     let monitor := fun (t : Thermal) (d : Derate) (countdown : Option Nat) (blank : Bool) (temp : Option Int) =>
       (⟨temp, t, d, countdown.map (· * 1000000), blank, .good⟩ : ConditionMonitor)
     ((at_ 0 (monitor .normal .d100 none false none)).sample 70000).cm =
       monitor .warm .d100 (some 600) false (some 70) ∧
     ((at_ 600 (monitor .warm .d100 (some 600) false (some 70))).expireCountdown).cm =
       monitor .warm .d80 (some 1200) false (some 70) ∧
     ((at_ 900 (monitor .warm .d80 (some 1200) false (some 70))).sample 85000).cm =
       monitor .hot .d80 (some 960) false (some 85) ∧
     ((at_ 960 (monitor .hot .d80 (some 960) false (some 85))).expireCountdown).cm =
       monitor .hot .d80 none true (some 85) ∧
     ((at_ 1000 (monitor .hot .d80 none true (some 85))).sample 80000).cm =
       monitor .warm .d80 (some 1600) false (some 80) ∧
     ((at_ 1300 (monitor .warm .d80 (some 1600) false (some 80))).sample 65000).cm =
       monitor .normal .d80 (some 1900) false (some 65) ∧
     ((at_ 1900 (monitor .normal .d80 (some 1900) false (some 65))).expireCountdown).cm =
       monitor .normal .d100 none false (some 65)) := by decide +kernel

end Sys2Proof.Tests
end

section
/-! PROOFS. O4: every change of a block keeps the tables canonical. -/

namespace Sys2Proof.Machine

/-- What a reset leaves in the tables is canonical: every one of them is empty. -/
theorem State.resetBlocks_canonical (s : State) (phase : StartPhase) (bank0 bank1 : Bank) :
    (s.resetBlocks phase bank0 bank1).tablesCanonical := by
  have empty : ∀ {α : Type} [DecidableEq α] (d : Nat → α), Table.wf d [] := fun d => Table.wf_nil d
  exact ⟨⟨empty _, nofun⟩, ⟨empty _, empty _, empty _, empty _, empty _⟩, ⟨empty _, empty _, empty _, empty _⟩,
    empty _, empty _, empty fun _ => (⟨0, none⟩ : Notice)⟩

/-- Every change of a block that the part's operations make keeps the tables canonical (log 40). -/
theorem KeptAll.tablesCanonical : KeptAll State.tablesCanonical where
  inFlight := fun _ _ ⟨su, rest⟩ => ⟨⟨su.1, su.2⟩, rest⟩
  post := fun _ n r ⟨su, pp, rest⟩ => ⟨su, ⟨pp.1, Table.wf_write n (some r) pp.2.1, pp.2.2⟩, rest⟩
  re := fun _ _ step ⟨su, pp, re, rest⟩ => ⟨su, pp, step.1 re, rest⟩
  rj := fun _ _ _ canonical => canonical
  notify := fun _ _ ⟨su, pp, re, live, stored, nu⟩ => ⟨su, pp, re, live, stored, noticesCanonical_write _ _ nu⟩
  enlist := fun _ _ _ canonical => canonical
  full := Or.inr fun _ _ canonical => canonical
  su := fun _ _ step ⟨su, rest⟩ => ⟨step su, rest⟩
  pp := fun _ _ step ⟨su, pp, rest⟩ => ⟨su, step pp, rest⟩
  journal := fun _ _ _ canonical => canonical
  clk := fun _ _ canonical => canonical
  cm := fun _ _ canonical => canonical
  ci := fun _ _ _ canonical => canonical
  nu := fun _ _ step _ ⟨su, pp, re, live, stored, nu⟩ => ⟨su, pp, re, live, stored, step nu⟩
  settings := fun _ _ _ stepLive stepStored ⟨su, pp, re, live, stored, nu⟩ =>
    ⟨su, pp, re, stepLive live, stepStored stored, nu⟩
  tables := fun _ _ canonical _ _ ⟨su, pp, _, rest⟩ => ⟨su, pp, canonical, rest⟩
  reset := fun s phase bank0 bank1 _ => s.resetBlocks_canonical phase bank0 bank1

/-- A property that no command breaks, and that the queue of commands has nothing to do with, no step breaks. -/
theorem step_keeps {P : State → Prop} (queue : ∀ (s : State) l, P s → P { s with pending := l })
    (command : ∀ c s t, P s → exec c s = .next t → P t) {s t : State} (held : P s) (taken : step s = .next t) : P t := by
  unfold step at taken
  split at taken
  · obtain rfl : s = t := Host.Outcome.next.inj taken
    exact held
  · exact command _ _ _ (queue _ _ held) taken

/-- Settles O4: each change of a block keeps the tables canonical, so every command and every step does. -/
theorem stepsKeepTheTablesCanonical : Obligations.StepsKeepTheTablesCanonical := by
  intro s t canonical taken
  exact step_keeps (fun _ _ h => h) (fun c _ _ h ht => KeptAll.tablesCanonical.exec c h ht) canonical taken

end Sys2Proof.Machine

end

section
/-! PROOFS. O6 and O7: the part as a reset leaves it. -/

namespace Sys2Proof.Machine

/-! ## The part as a reset leaves it -/

@[simp] theorem RepairEngine.reset_cell (n : Nat) : RepairEngine.reset.cell n = .healthy := rfl
@[simp] theorem RepairEngine.reset_die (n : Nat) : RepairEngine.reset.die n = .untried := rfl
@[simp] theorem RepairEngine.reset_channel (k : Nat) : RepairEngine.reset.channel k = ⟨.free, 0⟩ := rfl
@[simp] theorem RepairEngine.reset_line (l : Nat) : RepairEngine.reset.line l = ⟨.normal, 0, 0⟩ := rfl
@[simp] theorem RepairEngine.reset_suspects : RepairEngine.reset.suspects = [] := rfl
@[simp] theorem RepairEngine.reset_provings : RepairEngine.reset.provings = [] := rfl

/-- Nothing is in use after a reset, so the maps agree (R15, R87). -/
theorem RepairEngine.reset_consistent : RepairEngine.reset.consistent := by
  refine ⟨fun n k => ?_, nofun, nofun, nofun, nofun⟩
  simp

theorem RepairEngine.reset_tallied : RepairEngine.reset.tallied := by
  intro l _
  have none_counted : ∀ n ∈ lineCells l, ¬(RepairEngine.reset.cell n).counted = true := by simp [CellState.counted]
  rw [List.countP_eq_zero.2 none_counted, RepairEngine.reset_line]

section

variable {s : State}

theorem State.inRange_of_reset (repair : s.re = RepairEngine.reset) (stored : s.stored = []) (sense : s.su = SenseUnit.reset) :
    s.inRange := by
  unfold State.inRange State.storedSetting
  rw [repair, stored, sense]
  have cursor : SenseUnit.reset.sweepCursor < 9216 := Nat.zero_lt_succ _
  have idle : SenseUnit.reset.inFlight = none := rfl
  have unnamed : ∀ n k, (RepairEngine.reset.cell n).channel = some k → groupOfChannel k = groupOf n := nofun
  exact ⟨fun _ _ => ⟨rfl, rfl⟩, fun _ _ => rfl, fun _ _ => rfl, fun _ _ => rfl, unnamed, cursor, by simp [idle]⟩

/-- After a reset every subject has its factory image (R15, R125, R127). -/
theorem State.imageOf_of_reset (repair : s.re = RepairEngine.reset) (stored : s.stored = []) (n : Nat) :
    s.imageOf n = factoryImage n := by
  have setting : s.storedSetting (n - 19440) = Config.settingDefault (n - 19440) := by 
    rw [State.storedSetting, stored, Table.read_nil]
  simp only [State.imageOf, factoryImage, repair, setting, RepairEngine.reset_cell, RepairEngine.reset_die,
    RepairEngine.reset_channel, RepairEngine.reset_line, cellImage, dieImage, channelImage, lineImage]

theorem State.liveCounted_of_reset (repair : s.re = RepairEngine.reset) (stored : s.stored = []) (none : s.rj.liveImages = 0) :
    s.liveCounted := by
  have factory : ∀ n ∈ List.range 19483, ¬decide (s.imageOf n ≠ factoryImage n) = true := by
    intro n _
    simp [State.imageOf_of_reset repair stored n]
  unfold State.liveCounted
  rw [List.countP_eq_zero.2 factory, none]

theorem State.settingsInRange_of_reset (live : s.live = []) (stored : s.stored = []) : s.settingsInRange := by
  unfold State.settingsInRange State.setting State.storedSetting
  rw [live, stored]
  decide

theorem State.suspectsLawful_of_reset (repair : s.re = RepairEngine.reset) : s.suspectsLawful := by
  unfold State.suspectsLawful
  rw [repair]
  refine ⟨List.nodup_nil, nofun, fun u doubted => ?_⟩
  obtain ⟨side, n⟩ := u
  cases side <;> rcases doubted with doubted | doubted <;> cases doubted

end

/-- Settles O6: after a reset nothing is listed, owed, in use or in progress. -/
theorem theInvariantsHoldAfterReset : Obligations.TheInvariantsHoldAfterReset := by
  have canonical : State.reset.tablesCanonical := State.reset.resetBlocks_canonical .settling Bank.erased Bank.erased
  have direction : DirectionState.reset.bounded := ⟨Nat.zero_le _, Nat.zero_le _⟩
  have notices : noticesBounded State.reset.nu := ⟨canonical.2.2.2.2.2, nofun⟩
  exact ⟨⟨direction, direction⟩, notices, Nat.zero_le _, Nat.zero_le _, canonical, List.nodup_nil,
    RepairEngine.reset_consistent, State.inRange_of_reset rfl rfl rfl, RepairEngine.reset_tallied,
    State.liveCounted_of_reset rfl rfl rfl, ⟨⟨rfl, rfl⟩, fun _ => rfl, nofun⟩, State.settingsInRange_of_reset rfl rfl,
    State.suspectsLawful_of_reset rfl, fun _ => ⟨rfl, rfl, rfl, rfl, rfl, rfl, rfl, rfl, rfl, rfl⟩, nofun⟩

/-- Settles O7, block by block: each value is the one its block's reset gives it. -/
theorem resetLeavesTheStatedValues : Obligations.ResetLeavesTheStatedValues := by
  have ports : ∀ p, (State.reset.ci.port p).live = false := fun p => by cases p <;> rfl
  have directions : ∀ p, (State.reset.ci.direction p).hop = none ∧ (State.reset.ci.direction p).queue = [] :=
    fun p => by cases p <;> exact ⟨rfl, rfl⟩
  have maps : (∀ n, State.reset.re.cell n = .healthy ∧ State.reset.re.die n = .untried) ∧
      (∀ k, State.reset.re.channel k = ⟨.free, 0⟩) ∧ ∀ l, State.reset.re.line l = ⟨.normal, 0, 0⟩ :=
    ⟨fun _ => ⟨rfl, rfl⟩, fun _ => rfl, fun _ => rfl⟩
  obtain ⟨cells, channels, lines⟩ := maps
  refine ⟨cells, channels, lines, rfl, rfl, rfl, fun _ => ⟨rfl, rfl⟩, rfl, rfl, rfl, rfl, rfl, fun _ => rfl, rfl, rfl, rfl,
    rfl, rfl, rfl, rfl, rfl, ports, directions, rfl, rfl, rfl, rfl, fun _ => rfl, fun _ => ⟨rfl, rfl⟩, rfl, rfl, rfl, rfl,
    rfl⟩

end Sys2Proof.Machine

end

section
/-! PROOFS. O29: what the outputs carry. -/

namespace Sys2Proof.Machine

/-! ## The output (R28, R31, R33, R34) -/

/-- The output is black exactly while one of the five blank causes is present (R34). -/
theorem State.black_iff (s : State) :
    s.black = true ↔ s.pp.startUp = true ∨ s.pp.stale = true ∨ s.mute = true ∨ s.cm.blank = true ∨
      s.pp.showing.dark = true := by
  simp [State.black, State.blankCauses]

/-- MUTE is present exactly while its setting is ON and the feed port is marked (R36). -/
theorem State.mute_iff (s : State) :
    s.mute = true ↔ s.setting 5 = 1 ∧ ∃ p, s.ci.feed = some p ∧ (s.ci.port p).mark = true := by
  unfold State.mute
  cases s.ci.feed with
  | none => simp
  | some p =>
    change (decide (s.setting 5 = 1) && (s.ci.port p).mark) = true ↔ _
    simp

/-- Picture current flows exactly while the scan engine runs, nothing blanks the output, and no gap is open. -/
theorem State.lit_iff (s : State) : s.lit = true ↔ s.black = false ∧ s.forwarding = true ∧ s.pp.gap = none := by
  simp [State.lit, Option.isNone_iff_eq_none]
  tauto

theorem State.not_lit_iff (s : State) : s.lit = false ↔ s.black = true ∨ s.forwarding = false ∨ s.pp.gap ≠ none := by
  rw [← Bool.not_eq_true, State.lit_iff]
  simp [imp_iff_not_or]

/-- A channel is connected to the die of the cell that it names in PROVING, RECORDING or BOUND (R6). -/
theorem ChannelState.cell_eq_some_iff (c : ChannelState) (n : Nat) :
    c.cell = some n ↔ c = .proving n ∨ c = .recording n ∨ c = .bound n := by
  cases c <;> simp [ChannelState.cell]

/-- What drives the C-line of a position: the cell there, if its active route is its primary one (R31). -/
theorem State.cLineDrive_eq (s : State) (row column colour : Nat) (h : colour < 3) :
    s.cLineDrive row (column * 3 + colour) =
      if s.pp.route (cellAt row column colour) = .primary then
        if s.lit then s.drivenValue (cellAt row column colour) else 0
      else 0 := by
  have position : (column * 3 + colour) / 3 = column ∧ (column * 3 + colour) % 3 = colour := by omega
  unfold State.cLineDrive
  rw [position.1, position.2]
  cases route : s.pp.route (cellAt row column colour) <;> simp [route]

/-- What a spare channel carries into the die of a cell: picture current while the active route names the channel and the
channel is connected to the die (R6, R31). -/
theorem State.spareDrive_eq (s : State) (n k : Nat) :
    s.spareDrive n k =
      if s.pp.route n = .spare k ∧ (s.re.channel k).state.cell = some n ∧ s.lit = true then s.drivenValue n else 0 := by
  unfold State.spareDrive
  cases route : s.pp.route n <;> simp

/-- Settles O29, through what each output carries when the part is lit and when it is not. -/
theorem theActiveRouteDrivesTheCell : Obligations.TheActiveRouteDrivesTheCell := by
  refine ⟨fun s => ⟨s.black_iff, s.mute_iff⟩, fun s row column colour k _ _ below => ⟨fun dark => ?_, fun light run gap => ?_⟩⟩
  · have unlit := s.not_lit_iff.2 dark
    rw [s.cLineDrive_eq _ _ _ below, s.spareDrive_eq, unlit]
    simp
  · have lit := s.lit_iff.2 ⟨light, run, gap⟩
    rw [s.cLineDrive_eq _ _ _ below, s.spareDrive_eq, lit]
    simp [State.drivenValue, driven, ChannelState.cell_eq_some_iff]

end Sys2Proof.Machine

end

section
/-! PROOFS. O28: what each block leaves alone at a frame start, and the routes that one sets. -/

namespace Sys2Proof.Machine

/-! ## What each block's work at a frame start leaves alone -/

@[simp] theorem State.notifyConditions_clk (s : State) : s.notifyConditions.clk = s.clk := rfl
@[simp] theorem State.notifyConditions_live (s : State) : s.notifyConditions.live = s.live := rfl
@[simp] theorem State.notifyConditions_stored (s : State) : s.notifyConditions.stored = s.stored := rfl
@[simp] theorem State.notifyConditions_pp (s : State) : s.notifyConditions.pp = s.pp := rfl
@[simp] theorem State.notifyConditions_su (s : State) : s.notifyConditions.su = s.su := rfl
@[simp] theorem State.notifyConditions_re (s : State) : s.notifyConditions.re = s.re := rfl
@[simp] theorem State.notifyConditions_rj (s : State) : s.notifyConditions.rj = s.rj := rfl

/-- A temperature sample stays inside the Condition Monitor and the notices (R147). -/
theorem State.sample_frame (s : State) (x : Int) :
    (s.sample x).clk = s.clk ∧ (s.sample x).live = s.live ∧ (s.sample x).stored = s.stored ∧ (s.sample x).pp = s.pp ∧
      (s.sample x).su = s.su ∧ (s.sample x).re = s.re ∧ (s.sample x).rj = s.rj := by
  unfold State.sample
  dsimp only
  split <;> simp

/-- The end of a survey stays inside the Sense Unit and the notices (R70). -/
theorem State.endSurvey_frame (s : State) (o : SurveyOutcome) :
    (s.endSurvey o).clk = s.clk ∧ (s.endSurvey o).live = s.live ∧ (s.endSurvey o).stored = s.stored ∧
      (s.endSurvey o).pp = s.pp ∧ (s.endSurvey o).re = s.re ∧ (s.endSurvey o).rj = s.rj := by
  unfold State.endSurvey
  split <;> simp

/-- The Sense Unit's work at a frame start stays inside it and the notices (R52, R63, R68). -/
theorem State.senseFrame_frame (s : State) :
    s.senseFrame.clk = s.clk ∧ s.senseFrame.live = s.live ∧ s.senseFrame.stored = s.stored ∧ s.senseFrame.pp = s.pp ∧
      s.senseFrame.re = s.re ∧ s.senseFrame.rj = s.rj := by
  unfold State.senseFrame
  dsimp only
  split
  · exact State.endSurvey_frame _ _
  · simp

/-- The buffers and counters of a new frame leave the routes and the open gap alone (R26, R29). -/
theorem State.newFrame_routes (s : State) (complete : Bool) :
    (s.newFrame complete).pp.active = s.pp.active ∧ (s.newFrame complete).pp.pendingRoutes = s.pp.pendingRoutes ∧
      (s.newFrame complete).pp.startUp = s.pp.startUp ∧ (s.newFrame complete).pp.gap = s.pp.gap := by
  cases complete <;> exact ⟨rfl, rfl, rfl, rfl⟩

/-- With an empty suspect list and no proving the Repair Engine has nothing to do at a frame start. -/
theorem State.repairFrame_idle {s : State} (suspects : s.re.suspects = []) (provings : s.re.provings = []) :
    s.repairFrame = s := by
  have dues : s.lowerDues = s := by
    unfold State.lowerDues State.setSuspects
    rw [suspects, List.map_nil, ← suspects]
    rfl
  have ages : s.raiseAges = s := by
    have same : s.setProvings (s.re.provings.map fun p => { p with age := p.age + 1 }) = s := by
      unfold State.setProvings
      rw [provings, List.map_nil, ← provings]
      rfl
    unfold State.raiseAges
    dsimp only
    rw [same, provings]
    rfl
  unfold State.repairFrame
  rw [dues, ages]
  exact s.reconsider_of_no_candidate (by simp [State.candidate, suspects])

/-! ## The routes at a frame start (R31, R35) -/

/-- Applying pending routes in a canonical set: a cell takes the route posted for it, or keeps its own (R31). -/
theorem PixelPath.applyPending_read (pending : Table (Option Route)) (active : Table Route)
    (canonical : Table.wf (fun _ => (none : Option Route)) pending) (n : Nat) :
    Table.read (fun _ => Route.blank) (pending.foldl (fun t e => match e.2 with
      | some r => Table.write (fun _ => Route.blank) t e.1 r
      | none => t) active) n =
      (Table.read (fun _ => none) pending n).getD (Table.read (fun _ => Route.blank) active n) := by
  induction pending generalizing active with
  | nil => rfl
  | cons entry rest ih =>
    obtain ⟨k, route⟩ := entry
    have later := List.pairwise_cons.1 canonical.1
    have tail : Table.wf (fun _ => (none : Option Route)) rest :=
      ⟨later.2, fun e listed => canonical.2 e (List.mem_cons_of_mem _ listed)⟩
    rw [List.foldl_cons, ih _ tail, Table.read_cons]
    cases route with
    | none => exact absurd rfl (canonical.2 (k, none) List.mem_cons_self)
    | some r =>
      by_cases here : k = n
      · subst here
        have unlisted : Table.read (fun _ => (none : Option Route)) rest k = none :=
          Table.read_of_not_mem fun e listed => (later.1 e listed).ne'
        simp [unlisted]
      · simp [here, Table.read_write_ne _ _ _ _ _ here]

theorem PixelPath.applyPending_route (pp : PixelPath) (canonical : pp.canonical) (n : Nat) :
    Table.read (fun _ => Route.blank) pp.applyPending n = (pp.pendingRoute n).getD (pp.route n) :=
  PixelPath.applyPending_read pp.pendingRoutes pp.active canonical.2.1 n

theorem State.applyRoutes_frame (s : State) :
    s.applyRoutes.clk = s.clk ∧ s.applyRoutes.live = s.live ∧ s.applyRoutes.stored = s.stored ∧
      s.applyRoutes.su = s.su ∧ s.applyRoutes.re = s.re ∧ s.applyRoutes.rj = s.rj ∧ s.applyRoutes.pp.pendingRoutes = [] ∧
      s.applyRoutes.pp.gap = s.pp.gap := by
  unfold State.applyRoutes
  split <;> simp

/-- The first frame start in operation clears START-UP and sets every route from its cell's state (R35). -/
theorem State.applyRoutes_startUp {s : State} (run : s.operating = true) (first : s.pp.startUp = true) :
    s.applyRoutes.pp.startUp = false ∧ ∀ n < 9216, s.applyRoutes.pp.route n = s.re.calledRoute n := by
  have shows := Table.read_ofFunction (fun _ => Route.blank) Config.cells s.re.calledRoute
  unfold State.applyRoutes
  simp only [run, first, Bool.and_self, if_true]
  generalize Table.ofFunction (fun _ => Route.blank) Config.cells s.re.calledRoute = table at shows ⊢
  exact ⟨rfl, fun n shown => (shows n).trans (if_pos shown)⟩

/-- Every other frame start applies the pending routes (R31). -/
theorem State.applyRoutes_later {s : State} (later : s.operating = false ∨ s.pp.startUp = false)
    (canonical : s.pp.canonical) :
    s.applyRoutes.pp.startUp = s.pp.startUp ∧
      ∀ n, s.applyRoutes.pp.route n = (s.pp.pendingRoute n).getD (s.pp.route n) := by
  have unset : (s.operating && s.pp.startUp) = false := by
    rcases later with stands | cleared
    · simp [stands]
    · simp [cleared]
  unfold State.applyRoutes
  simp only [unset, Bool.false_eq_true, if_false]
  exact ⟨rfl, fun n => PixelPath.applyPending_route s.pp canonical n⟩

/-- The state of a frame start in which the routes are next to be set: the blocks before the Pixel Path's routes have done
their work (log 16). -/
def State.beforeRoutes (s : State) (sensor : Int) (complete : Bool) : State :=
  (((s.newFrame complete).sample sensor).senseFrame).repairFrame

/-- A frame start that is no reset point: the blocks' work, then the routes, then the output scale (log 16). -/
theorem State.frameStart_eq {s : State} (sensor : Int) (complete : Bool) (h : s.clk.reset ≠ .ready) :
    s.frameStart sensor complete = ((s.beforeRoutes sensor complete).applyRoutes).latchScale := if_neg h

/-- A frame start at which the Repair Engine has nothing of its own to do leaves everything but the Pixel Path, the Sense
Unit, the conditions and the notices as it was, and the routes as they were until they are set. -/
theorem State.beforeRoutes_idle (s : State) (sensor : Int) (complete : Bool) (suspects : s.re.suspects = [])
    (provings : s.re.provings = []) :
    s.beforeRoutes sensor complete = ((s.newFrame complete).sample sensor).senseFrame := by
  obtain ⟨_, _, _, _, _, re, _⟩ := State.sample_frame (s.newFrame complete) sensor
  obtain ⟨_, _, _, _, re', _⟩ := State.senseFrame_frame ((s.newFrame complete).sample sensor)
  have kept : (((s.newFrame complete).sample sensor).senseFrame).re = s.re := re'.trans re
  exact State.repairFrame_idle (by rw [kept, suspects]) (by rw [kept, provings])

/-- The route table of R14. -/
theorem calledRoute_table (r : RepairEngine) (n : Nat) :
    (r.cell n = .healthy ∨ r.cell n = .suspect → r.calledRoute n = .primary) ∧
    (∀ k, r.cell n = .spared k → (r.die n = .good ∨ r.die n = .suspect → r.calledRoute n = .spare k) ∧
      (r.die n = .condemned → r.calledRoute n = .blank)) ∧
    (r.cell n = .condemned ∨ (∃ phase k, r.cell n = .pendingSpare phase k) ∨ (∃ reason, r.cell n = .concealed reason) →
      r.calledRoute n = .blank) := by
  unfold RepairEngine.calledRoute
  refine ⟨?_, fun k spared => ⟨?_, ?_⟩, ?_⟩
  · rintro (cell | cell) <;> rw [cell] <;> rfl
  · rintro (die | die) <;> rw [spared, die] <;> rfl
  · intro die
    rw [spared, die]
    rfl
  · rintro (cell | ⟨phase, k, cell⟩ | ⟨reason, cell⟩) <;> rw [cell] <;> rfl

/-- Settles O28: with nothing for the Repair Engine to do, the routes that a frame start sets are those that it found posted,
or after start-up those that the cells' states call for. -/
theorem aFrameStartAppliesThePendingRoutes : Obligations.AFrameStartAppliesThePendingRoutes := by
  refine ⟨calledRoute_table, fun s sensor run noReset canonical suspects provings => ?_⟩
  obtain ⟨clk, _, _, pp, _, re, rj⟩ := State.sample_frame ((s.reach s.timerEnd).newFrame false) sensor
  obtain ⟨clk', _, _, pp', re', rj'⟩ := State.senseFrame_frame (((s.reach s.timerEnd).newFrame false).sample sensor)
  have found := State.beforeRoutes_idle (s.reach s.timerEnd) sensor false suspects provings
  have taken : exec (.frameTimerExpiry sensor) s =
      .next (((s.reach s.timerEnd).beforeRoutes sensor false).applyRoutes).latchScale := by
    change Host.Outcome.next (if s.forwarding then s.timerExpiry sensor else s) = _
    rw [if_pos run]
    exact congrArg _ (State.frameStart_eq sensor false noReset)
  refine ⟨_, taken, ?_⟩
  rw [found]
  generalize hu : (((s.reach s.timerEnd).newFrame false).sample sensor).senseFrame = u at *
  have ppu : u.pp = ((s.reach s.timerEnd).newFrame false).pp := pp'.trans pp
  have reu : u.re = s.re := re'.trans re
  have operates : u.operating = s.operating := by
    unfold State.operating
    rw [clk', clk]
    rfl
  have startUp : u.pp.startUp = s.pp.startUp := by rw [ppu]; rfl
  have canonicalu : u.pp.canonical := by
    rw [ppu]
    exact ⟨canonical.1, canonical.2.1, Table.wf_nil _, canonical.2.2.2.1, Table.wf_nil _⟩
  obtain ⟨_, _, _, _, re'', rj'', emptied, _⟩ := u.applyRoutes_frame
  refine ⟨emptied, re''.trans reu, rj''.trans (rj'.trans rj), fun operating first => ?_, fun later => ?_⟩
  · have set := State.applyRoutes_startUp (operates.trans operating) (startUp.trans first)
    rw [reu] at set
    exact set
  · have applied := State.applyRoutes_later (by rw [operates, startUp]; exact later) canonicalu
    rw [startUp] at applied
    refine ⟨applied.1, fun n => (applied.2 n).trans ?_⟩
    rw [ppu]
    rfl

end Sys2Proof.Machine

end

section
/-! PROOFS. Requests that only report: how they are answered, and the fields of the reports. -/

namespace Sys2Proof.Machine

/-! ## Requests that only report (R164) -/

/-- A request is its block's while the part is in operation, and IDENTIFY at any time (R164, R165). -/
theorem State.decideRequest_open {s : State} {r : Request} {kind : Byte} (op : State → State × Answer)
    (runs : s.operating = true ∨ kind = 1) (known : knownKind kind = true)
    (other : kind ≠ 2) : s.decideRequest r kind op = op s := by
  rcases runs with runs | rfl
  · exact State.decideRequest_operating op runs known (Or.inl other)
  · have first : knownKind 1#8 = true := rfl
    simp [State.decideRequest, first]

/-- A taken request of a known kind that its block refuses or reports on (R164). -/
theorem State.request_reports {s : State} {r : Request} {kind : Byte} {op : State → State × Answer} {status : Status}
    {body : List Byte} (taken : s.accepts r = true) (runs : s.operating = true ∨ kind = 1) (known : knownKind kind = true)
    (other : kind ≠ 2) (answer : op (s.heard r kind) = (s.heard r kind, ⟨status, body⟩)) :
    s.request r kind op = (s.heard r kind).answered r kind s.pp.frame status body := by
  rw [State.request_accepted taken, State.decideRequest_open op (by simpa using runs) known other, answer]

/-- What a kind does whose body is one number below a limit, and which reports on it. -/
def reportOp (number : Option Nat) (limit : Nat) (report : State → Nat → List Byte) (s : State) : State × Answer :=
  match number with
  | none => s.refuse .malformed
  | some n => if n < limit then s.answer (report s n) else s.refuse .outOfRange

/-- A kind that reports on one number, as the statements about reads have it. -/
theorem State.reportsByNumber_of {s : State} {r : Request} {kind : Byte} {c : Instr} {number : Option Nat} {limit : Nat}
    {fields : Nat → List Byte} (report : State → Nat → List Byte) (taken : s.serves r) (known : knownKind kind = true)
    (other : kind ≠ 2) (command : exec c s = .next (s.request r kind (reportOp number limit report)))
    (packed : ∀ n, report (s.heard r kind) n = fields n) : s.reportsByNumber r kind c number limit fields := by
  refine ⟨fun malformed => ?_, fun n found far => ?_, fun n found near => ?_⟩ <;> rw [command]
  · exact congrArg _ (State.request_reports taken.1 (Or.inl taken.2) known other (by
      simp only [reportOp, malformed]
      rfl))
  · exact congrArg _ (State.request_reports taken.1 (Or.inl taken.2) known other (by
      simp only [reportOp, found, if_neg (Nat.not_lt.2 far)]
      rfl))
  · rw [← packed]
    exact congrArg _ (State.request_reports taken.1 (Or.inl taken.2) known other (by
      simp only [reportOp, found, if_pos near]
      rfl))

/-- A kind with an empty body that reports, as the statements about reads have it. -/
theorem State.reportsAtOnce_of {s : State} {r : Request} {kind : Byte} {c : Instr} {fields : List Byte}
    (report : State → List Byte) (taken : s.accepts r = true)
    (runs : s.operating = true ∨ kind = 1) (known : knownKind kind = true) (other : kind ≠ 2)
    (command : exec c s = .next (s.request r kind fun t => t.emptyBody r.body fun u => u.answer (report u)))
    (packed : report (s.heard r kind) = fields) : s.reportsAtOnce r kind c fields := by
  refine ⟨fun long => ?_, fun empty => ?_⟩ <;> rw [command]
  · refine congrArg _ (State.request_reports taken runs known other ?_)
    rw [State.emptyBody, if_neg (by simpa using long)]
    rfl
  · rw [← packed]
    refine congrArg _ (State.request_reports taken runs known other ?_)
    rw [State.emptyBody, if_pos (by simpa using empty)]
    rfl

/-! ## What a record's passage leaves of what the reports read -/

@[simp] theorem State.heard_setting (s : State) (r : Request) (k : Byte) (n : Nat) :
    (s.heard r k).setting n = s.setting n := by
  simp [State.setting]

@[simp] theorem State.heard_storedSetting (s : State) (r : Request) (k : Byte) (n : Nat) :
    (s.heard r k).storedSetting n = s.storedSetting n := by
  simp [State.storedSetting]

@[simp] theorem State.heard_notice (s : State) (r : Request) (k : Byte) (n : Nat) :
    (s.heard r k).notice n = s.notice n := by
  simp [State.notice]

@[simp] theorem State.heard_feed (s : State) (r : Request) (k : Byte) : (s.heard r k).ci.feed = s.ci.feed := by
  simp [State.heard_eq]

@[simp] theorem State.heard_pendingSwitch (s : State) (r : Request) (k : Byte) :
    (s.heard r k).ci.pendingSwitch = s.ci.pendingSwitch := by
  simp [State.heard_eq]

@[simp] theorem State.heard_returnCount (s : State) (r : Request) (k : Byte) :
    (s.heard r k).ci.returnCount = s.ci.returnCount := by
  simp [State.heard_eq]

@[simp] theorem State.heard_hop (s : State) (r : Request) (k : Byte) :
    (s.heard r k).ci.forward.hop = s.ci.forward.hop ∧ (s.heard r k).ci.reverse.hop = s.ci.reverse.hop := by
  rw [State.heard_eq]
  cases r.lane <;> exact ⟨rfl, rfl⟩

@[simp] theorem State.heard_condemnedMark (s : State) (r : Request) (k : Byte) (e : Entry) :
    (s.heard r k).condemnedMark e = s.condemnedMark e := by
  simp [State.condemnedMark]

theorem State.condemnedMark_eq (s : State) (e : Entry) : s.condemnedMark e = decide (e.evidence = s.setting 13) := rfl

/-! ## The reports, field by field -/

/-- The fields of an entry in READ_CELL (R16). -/
theorem State.entryFields_eq (s : State) (u : UnitId) :
    s.entryFields u = match s.re.entry u with
      | some e => byte1 e.kind.code ++ byte1 e.evidence ++ [if e.evidence = s.setting 13 then 1 else 0]
      | none => [0xFF, 0xFF, 0xFF] := by
  unfold State.entryFields
  cases s.re.entry u with
  | none => rfl
  | some e => simp [flag, State.condemnedMark_eq]

/-- A mark in one byte. -/
theorem flag_eq (p : Prop) [Decidable p] : flag (decide p) = [if p then 1 else 0] := by
  by_cases h : p <;> simp [flag, h]

theorem flag_bool (b : Bool) : flag b = [if b then 1 else 0] := by
  cases b <;> rfl

theorem LineState.byte1_code (v : LineState) : byte1 v.code = [if v = .held then 1 else 0] := by
  cases v <;> rfl

/-- The reason field of READ_CELL (R16). -/
theorem CellState.reason_bytes (c : CellState) :
    opt1 (c.reason.map Reason.code) = match c with | .concealed reason => byte1 reason.code | _ => [0xFF] := by
  cases c <;> rfl

/-- The phase field of READ_CELL (R16). -/
theorem CellState.phase_bytes (c : CellState) :
    opt1 (c.phase.map Phase.code) = match c with | .pendingSpare phase _ => byte1 phase.code | _ => [0xFF] := by
  cases c <;> rfl

/-- The channel and strike fields of READ_CELL (R16). -/
theorem channel_bytes (re : RepairEngine) (named : Option Nat) (rest : List Byte) :
    opt2 named ++ (opt1 (named.map fun k => (re.channel k).strike) ++ rest) =
      (match named with
      | some k => byte2 k ++ byte1 (re.channel k).strike
      | none => [0xFF, 0xFF, 0xFF]) ++ rest := by
  cases named <;> rfl

/-- The age field of READ_CELL (R16). -/
theorem RepairEngine.age_bytes (re : RepairEngine) (n : Nat) :
    opt1 (re.provingAge n) = match re.cell n with
      | .pendingSpare _ k =>
        match re.provings.find? (fun p => decide (p.channel = k)) with
        | some p => byte1 p.age
        | none => [0xFF]
      | _ => [0xFF] := by
  unfold RepairEngine.provingAge
  cases re.cell n with
  | pendingSpare _ k =>
    dsimp only
    cases re.provings.find? fun p => decide (p.channel = k) <;> rfl
  | _ => rfl

/-- A route's field of READ_CELL (R16). -/
theorem routeBytes_eq (route : Route) :
    routeBytes route = match route with
      | .primary => [0, 0xFF, 0xFF]
      | .spare k => 1 :: byte2 k
      | .blank => [2, 0xFF, 0xFF] := by
  cases route <;> rfl

/-- The place of the first condemned entry, and whether there is one, which is the head state (R86; log 34). -/
theorem State.head_bytes (s : State) :
    byte1 (if s.candidate.isSome then 1 else 0) ++ opt1 (s.re.suspects.findIdx? s.condemnedMark) =
      match s.re.suspects.findIdx? s.condemnedMark with
      | some i => 1 :: byte1 i
      | none => [0, 0xFF] := by
  have together : s.candidate.isSome = (s.re.suspects.findIdx? s.condemnedMark).isSome := by
    rw [Bool.eq_iff_iff]
    simp [State.candidate]
  rw [together]
  cases s.re.suspects.findIdx? s.condemnedMark <;> rfl

end Sys2Proof.Machine

end

section
/-! PROOFS. The fields of the journal's, the feed's and the notices' reports. -/

namespace Sys2Proof.Machine

/-- The writer's number, step and state to return to in READ-JOURNAL (R145; log 21). -/
theorem Journal.writer_bytes (j : Journal) :
    byte1 j.writer.code ++ opt1 (j.writer.step.map CompactionStep.code) ++ opt1 (j.returnsTo.map Writer.code) =
      (match j.writer with
        | .idle => [0, 0xFF, 0xFF]
        | .writing => [1, 0xFF, 0xFF]
        | .compacting .erase => [2, 0, 0xFF]
        | .compacting .snapshot => [2, 1, 0xFF]
        | .compacting .finish => [2, 2, 0xFF]
        | .erasingOld => [3, 0xFF, 0xFF]
        | .held true => [4, 0xFF, 5]
        | .held false => [4, 0xFF, if j.due then (if 960 < j.liveImages then 5 else 2) else if j.owed = [] then 0 else 1]
        | .full => [5, 0xFF, 0xFF]
        | .faulted => [6, 0xFF, 0xFF] : List Byte) := by
  unfold Journal.returnsTo
  rcases j.writer with _ | _ | (_ | _ | _) | _ | (_ | _) | _ | _
  case held.false =>
    cases due : j.due with
    | true =>
      by_cases many : 960 < j.liveImages
      · simp [many, Config.fullImages, Writer.code, Writer.step, opt1, byte1]
      · simp [many, Config.fullImages, Writer.code, Writer.step, opt1, byte1]
    | false => cases owed : j.owed <;> simp [Journal.free, owed, Writer.code, Writer.step, opt1, byte1]
  all_goals rfl

/-- The active bank's fields in READ-JOURNAL (R145; log 44). -/
theorem Journal.bank_bytes (j : Journal) (before : List Byte) :
    before ++ byte1 (bankCode j.active) ++ opt3 (j.active.map fun i => (j.bank i).generation) ++ byte2 j.used ++
      byte2 j.tornSlots =
      before ++ (match j.active with
        | none => [2, 0xFF, 0xFF, 0xFF, 0, 0, 0, 0]
        | some i => (match i with | .zero => 0 | .one => 1) :: byte3 (j.bank i).generation ++
          byte2 (j.bank i).slots.length ++ byte2 ((j.bank i).slots.countP fun x => decide (x = .torn))) := by
  unfold Journal.used Journal.tornSlots
  simp only [List.append_assoc]
  refine congrArg _ ?_
  cases j.active with
  | none => simp [opt3, bankCode, byte1, byte2]
  | some i => cases i <;> rfl

theorem Journal.walk_bytes (j : Journal) :
    opt2 j.walkPosition = match j.writer with | .compacting .snapshot => byte2 j.walk | _ => [0xFF, 0xFF] := by
  unfold Journal.walkPosition
  rcases j.writer with _ | _ | (_ | _ | _) | _ | _ | _ | _ <;> rfl

theorem opt2_head (l : List Nat) : opt2 l.head? = match l with | n :: _ => byte2 n | [] => [0xFF, 0xFF] := by
  cases l <;> rfl

theorem feedCode_byte (feed : Option Port) :
    byte1 (feedCode feed) = [match feed with | some .a => 0 | some .b => 1 | none => 2] := by
  rcases feed with _ | (_ | _) <;> rfl

theorem pendingSwitch_byte (switch : Option Port) :
    opt1 (switch.map portCode) = [match switch with | some .a => 0 | some .b => 1 | none => 0xFF] := by
  rcases switch with _ | (_ | _) <;> rfl

theorem State.preferredPort_byte (s : State) : byte1 (portCode s.preferredPort) = [if s.setting 24 = 0 then 0 else 1] := by
  change byte1 (portCode (if s.setting 24 = 0 then .a else .b)) = _
  split <;> rfl

theorem yesNo_byte (b : Bool) : byte1 (if b then 1 else 0) = [if b then 1 else 0] := by
  cases b <;> rfl

/-- A port's fields in READ-FEED (R168). -/
theorem PortMonitor.fields_eq (m : PortMonitor) :
    m.fields = ([if m.live then 1 else 0] : List Byte) ++
      (match m.history with | some period => byte3 period | none => [0xFF, 0xFF, 0xFF]) ++ [if m.mark then 1 else 0] := by
  unfold PortMonitor.fields
  cases m.live <;> cases m.history <;> rfl

/-- The set of blank causes in READ-FEED: one bit each, in the order of section 2.7 (R156, R168). -/
theorem State.blankCauses_set (s : State) :
    nameSet s.blankCauses = (if s.pp.startUp then 1 else 0) + (if s.pp.stale then 2 else 0) + (if s.mute then 4 else 0) +
      (if s.cm.blank then 8 else 0) + (if s.pp.showing.dark then 16 else 0) := by
  unfold State.blankCauses
  cases s.pp.startUp <;> cases s.pp.stale <;> cases s.mute <;> cases s.cm.blank <;> cases s.pp.showing.dark <;> rfl

/-- The kinds that COLLECT lists (R173). -/
theorem State.pendingFrom_eq (s : State) (first : Nat) :
    s.pendingFrom first = (List.range 15).filter fun k => decide (first ≤ k) && decide ((s.notice k).count ≠ 0) := by
  unfold State.pendingFrom State.pendingKinds
  rw [List.filter_filter]
  refine List.filter_congr fun k _ => ?_
  simp only [Nat.one_le_iff_ne_zero]

@[simp] theorem State.heard_mute (s : State) (r : Request) (k : Byte) : (s.heard r k).mute = s.mute := by
  simp [State.mute]

end Sys2Proof.Machine

end

section
/-! PROOFS. O40: the reading requests. -/

namespace Sys2Proof.Machine

/-- Settles O40: each reading request changes nothing (`reportsByNumber_of`, `reportsAtOnce_of`), and its report's fields are
the stated ones, one lemma for each field that is packed with a choice. -/
theorem readsReportAndChangeNothing : Obligations.ReadsReportAndChangeNothing := by
  refine ⟨fun s r taken => ⟨?cell, ?group, ?line, ?suspects⟩,
    fun s r taken => ⟨?journal, fun kinds listed => ?collect, ?feed, ?getMalformed, ?getRange, ?get⟩,
    fun s r taken => ?identify, ⟨rfl, rfl, rfl, rfl, rfl, rfl⟩, ?details⟩
  case cell =>
    refine State.reportsByNumber_of State.cellReport taken rfl (by decide) rfl fun n => ?_
    unfold State.cellReport
    simp only [State.heard_re, State.heard_pp, State.heard_rj, State.entryFields_eq, State.heard_setting,
      CellState.reason_bytes, CellState.phase_bytes, channel_bytes, RepairEngine.age_bytes, LineState.byte1_code, flag_eq,
      List.flatMap_cons, List.flatMap_nil, List.append_nil, List.append_assoc, List.cons_append, List.nil_append, cellSubject]
    rcases s.pp.route n with _ | k | _ <;> rcases s.pp.pendingRoute n with _ | _ | k | _ <;> rfl
  case group =>
    refine State.reportsByNumber_of State.groupReport taken rfl (by decide) rfl fun g => ?_
    unfold State.groupReport
    rw [State.heard_re]
    rfl
  case line =>
    refine State.reportsByNumber_of State.lineReport taken rfl (by decide) rfl fun l => ?_
    unfold State.lineReport State.lineLimit
    simp only [State.heard_re, State.heard_setting, LineState.byte1_code]
    rfl
  case suspects =>
    refine State.reportsByNumber_of State.suspectsReport taken rfl (by decide) rfl fun first => ?_
    have mark : (s.heard r 9).condemnedMark = fun e => decide (e.evidence = s.setting 13) := by
      funext e
      rw [State.heard_condemnedMark, State.condemnedMark_eq]
    have head := (s.heard r 9).head_bytes
    unfold State.suspectsReport State.suspectFields
    rw [List.append_assoc (byte1 _ ++ byte1 _), head]
    simp only [mark, State.heard_re, State.heard_setting, decide_eq_true_eq]
    rfl
  case journal =>
    refine State.reportsAtOnce_of (fun t => t.rj.fields) taken.1 (Or.inl taken.2) rfl (by decide) rfl ?_
    rw [State.heard_rj]
    unfold Journal.fields
    rw [Journal.writer_bytes, Journal.bank_bytes, Journal.walk_bytes, opt2_head, flag_bool, flag_bool] <;>
      rfl
  case collect =>
    have pending : ∀ first, s.pendingFrom first = kinds first := fun first =>
      (s.pendingFrom_eq first).trans (listed first).symm
    have passage : ∀ first, (s.heard r 25).pendingFrom first = s.pendingFrom first := fun first => by
      simp only [State.pendingFrom_eq, State.heard_notice]
    have number : (fun t : State => collectOp r.body t) = reportOp (oneByte r.body) 15 State.collected := by
      funext t
      unfold collectOp reportOp
      cases oneByte r.body with
      | none => rfl
      | some first =>
        by_cases near : first < 15
        · simp [near, Nat.not_lt.2 (Nat.le_of_lt_succ near)]
        · simp [near, Nat.lt_of_succ_le (Nat.not_lt.1 near)]
    refine State.reportsByNumber_of State.collected taken rfl (by decide)
      (congrArg (fun op => Host.Outcome.next (s.request r 25 op)) number) fun first => ?_
    unfold State.collected State.detailBytes
    simp only [passage, pending, State.heard_notice, List.length_take, Nat.min_comm 4]
    cases (kinds first).drop 4 <;> rfl
  case feed =>
    refine State.reportsAtOnce_of State.feedReport taken.1 (Or.inl taken.2) rfl (by decide) rfl ?_
    have ports : (s.heard r 27).ci.portA = s.ci.portA ∧ (s.heard r 27).ci.portB = s.ci.portB :=
      ⟨s.heard_port r 27 .a, s.heard_port r 27 .b⟩
    unfold State.feedReport
    simp only [ports, feedCode_byte, pendingSwitch_byte, State.preferredPort_byte, PortMonitor.fields_eq, yesNo_byte,
      flag_bool, State.blankCauses_set, State.heard_feed, State.heard_pendingSwitch, State.heard_returnCount,
      State.heard_setting, State.heard_pp, State.heard_cm, State.heard_mute, List.flatMap_cons, List.flatMap_nil,
      List.append_nil, List.append_assoc, List.cons_append, List.nil_append]
    rfl
  case getMalformed =>
    refine fun malformed => congrArg Host.Outcome.next (State.request_reports taken.1 (Or.inl taken.2) rfl (by decide) ?_)
    unfold getOp
    rw [malformed]
    rfl
  case getRange =>
    refine fun first count found wide => congrArg Host.Outcome.next (State.request_reports taken.1 (Or.inl taken.2) rfl (by decide) ?_)
    unfold getOp
    rw [found]
    have refused : Config.settings ≤ first ∨ count < 1 ∨ 10 < count ∨ Config.settings < first + count := by
      unfold Config.settings
      omega
    exact if_pos refused
  case get =>
    refine fun first count found some few inside =>
      congrArg Host.Outcome.next (State.request_reports taken.1 (Or.inl taken.2) rfl (by decide) ?_)
    have allowed : ¬(Config.settings ≤ first ∨ count < 1 ∨ 10 < count ∨ Config.settings < first + count) := by
      unfold Config.settings
      omega
    unfold getOp
    rw [found]
    dsimp only
    rw [if_neg allowed]
    unfold State.answer State.settingValues
    simp only [State.heard_setting, State.heard_storedSetting]
  case identify =>
    refine State.reportsAtOnce_of State.identity taken (Or.inr rfl) rfl (by decide) rfl ?_
    unfold State.identity State.journalSummary
    simp only [State.heard_operating, State.heard_setting, State.heard_feed, State.heard_hop, State.heard_rj, feedCode_byte,
      flag_bool]
    cases s.operating with
    | false => rfl
    | true => rcases s.rj.writer with _ | _ | _ | _ | _ | _ | _ <;> rcases s.rj.active with _ | _ | _ <;> rfl
  case details =>
    refine ⟨fun u unit packed => ⟨fun k => ?_, fun evicted => ?_⟩, fun n k => rfl, fun n => rfl, fun n => rfl, fun k => rfl,
      fun g => rfl, rfl, fun l => rfl, fun outcome passes units bad => ?_, fun feed cause => ?_, fun lane old new => ?_,
      fun entered => ?_, fun thermal derate supply => ?_, fun event => ?_⟩
    · rw [packed]
      rfl
    · rw [packed]
      cases evicted <;> rfl
    · cases outcome <;> rfl
    · rcases feed with _ | (_ | _) <;> cases cause <;> rfl
    · cases lane <;> rfl
    · cases entered <;> rfl
    · cases thermal <;> cases derate <;> cases supply <;> rfl
    · cases event <;> rfl

end Sys2Proof.Machine

end

section
/-! PROOFS. O5: the maps read after each operation, and what one change of a cell has to keep. -/

namespace Sys2Proof.Machine

/-! ## What each operation leaves of the maps, read cell by cell, channel by channel and line by line -/

@[simp] theorem State.setCell_channel (s : State) (n : Nat) (c : CellState) (d : DieState) (k : Nat) :
    (s.setCell n c d).re.channel k = s.re.channel k := RepairEngine.channel_congr (by simp) k

@[simp] theorem State.setChannel_cell (s : State) (k : Nat) (v : Channel) (n : Nat) :
    (s.setChannel k v).re.cell n = s.re.cell n := RepairEngine.cell_congr (by simp) n
@[simp] theorem State.setChannel_die (s : State) (k : Nat) (v : Channel) (n : Nat) :
    (s.setChannel k v).re.die n = s.re.die n := RepairEngine.die_congr (by simp) n
@[simp] theorem State.setChannel_line (s : State) (k : Nat) (v : Channel) (l : Nat) :
    (s.setChannel k v).re.line l = s.re.line l := RepairEngine.line_congr (by simp) l

@[simp] theorem State.dropProving_cell (s : State) (k n : Nat) : (s.dropProving k).re.cell n = s.re.cell n := rfl
@[simp] theorem State.dropProving_die (s : State) (k n : Nat) : (s.dropProving k).re.die n = s.re.die n := rfl
@[simp] theorem State.dropProving_channel (s : State) (k j : Nat) : (s.dropProving k).re.channel j = s.re.channel j := rfl
@[simp] theorem State.dropProving_line (s : State) (k l : Nat) : (s.dropProving k).re.line l = s.re.line l := rfl
@[simp] theorem State.dropProving_provings (s : State) (k : Nat) :
    (s.dropProving k).re.provings = s.re.provings.filter fun p => decide (p.channel ≠ k) := rfl

@[simp] theorem State.dropEntry_cell (s : State) (u : UnitId) (n : Nat) : (s.dropEntry u).re.cell n = s.re.cell n := rfl
@[simp] theorem State.dropEntry_die (s : State) (u : UnitId) (n : Nat) : (s.dropEntry u).re.die n = s.re.die n := rfl
@[simp] theorem State.dropEntry_channel (s : State) (u : UnitId) (k : Nat) :
    (s.dropEntry u).re.channel k = s.re.channel k := rfl
@[simp] theorem State.dropEntry_line (s : State) (u : UnitId) (l : Nat) : (s.dropEntry u).re.line l = s.re.line l := rfl
@[simp] theorem State.dropEntry_suspects (s : State) (u : UnitId) :
    (s.dropEntry u).re.suspects = s.re.suspects.filter fun e => decide (e.unit ≠ u) := rfl

@[simp] theorem State.setSuspects_cell (s : State) (es : List Entry) (n : Nat) :
    (s.setSuspects es).re.cell n = s.re.cell n := rfl
@[simp] theorem State.setSuspects_die (s : State) (es : List Entry) (n : Nat) :
    (s.setSuspects es).re.die n = s.re.die n := rfl
@[simp] theorem State.setSuspects_channel (s : State) (es : List Entry) (k : Nat) :
    (s.setSuspects es).re.channel k = s.re.channel k := rfl
@[simp] theorem State.setSuspects_line (s : State) (es : List Entry) (l : Nat) :
    (s.setSuspects es).re.line l = s.re.line l := rfl
@[simp] theorem State.setSuspects_suspects (s : State) (es : List Entry) : (s.setSuspects es).re.suspects = es := rfl
@[simp] theorem State.setSuspects_provings (s : State) (es : List Entry) :
    (s.setSuspects es).re.provings = s.re.provings := rfl

@[simp] theorem State.setProvings_cell (s : State) (ps : List Proving) (n : Nat) :
    (s.setProvings ps).re.cell n = s.re.cell n := rfl
@[simp] theorem State.setProvings_die (s : State) (ps : List Proving) (n : Nat) :
    (s.setProvings ps).re.die n = s.re.die n := rfl
@[simp] theorem State.setProvings_channel (s : State) (ps : List Proving) (k : Nat) :
    (s.setProvings ps).re.channel k = s.re.channel k := rfl
@[simp] theorem State.setProvings_line (s : State) (ps : List Proving) (l : Nat) :
    (s.setProvings ps).re.line l = s.re.line l := rfl
@[simp] theorem State.setProvings_suspects (s : State) (ps : List Proving) :
    (s.setProvings ps).re.suspects = s.re.suspects := rfl
@[simp] theorem State.setProvings_provings (s : State) (ps : List Proving) : (s.setProvings ps).re.provings = ps := rfl

@[simp] theorem State.setLine_cell (s : State) (l : Nat) (v : Line) (n : Nat) : (s.setLine l v).re.cell n = s.re.cell n := rfl
@[simp] theorem State.setLine_die (s : State) (l : Nat) (v : Line) (n : Nat) : (s.setLine l v).re.die n = s.re.die n := rfl
@[simp] theorem State.setLine_channel (s : State) (l : Nat) (v : Line) (k : Nat) :
    (s.setLine l v).re.channel k = s.re.channel k := rfl

/-- A unit's own change is one of its cell, or of its die beside the cell as it stands (R3). -/
theorem State.setUnit_cell (s : State) (u : UnitId) (c : CellState) (d : DieState) (m : Nat) :
    (s.setUnit u c d).re.cell m = if u.side = .primary ∧ u.cell = m then c else s.re.cell m := by
  unfold State.setUnit
  cases u.side with
  | primary => simp [State.setCell_cell]
  | spare =>
    rw [State.setCell_cell]
    split
    · rename_i same
      simp [same]
    · simp

theorem State.setUnit_die (s : State) (u : UnitId) (c : CellState) (d : DieState) (m : Nat) :
    (s.setUnit u c d).re.die m = if u.side = .spare ∧ u.cell = m then d else s.re.die m := by
  unfold State.setUnit
  cases u.side with
  | spare => simp [State.setCell_die]
  | primary =>
    rw [State.setCell_die]
    split
    · rename_i same
      simp [same]
    · simp

@[simp] theorem State.setUnit_channel (s : State) (u : UnitId) (c : CellState) (d : DieState) (k : Nat) :
    (s.setUnit u c d).re.channel k = s.re.channel k := by
  unfold State.setUnit
  cases u.side <;> simp
@[simp] theorem State.setUnit_line_state (s : State) (u : UnitId) (c : CellState) (d : DieState) (l : Nat) :
    ((s.setUnit u c d).re.line l).state = (s.re.line l).state := by
  unfold State.setUnit
  cases u.side <;> exact State.setCell_line_state _ _ _ _ _
@[simp] theorem State.setUnit_provings (s : State) (u : UnitId) (c : CellState) (d : DieState) :
    (s.setUnit u c d).re.provings = s.re.provings := by
  unfold State.setUnit
  cases u.side <;> simp

/-- A strike step leaves its channel FREE or FAILED, and every other channel as it was (R95). -/
theorem State.strike_channel (s : State) (k j : Nat) :
    (k = j → ((s.strike k).re.channel j).state = .free ∨ ((s.strike k).re.channel j).state = .failed) ∧
      (k ≠ j → (s.strike k).re.channel j = s.re.channel j) := by
  unfold State.strike
  dsimp only
  split
  · constructor <;> intro h <;> simp [State.setChannel_channel, h]
  · constructor <;> intro h <;> simp [State.setChannel_channel, h]

theorem State.strike_maps (s : State) (k : Nat) :
    (∀ n, (s.strike k).re.cell n = s.re.cell n) ∧ (∀ n, (s.strike k).re.die n = s.re.die n) ∧
      (∀ l, (s.strike k).re.line l = s.re.line l) ∧ (s.strike k).re.suspects = s.re.suspects ∧
      (s.strike k).re.provings = s.re.provings.filter fun p => decide (p.channel ≠ k) := by
  unfold State.strike
  dsimp only
  split <;> simp

theorem State.strikeNamed_some (s : State) {c : CellState} {k : Nat} (named : c.channel = some k) :
    s.strikeNamed c = s.strike k := by
  unfold State.strikeNamed
  rw [named]

/-! ## The maps agree: what a change of one cell has to keep (R8, R11, R13, R75, R88, R96) -/

/-- The channel that a cell's state claims, and the state that the claim calls for there (R8, R11). -/
def CellState.claim (c : CellState) (n : Nat) : Option (Nat × ChannelState) :=
  match c with
  | .pendingSpare .proving k => some (k, .proving n)
  | .pendingSpare .recording k => some (k, .recording n)
  | .spared k => some (k, .bound n)
  | .healthy | .suspect | .condemned | .concealed _ => none

/-- A cell's claim is on the channel that it names. -/
theorem CellState.claim_names {c : CellState} {n k : Nat} {x : ChannelState} (claimed : c.claim n = some (k, x)) :
    c.channel = some k ∧ x.cell = some n := by
  rcases c with _ | _ | _ | ⟨_ | _, j⟩ | j | _ <;> simp_all [CellState.claim, CellState.channel, ChannelState.cell] <;>
    (obtain ⟨_, rfl⟩ := claimed; rfl)

theorem CellState.claim_none {c : CellState} (n : Nat) (bare : c.channel = none) : c.claim n = none := by
  rcases c with _ | _ | _ | ⟨_ | _, j⟩ | j | _ <;> simp_all [CellState.claim, CellState.channel]

theorem CellState.claim_some {c : CellState} (n : Nat) {k : Nat} (named : c.channel = some k) :
    ∃ x, c.claim n = some (k, x) := by
  rcases c with _ | _ | _ | ⟨_ | _, j⟩ | j | _ <;> simp_all [CellState.claim, CellState.channel]

/-- The channel table and the cell map agree exactly when every claim is met and every channel in use is claimed. -/
theorem RepairEngine.channelsAgree_iff (r : RepairEngine) :
    r.channelsAgree ↔ (∀ n k x, (r.cell n).claim n = some (k, x) → (r.channel k).state = x) ∧
      ∀ k n, (r.channel k).state.cell = some n → (r.cell n).claim n = some (k, (r.channel k).state) := by
  constructor
  · intro agree
    constructor
    · intro n k x claimed
      obtain ⟨proving, recording, bound⟩ := agree n k
      rcases state : r.cell n with _ | _ | _ | ⟨_ | _, j⟩ | j | _ <;> rw [state] at claimed proving recording bound <;>
        simp_all [CellState.claim]
    · intro k n named
      obtain ⟨proving, recording, bound⟩ := agree n k
      rcases state : (r.channel k).state with _ | m | m | m | _ <;> rw [state] at named <;>
        simp_all [ChannelState.cell, CellState.claim]
  · rintro ⟨met, claimed⟩ n k
    refine ⟨⟨fun state => met n k _ (by rw [state]; rfl), fun state => ?_⟩,
      ⟨fun state => met n k _ (by rw [state]; rfl), fun state => ?_⟩,
      ⟨fun state => met n k _ (by rw [state]; rfl), fun state => ?_⟩⟩ <;>
    · have claim := claimed k n (by rw [state]; rfl)
      rw [state] at claim
      rcases cell : r.cell n with _ | _ | _ | ⟨_ | _, j⟩ | j | _ <;> rw [cell] at claim <;> simp_all [CellState.claim]

/-- What the list of suspects asks of a unit on it (R75). -/
def RepairEngine.entryAgrees (r : RepairEngine) (u : UnitId) : Prop :=
  match u.side with
  | .primary => r.cell u.cell = .suspect ∨ r.cell u.cell = .condemned
  | .spare => (r.die u.cell = .suspect ∨ r.die u.cell = .condemned) ∧ (r.cell u.cell).isSpared = true

/-- A proving record whose cell is in its phase on its channel (R88). -/
def RepairEngine.provingAgrees (r : RepairEngine) (p : Proving) : Prop := r.cell p.cell = .pendingSpare p.phase p.channel

section

variable {r : RepairEngine} (agree : r.consistent)
include agree

/-- A channel that a cell names is in use for that cell. -/
theorem RepairEngine.consistent.names {n k : Nat} (named : (r.cell n).channel = some k) :
    (r.channel k).state.cell = some n := by
  obtain ⟨x, claimed⟩ := CellState.claim_some n named
  rw [((RepairEngine.channelsAgree_iff r).1 agree.1).1 n k x claimed]
  exact (CellState.claim_names claimed).2

/-- A channel in use for a cell is named by it. -/
theorem RepairEngine.consistent.named {n k : Nat} (used : (r.channel k).state.cell = some n) :
    (r.cell n).channel = some k :=
  (CellState.claim_names (((RepairEngine.channelsAgree_iff r).1 agree.1).2 k n used)).1

/-- No other cell names the channel that a cell names. -/
theorem RepairEngine.consistent.alone {n m k : Nat} (named : (r.cell n).channel = some k)
    (other : (r.cell m).channel = some k) : m = n :=
  Option.some.inj ((agree.names other).symm.trans (agree.names named))

/-- A cell that is not CONCEALED(LINE) lies on no HELD line. -/
theorem RepairEngine.consistent.off_held {n l : Nat} (off : r.cell n ≠ .concealed .line) (held : (r.line l).state = .held) :
    n ∉ lineCells l := fun on => off (agree.2.2.2.1 l held n on)

end

/-- The maps still agree after a change at cell `n`: its claim is met, a channel that has changed was free or its own and is
free or its own now, and the lists hold nothing of the cell that the change has made untrue. -/
theorem RepairEngine.consistent.of_change {r r' : RepairEngine} (agree : r.consistent) (n : Nat)
    (cells : ∀ m, m ≠ n → r'.cell m = r.cell m) (dies : ∀ m, m ≠ n → r'.die m = r.die m)
    (lines : ∀ l, (r'.line l).state = (r.line l).state)
    (held : ∀ l, (r.line l).state = .held → n ∈ lineCells l → r'.cell n = .concealed .line)
    (dead : r'.die n = .dead → (r'.cell n).channel = none)
    (met : ∀ k x, (r'.cell n).claim n = some (k, x) → (r'.channel k).state = x)
    (claimed : ∀ k, (r'.channel k).state.cell = some n → (r'.cell n).claim n = some (k, (r'.channel k).state))
    (apart : ∀ k, (r'.channel k).state = (r.channel k).state ∨
      ((r.channel k).state.cell = some n ∨ (r.channel k).state.cell = none) ∧
        ((r'.channel k).state.cell = some n ∨ (r'.channel k).state.cell = none))
    (suspects : ∀ e ∈ r'.suspects, e.unit.cell ≠ n ∧ r.entryAgrees e.unit ∨ r'.entryAgrees e.unit)
    (provings : ∀ p ∈ r'.provings, p.cell ≠ n ∧ r.provingAgrees p ∨ r'.provingAgrees p) : r'.consistent := by
  obtain ⟨met0, claimed0⟩ := (RepairEngine.channelsAgree_iff r).1 agree.1
  refine ⟨(RepairEngine.channelsAgree_iff r').2 ⟨fun m k x claim => ?_, fun k m used => ?_⟩, fun p listed => ?_,
    fun e listed => ?_, fun l h m on => ?_, fun m died => ?_⟩
  · by_cases here : m = n
    · subst here
      exact met k x claim
    · rw [cells m here] at claim
      have state := met0 m k x claim
      rcases apart k with same | ⟨before, _⟩
      · rw [same, state]
      · rw [state, (CellState.claim_names claim).2] at before
        exact absurd before (by simp [here])
  · by_cases here : m = n
    · subst here
      exact claimed k used
    · rcases apart k with same | ⟨_, after⟩
      · rw [same] at used ⊢
        rw [cells m here]
        exact claimed0 k m used
      · rw [used] at after
        exact absurd after (by simp [here])
  · rcases provings p listed with ⟨away, before⟩ | now
    · exact (cells _ away).trans before
    · exact now
  · rcases suspects e listed with ⟨away, before⟩ | now
    · unfold RepairEngine.entryAgrees at before
      rw [cells _ away, dies _ away]
      exact before
    · exact now
  · by_cases here : m = n
    · subst here
      exact held l ((lines l).symm.trans h) on
    · rw [cells m here]
      exact agree.2.2.2.1 l ((lines l).symm.trans h) m on
  · by_cases here : m = n
    · subst here
      exact dead died
    · rw [cells m here]
      exact agree.2.2.2.2 m ((dies m here).symm.trans died)

end Sys2Proof.Machine

end

section
/-! PROOFS. O5: counts and the live image count under one change. -/

namespace Sys2Proof.Machine

/-! ## Counting: how a count moves when one number's standing changes -/

/-- A count over a list without doubles moves by the standing of the one number that may have changed. -/
theorem countP_update {list : List Nat} (once : list.Nodup) (n : Nat) {before after : Nat → Bool}
    (others : ∀ m ∈ list, m ≠ n → after m = before m) :
    list.countP after + (if n ∈ list ∧ before n then 1 else 0) =
      list.countP before + (if n ∈ list ∧ after n then 1 else 0) := by
  induction list with
  | nil => simp
  | cons a rest ih =>
    obtain ⟨fresh, once'⟩ := List.nodup_cons.1 once
    have tail := ih once' fun m listed => others m (List.mem_cons_of_mem _ listed)
    rw [List.countP_cons, List.countP_cons]
    by_cases here : a = n
    · subst here
      simp only [fresh, false_and, if_false] at tail
      simp only [List.mem_cons_self, true_and]
      omega
    · have same := others a List.mem_cons_self here
      have listed : n ∈ a :: rest ↔ n ∈ rest := by simp [Ne.symm here]
      rw [same]
      simp only [listed]
      omega

/-- The cells of a line are cells of the wall, each listed once (R7). -/
theorem lineCells_lt {l n : Nat} (line : l < 240) (on : n ∈ lineCells l) : n < 9216 := by
  unfold lineCells cellAt at on
  split at on
  · obtain ⟨row, h, rfl⟩ := List.mem_map.1 on
    have := List.mem_range.1 h
    omega
  · obtain ⟨i, h, rfl⟩ := List.mem_map.1 on
    have := List.mem_range.1 h
    omega

theorem lineCells_nodup (l : Nat) : (lineCells l).Nodup := by
  unfold lineCells cellAt
  split
  · exact List.nodup_range.map fun a b same => by
      omega
  · exact List.nodup_range.map fun a b same => by
      omega

theorem cLineOf_lt (n : Nat) : cLineOf n < 192 := by
  unfold cLineOf columnOf colourOf
  omega

theorem rLineOf_lt {n : Nat} (cell : n < 9216) : 192 ≤ rLineOf n ∧ rLineOf n < 240 := by
  unfold rLineOf rowOf
  omega

theorem cLineOf_ne_rLineOf (n : Nat) : cLineOf n ≠ rLineOf n := by
  have := cLineOf_lt n
  unfold rLineOf
  omega

/-! ## The live image count when one image changes (R127) -/

/-- How many subjects have, in a table of images, another image than the factory image. -/
def imageTotal (image : Nat → Image) : Nat :=
  (List.range 19483).countP fun n => decide (image n ≠ factoryImage n)

theorem State.liveCounted_eq (s : State) : s.liveCounted ↔ s.rj.liveImages = imageTotal s.imageOf := Iff.rfl

/-- When only one subject's image has changed, the count that follows it is the count of the new images. -/
theorem imageTotal_update {before after : Nat → Image} {n : Nat} (subject : n < 19483)
    (others : ∀ m, m ≠ n → after m = before m) :
    (if before n = after n then imageTotal before
      else imageCount (imageTotal before) (factoryImage n) (before n) (after n)) = imageTotal after := by
  have moved := countP_update List.nodup_range (list := List.range 19483) n
    (before := fun m => decide (before m ≠ factoryImage m)) (after := fun m => decide (after m ≠ factoryImage m))
    fun m _ apart => by rw [others m apart]
  have listed : n ∈ List.range 19483 := List.mem_range.2 subject
  simp only [listed, true_and, decide_eq_true_eq] at moved
  unfold imageCount
  change imageTotal after + _ = imageTotal before + _ at moved
  split
  · rename_i same
    rw [same] at moved
    omega
  · rename_i apart
    split
    · rename_i factory
      rw [if_neg (not_not.2 factory), if_pos (factory ▸ Ne.symm apart)] at moved
      omega
    · rename_i changed
      split
      · rename_i factory
        rw [if_pos changed, if_neg (not_not.2 factory)] at moved
        omega
      · rename_i still
        rw [if_pos changed, if_pos still] at moved
        omega

theorem State.imageChanged_liveImages (s : State) (n : Nat) (old new : Image) :
    (s.imageChanged n old new).rj.liveImages =
      if old = new then s.rj.liveImages else imageCount s.rj.liveImages (factoryImage n) old new := by
  unfold State.imageChanged
  split <;> rfl

end Sys2Proof.Machine

end

section
/-! PROOFS. O5: the tallies, the routes and the images after one change. -/

namespace Sys2Proof.Machine

/-! ## What one change of a cell does to the tallies and the routes (R14, R116) -/

/-- A tally after a cell's counted standing goes from `old` to `new` (R116). -/
def movedTally (old new : Bool) (tally : Nat) : Nat :=
  if old = new then tally else if new then tally + 1 else tally - 1

theorem State.setCell_line (s : State) (n : Nat) (c : CellState) (d : DieState) (l : Nat) :
    (s.setCell n c d).re.line l = if l = cLineOf n ∨ l = rLineOf n then
      { s.re.line l with tally := movedTally (s.re.cell n).counted c.counted (s.re.line l).tally } else s.re.line l := by
  have apart := cLineOf_ne_rLineOf n
  have maps : ∀ j, ((((s.writeCell n c d).imageChanged (dieSubject n) (dieImage (s.re.die n)) (dieImage d)).imageChanged
      (cellSubject n) (cellImage (s.re.cell n)) (cellImage c)).postChange n (routeFor (s.re.cell n) (s.re.die n))
      (routeFor c d)).re.line j = s.re.line j := fun j => RepairEngine.line_congr (by simp) j
  unfold State.setCell State.countTallies movedTally
  dsimp only
  split
  · rw [maps]
    split <;> rfl
  · rw [State.moveTally_line, State.moveTally_line, State.moveTally_line, maps, maps, maps]
    by_cases atC : l = cLineOf n
    · subst atC
      simp [apart.symm]
    · by_cases atR : l = rLineOf n
      · subst atR
        simp [apart]
      · simp [atC, atR, Ne.symm atC, Ne.symm atR]

/-- A change of a cell keeps the tally of every line the number of its counted cells. -/
theorem State.setCell_tallied {s : State} {n : Nat} (cell : n < 9216) (c : CellState) (d : DieState)
    (tallied : s.re.tallied) : (s.setCell n c d).re.tallied := by
  intro l line
  have count := countP_update (lineCells_nodup l) n (before := fun m => (s.re.cell m).counted)
    (after := fun m => ((s.setCell n c d).re.cell m).counted) fun m _ apart => by
      rw [State.setCell_cell, if_neg (Ne.symm apart)]
  have now : (s.setCell n c d).re.cell n = c := by rw [State.setCell_cell, if_pos rfl]
  rw [now, ← tallied l line] at count
  simp only [mem_lineCells l n line cell] at count
  rw [State.setCell_line]
  by_cases on : l = cLineOf n ∨ l = rLineOf n
  · simp only [on, true_and, if_true] at count ⊢
    unfold movedTally
    split
    · rename_i same
      rw [same] at count
      omega
    · rename_i differ
      cases after : c.counted with
      | true =>
        have before : (s.re.cell n).counted = false := by simpa [after] using differ
        simp only [after, before, if_true, Bool.false_eq_true, if_false] at count ⊢
        omega
      | false =>
        have before : (s.re.cell n).counted = true := by simpa [after] using differ
        simp only [after, before, if_true, Bool.false_eq_true, if_false] at count ⊢
        omega
  · simp only [on, false_and, if_false] at count ⊢
    omega

/-- The measurement in flight and the sweep stand at cells (R1, R62). -/
def SenseUnit.ranged (u : SenseUnit) : Prop :=
  u.sweepCursor < 9216 ∧ ∀ m v purpose channel, u.inFlight = some m → m.grant = .unit v purpose channel → v.cell < 9216

/-- What is past the last cell, channel and line is as reset left it, and a cell names a channel of its own group. -/
def RepairEngine.ranged (r : RepairEngine) : Prop :=
  (∀ n, 9216 ≤ n → r.cell n = .healthy ∧ r.die n = .untried) ∧ (∀ k, 768 ≤ k → r.channel k = ⟨.free, 0⟩) ∧
  (∀ l, 240 ≤ l → r.line l = ⟨.normal, 0, 0⟩) ∧ ∀ n k, (r.cell n).channel = some k → groupOfChannel k = groupOf n

theorem State.inRange_iff (s : State) :
    s.inRange ↔ s.re.ranged ∧ (∀ i, 43 ≤ i → s.storedSetting i = Config.settingDefault i) ∧ s.su.ranged :=
  ⟨fun ⟨cells, channels, lines, stored, groups, sweep, flight⟩ => ⟨⟨cells, channels, lines, groups⟩, stored, sweep, flight⟩,
    fun ⟨⟨cells, channels, lines, groups⟩, stored, sweep, flight⟩ =>
      ⟨cells, channels, lines, stored, groups, sweep, flight⟩⟩

theorem State.setCell_ranged {s : State} {n : Nat} (cell : n < 9216) {c : CellState} (d : DieState)
    (group : ∀ k, c.channel = some k → groupOfChannel k = groupOf n) (ranged : s.re.ranged) :
    (s.setCell n c d).re.ranged := by
  obtain ⟨cells, channels, lines, groups⟩ := ranged
  refine ⟨fun m past => ?_, fun k past => ?_, fun l past => ?_, fun m k named => ?_⟩
  · have apart : n ≠ m := by omega
    rw [State.setCell_cell, State.setCell_die, if_neg apart, if_neg apart]
    exact cells m past
  · rw [State.setCell_channel]
    exact channels k past
  · have lowC := cLineOf_lt n
    have lowR := (rLineOf_lt cell).2
    have off : ¬(l = cLineOf n ∨ l = rLineOf n) := by omega
    rw [State.setCell_line, if_neg off]
    exact lines l past
  · rw [State.setCell_cell] at named
    split at named
    · rename_i here
      subst here
      exact group k named
    · exact groups m k named

/-! ## The images of the subjects after a change (R127) -/

theorem State.imageOf_of_cell (s : State) {n : Nat} (cell : n < 9216) : s.imageOf (cellSubject n) = cellImage (s.re.cell n) :=
  if_pos cell

theorem State.imageOf_of_die (s : State) {n : Nat} (cell : n < 9216) : s.imageOf (dieSubject n) = dieImage (s.re.die n) := by
  have past : ¬9216 + n < 9216 := by omega
  have die : 9216 + n < 18432 := by omega
  unfold State.imageOf dieSubject
  rw [if_neg past, if_pos die, Nat.add_sub_cancel_left]

theorem State.imageOf_of_channel (s : State) {k : Nat} (channel : k < 768) :
    s.imageOf (channelSubject k) = channelImage (s.re.channel k).state := by
  have past : ¬18432 + k < 9216 ∧ ¬18432 + k < 18432 := by omega
  have here : 18432 + k < 19200 := by omega
  unfold State.imageOf channelSubject
  rw [if_neg past.1, if_neg past.2, if_pos here, Nat.add_sub_cancel_left]

theorem State.imageOf_of_line (s : State) {l : Nat} (line : l < 240) :
    s.imageOf (lineSubject l) = lineImage (s.re.line l).state := by
  have past : ¬19200 + l < 9216 ∧ ¬19200 + l < 18432 ∧ ¬19200 + l < 19200 := by omega
  have here : 19200 + l < 19440 := by omega
  unfold State.imageOf lineSubject
  rw [if_neg past.1, if_neg past.2.1, if_neg past.2.2, if_pos here, Nat.add_sub_cancel_left]

/-- The image of a subject is read from the maps and the stored settings. -/
theorem State.imageOf_congr {s t : State} (m : Nat) (cells : m < 9216 → t.re.cell m = s.re.cell m)
    (dies : ∀ n, m = dieSubject n → n < 9216 → t.re.die n = s.re.die n)
    (channels : ∀ k, m = channelSubject k → k < 768 → (t.re.channel k).state = (s.re.channel k).state)
    (lines : ∀ l, m = lineSubject l → l < 240 → (t.re.line l).state = (s.re.line l).state)
    (settings : ∀ i, m = settingSubject i → t.storedSetting i = s.storedSetting i) : t.imageOf m = s.imageOf m := by
  unfold dieSubject at dies
  unfold channelSubject at channels
  unfold lineSubject at lines
  unfold settingSubject at settings
  unfold State.imageOf
  repeat' split
  · rename_i cell
    rw [cells cell]
  · rw [dies (m - 9216) (by omega) (by omega)]
  · rw [channels (m - 18432) (by omega) (by omega)]
  · rw [lines (m - 19200) (by omega) (by omega)]
  · rw [settings (m - 19440) (by omega)]

/-- The count that follows one subject's image stays the number of the images that are not the factory's. -/
theorem State.liveCounted_of_subject {s t : State} {n : Nat} (subject : n < 19483)
    (others : ∀ m, m ≠ n → t.imageOf m = s.imageOf m)
    (count : t.rj.liveImages = if s.imageOf n = t.imageOf n then s.rj.liveImages
      else imageCount s.rj.liveImages (factoryImage n) (s.imageOf n) (t.imageOf n)) (counted : s.liveCounted) :
    t.liveCounted := by
  rw [State.liveCounted_eq] at counted ⊢
  rw [count, counted, imageTotal_update subject others]

/-- The same when two subjects' images have changed, one after the other. -/
theorem imageTotal_update_both {before after : Nat → Image} {n m : Nat} (first : n < 19483) (second : m < 19483)
    (apart : n ≠ m) (others : ∀ j, j ≠ n → j ≠ m → after j = before j) :
    (if before m = after m then
        if before n = after n then imageTotal before
        else imageCount (imageTotal before) (factoryImage n) (before n) (after n)
      else imageCount (if before n = after n then imageTotal before
        else imageCount (imageTotal before) (factoryImage n) (before n) (after n)) (factoryImage m) (before m) (after m)) =
      imageTotal after := by
  have one := imageTotal_update (before := before) (after := Function.update before n (after n)) first
    fun j off => Function.update_of_ne off _ _
  have two := imageTotal_update (before := Function.update before n (after n)) (after := after) second fun j off => by
    by_cases here : j = n
    · subst here
      rw [Function.update_self]
    · rw [Function.update_of_ne here, others j here off]
  rw [Function.update_self] at one
  rw [Function.update_of_ne apart.symm] at two
  rw [one, two]

/-- A change of a cell and its die: the count follows both of their images. -/
theorem State.setCell_liveCounted {s : State} {n : Nat} (cell : n < 9216) (c : CellState) (d : DieState)
    (counted : s.liveCounted) : (s.setCell n c d).liveCounted := by
  have apart : cellSubject n ≠ dieSubject n := by unfold cellSubject dieSubject; omega
  have die : dieSubject n < 19483 := by unfold dieSubject; omega
  have own : cellSubject n < 19483 := by unfold cellSubject; omega
  have after : (s.setCell n c d).imageOf (cellSubject n) = cellImage c := by
    rw [State.imageOf_of_cell _ cell, State.setCell_cell, if_pos rfl]
  have afterDie : (s.setCell n c d).imageOf (dieSubject n) = dieImage d := by
    rw [State.imageOf_of_die _ cell, State.setCell_die, if_pos rfl]
  have moved := imageTotal_update_both (before := s.imageOf) (after := (s.setCell n c d).imageOf) die own apart.symm
    fun m offDie offCell => by
      refine State.imageOf_congr m (fun _ => ?_) (fun j at' _ => ?_) (fun _ _ _ => ?_) (fun l _ _ => ?_) fun _ _ => ?_
      · exact (State.setCell_cell _ _ _ _ _).trans (if_neg fun same => offCell same.symm)
      · exact (State.setCell_die _ _ _ _ _).trans (if_neg fun (same : n = j) => offDie (same ▸ at'))
      · rw [State.setCell_channel]
      · exact State.setCell_line_state _ _ _ _ _
      · unfold State.storedSetting
        rw [State.setCell_stored]
  rw [after, afterDie, State.imageOf_of_die _ cell, State.imageOf_of_cell _ cell] at moved
  rw [State.liveCounted_eq] at counted ⊢
  rw [← moved, ← counted]
  unfold State.setCell
  simp only [State.countTallies_rj, State.postChange_rj, State.imageChanged_liveImages, State.writeCell_rj]

end Sys2Proof.Machine

end

section
/-! PROOFS. O5: the steps that every event of the Repair Engine is made of. -/

namespace Sys2Proof.Machine

/-! ## Changes of a channel, of a line and of the lists -/

theorem RepairEngine.tallied_congr {r r' : RepairEngine} (cells : ∀ n, r'.cell n = r.cell n)
    (lines : ∀ l, (r'.line l).tally = (r.line l).tally) (tallied : r.tallied) : r'.tallied := by
  intro l line
  rw [lines, tallied l line]
  exact List.countP_congr fun n _ => by rw [cells]

theorem RepairEngine.ranged_congr {r r' : RepairEngine} (cells : ∀ n, r'.cell n = r.cell n) (dies : ∀ n, r'.die n = r.die n)
    (channels : ∀ k, 768 ≤ k → r'.channel k = r.channel k) (lines : ∀ l, 240 ≤ l → r'.line l = r.line l)
    (ranged : r.ranged) : r'.ranged := by
  obtain ⟨cellsIn, channelsIn, linesIn, groups⟩ := ranged
  refine ⟨fun n past => ?_, fun k past => ?_, fun l past => ?_, fun n k named => ?_⟩
  · rw [cells, dies]
    exact cellsIn n past
  · rw [channels k past, channelsIn k past]
  · rw [lines l past, linesIn l past]
  · rw [cells] at named
    exact groups n k named

theorem State.setChannel_ranged {s : State} {k : Nat} (channel : k < 768) (v : Channel) (ranged : s.re.ranged) :
    (s.setChannel k v).re.ranged := by
  refine RepairEngine.ranged_congr (by simp) (by simp) (fun j past => ?_) (by simp) ranged
  have apart : k ≠ j := by omega
  rw [State.setChannel_channel, if_neg apart]

theorem State.setChannel_liveCounted {s : State} {k : Nat} (channel : k < 768) (v : Channel) (counted : s.liveCounted) :
    (s.setChannel k v).liveCounted := by
  have subject : channelSubject k < 19483 := by unfold channelSubject; omega
  refine State.liveCounted_of_subject subject (fun m off => ?_) ?_ counted
  · refine State.imageOf_congr m (fun _ => by simp) (fun _ _ _ => by simp) (fun j at' _ => ?_) (fun _ _ _ => by simp)
      fun _ _ => ?_
    · have apart : k ≠ j := fun same => off (same ▸ at')
      rw [State.setChannel_channel, if_neg apart]
    · unfold State.storedSetting
      rw [State.setChannel_stored]
  · rw [State.imageOf_of_channel _ channel, State.imageOf_of_channel _ channel, State.setChannel_channel, if_pos rfl]
    unfold State.setChannel
    rw [State.imageChanged_liveImages, State.withRe_rj]

/-- A line's own change: its entry, and its image when the state changes (R106, R119, R123). -/
def State.changeLine (s : State) (l : Nat) (v : Line) : State :=
  (s.setLine l v).imageChanged (lineSubject l) (lineImage (s.re.line l).state) (lineImage v.state)

@[simp] theorem State.changeLine_re (s : State) (l : Nat) (v : Line) : (s.changeLine l v).re = (s.setLine l v).re :=
  State.imageChanged_re _ _ _ _

theorem State.changeLine_line (s : State) (l : Nat) (v : Line) (j : Nat) :
    (s.changeLine l v).re.line j = if l = j then v else s.re.line j := by
  rw [State.changeLine_re, State.setLine_line]

/-- A line whose state stays has the same image. -/
theorem State.setLine_eq_changeLine (s : State) (l : Nat) {v : Line} (same : v.state = (s.re.line l).state) :
    s.setLine l v = s.changeLine l v := by
  unfold State.changeLine
  rw [same, State.imageChanged_of_eq _ _ rfl]

theorem State.changeLine_ranged {s : State} {l : Nat} (line : l < 240) (v : Line) (ranged : s.re.ranged) :
    (s.changeLine l v).re.ranged := by
  refine RepairEngine.ranged_congr (by simp) (by simp) (by simp) (fun j past => ?_) ranged
  have apart : l ≠ j := by omega
  rw [State.changeLine_line, if_neg apart]

theorem State.changeLine_tallied {s : State} {l : Nat} {v : Line}
    (tally : v.tally = (s.re.line l).tally ∨ v.tally = (lineCells l).countP fun n => (s.re.cell n).counted)
    (tallied : s.re.tallied) : (s.changeLine l v).re.tallied := by
  intro j line
  rw [State.changeLine_line]
  simp only [State.changeLine_re, State.setLine_cell]
  split
  · rename_i here
    subst here
    rcases tally with same | counted
    · rw [same, tallied l line]
    · exact counted
  · exact tallied j line

theorem State.changeLine_liveCounted {s : State} {l : Nat} (line : l < 240) (v : Line) (counted : s.liveCounted) :
    (s.changeLine l v).liveCounted := by
  have subject : lineSubject l < 19483 := by unfold lineSubject; omega
  refine State.liveCounted_of_subject subject (fun m off => ?_) ?_ counted
  · refine State.imageOf_congr m (fun _ => by simp) (fun _ _ _ => by simp) (fun _ _ _ => by simp) (fun j at' _ => ?_)
      fun _ _ => ?_
    · have apart : l ≠ j := fun same => off (same ▸ at')
      rw [State.changeLine_line, if_neg apart]
    · unfold State.storedSetting State.changeLine
      rw [State.imageChanged_stored, State.setLine_stored]
  · rw [State.imageOf_of_line _ line, State.imageOf_of_line _ line, State.changeLine_line, if_pos rfl]
    unfold State.changeLine
    rw [State.imageChanged_liveImages, State.setLine_rj]

/-! ## The law of the routes under a change of a cell -/

/-- The law of the routes, with the pending route set in canonical form. -/
def State.routesLaw (s : State) : Prop :=
  Table.wf (fun _ => (none : Option Route)) s.pp.pendingRoutes ∧ s.routesFollow

/-- What changes no route and no state of a cell or a die keeps the law of the routes. -/
theorem State.routesLaw_congr {s t : State} (cells : ∀ n, t.re.cell n = s.re.cell n) (dies : ∀ n, t.re.die n = s.re.die n)
    (active : t.pp.active = s.pp.active) (pending : t.pp.pendingRoutes = s.pp.pendingRoutes)
    (startUp : t.pp.startUp = s.pp.startUp) (law : s.routesLaw) : t.routesLaw := by
  refine ⟨pending ▸ law.1, fun started n cell => ?_⟩
  have before := law.2 (startUp ▸ started) n cell
  unfold RepairEngine.calledRoute PixelPath.pendingRoute PixelPath.route at before ⊢
  rw [cells, dies, pending, active]
  exact before

/-- A change of a cell posts no route but its own, and leaves the active routes. -/
theorem State.setCell_paths (s : State) (n : Nat) (c : CellState) (d : DieState) :
    (s.setCell n c d).pp.active = s.pp.active ∧ (s.setCell n c d).pp.startUp = s.pp.startUp ∧
      (Table.wf (fun _ => (none : Option Route)) s.pp.pendingRoutes →
        Table.wf (fun _ => (none : Option Route)) (s.setCell n c d).pp.pendingRoutes) := by
  unfold State.setCell State.postChange
  simp only [State.countTallies_pp]
  split
  · simp
  · exact ⟨by simp [State.post], by simp [State.post], fun canonical => by
      simp only [State.post, State.withPp_pp, State.imageChanged_pp, State.writeCell_pp]
      exact Table.wf_write _ _ canonical⟩

/-- THE change of a cell posts the route that its new state calls for (R14). -/
theorem State.setCell_routesLaw (s : State) (n : Nat) (c : CellState) (d : DieState) (law : s.routesLaw) :
    (s.setCell n c d).routesLaw := by
  obtain ⟨active, startUp, canonical⟩ := s.setCell_paths n c d
  refine ⟨canonical law.1, fun started m cell => ?_⟩
  have before := law.2 (startUp ▸ started) m cell
  unfold RepairEngine.calledRoute PixelPath.route at before ⊢
  rw [active, State.setCell_cell, State.setCell_die, State.setCell_pendingRoute]
  by_cases here : n = m
  · subst here
    by_cases same : routeFor (s.re.cell n) (s.re.die n) = routeFor c d
    · simp [same] at before ⊢
      exact before
    · simp [same]
  · simp only [here, and_false, if_false]
    exact before

/-! ## The steps that every event of the Repair Engine is made of -/

/-- A step that leaves the Repair Engine, the settings, the live image count and the routes as they were, and the Sense Unit
at cells. -/
structure Quiet (s t : State) : Prop where
  re : t.re = s.re
  live : t.live = s.live
  stored : t.stored = s.stored
  images : t.rj.liveImages = s.rj.liveImages
  active : t.pp.active = s.pp.active
  routes : t.pp.pendingRoutes = s.pp.pendingRoutes
  startUp : t.pp.startUp = s.pp.startUp
  sense : s.su.ranged → t.su.ranged

theorem Quiet.refl (s : State) : Quiet s s := ⟨rfl, rfl, rfl, rfl, rfl, rfl, rfl, id⟩

theorem Quiet.trans {s t u : State} (first : Quiet s t) (second : Quiet t u) : Quiet s u :=
  ⟨second.re.trans first.re, second.live.trans first.live, second.stored.trans first.stored,
    second.images.trans first.images, second.active.trans first.active, second.routes.trans first.routes,
    second.startUp.trans first.startUp, second.sense ∘ first.sense⟩

/-- One step of an event. With `guarded` the numbers it names are in range, a cell names a channel of its group and a line's
tally is not made up. -/
inductive Touch (guarded : Prop) : State → State → Prop where
  | quiet {s t : State} (quiet : Quiet s t) : Touch guarded s t
  | cell (s : State) (n : Nat) (c : CellState) (d : DieState) (cell : guarded → n < 9216)
      (group : guarded → ∀ k, c.channel = some k → groupOfChannel k = groupOf n) : Touch guarded s (s.setCell n c d)
  | channel (s : State) (k : Nat) (v : Channel) (channel : guarded → k < 768) : Touch guarded s (s.setChannel k v)
  | line (s : State) (l : Nat) (v : Line) (line : guarded → l < 240)
      (tally : guarded → v.tally = (s.re.line l).tally ∨ v.tally = (lineCells l).countP fun n => (s.re.cell n).counted) :
      Touch guarded s (s.changeLine l v)
  | lists (s : State) (es : List Entry) (ps : List Proving) (v : Nat) :
      Touch guarded s (s.withRe { s.re with suspects := es, provings := ps, budget := v })

/-- Any number of such steps. -/
abbrev Touches (guarded : Prop) : State → State → Prop := Relation.ReflTransGen (Touch guarded)

namespace Touch

variable {guarded : Prop} {s t : State}

theorem live (step : Touch guarded s t) : t.live = s.live ∧ t.stored = s.stored := by
  cases step with
  | quiet quiet => exact ⟨quiet.live, quiet.stored⟩
  | cell => exact ⟨State.setCell_live _ _ _ _, State.setCell_stored _ _ _ _⟩
  | channel => exact ⟨State.setChannel_live _ _ _, State.setChannel_stored _ _ _⟩
  | line => exact ⟨State.imageChanged_live _ _ _ _, State.imageChanged_stored _ _ _ _⟩
  | lists => exact ⟨rfl, rfl⟩

theorem routesLaw (step : Touch guarded s t) (law : s.routesLaw) : t.routesLaw := by
  cases step with
  | quiet quiet =>
    exact State.routesLaw_congr (fun n => by rw [quiet.re]) (fun n => by rw [quiet.re]) quiet.active quiet.routes
      quiet.startUp law
  | cell n c d => exact s.setCell_routesLaw n c d law
  | channel k v => exact State.routesLaw_congr (by simp) (by simp) (by simp) (by simp) (by simp) law
  | line l v =>
    have paths : (s.changeLine l v).pp = s.pp := State.imageChanged_pp _ _ _ _
    exact State.routesLaw_congr (by simp) (by simp) (by rw [paths]) (by rw [paths]) (by rw [paths]) law
  | lists => exact State.routesLaw_congr (fun _ => rfl) (fun _ => rfl) rfl rfl rfl law

theorem inRange (step : Touch guarded s t) (holds : guarded) (inRange : s.inRange) : t.inRange := by
  obtain ⟨repair, stored, sense⟩ := (State.inRange_iff s).1 inRange
  have same := step.live.2
  rw [State.inRange_iff]
  unfold State.storedSetting at stored ⊢
  rw [same]
  cases step with
  | quiet quiet => exact ⟨quiet.re ▸ repair, stored, quiet.sense sense⟩
  | cell n c d cell group =>
    exact ⟨State.setCell_ranged (cell holds) d (group holds) repair, stored, by rwa [State.setCell_su]⟩
  | channel k v channel => exact ⟨State.setChannel_ranged (channel holds) v repair, stored, by rwa [State.setChannel_su]⟩
  | line l v line =>
    have unit : (s.changeLine l v).su = s.su := State.imageChanged_su _ _ _ _
    exact ⟨State.changeLine_ranged (line holds) v repair, stored, by rwa [unit]⟩
  | lists => exact ⟨repair, stored, sense⟩

theorem tallied (step : Touch guarded s t) (holds : guarded) (tallied : s.re.tallied) : t.re.tallied := by
  cases step with
  | quiet quiet => exact quiet.re ▸ tallied
  | cell n c d cell => exact State.setCell_tallied (cell holds) c d tallied
  | channel => exact RepairEngine.tallied_congr (by simp) (by simp) tallied
  | line l v _ tally => exact State.changeLine_tallied (tally holds) tallied
  | lists => exact tallied

theorem liveCounted (step : Touch guarded s t) (holds : guarded) (counted : s.liveCounted) : t.liveCounted := by
  cases step with
  | quiet quiet =>
    rw [State.liveCounted_eq] at counted ⊢
    rw [quiet.images, counted]
    refine congrArg imageTotal (funext fun m => Eq.symm ?_)
    unfold State.imageOf State.storedSetting
    rw [quiet.re, quiet.stored]
  | cell n c d cell => exact State.setCell_liveCounted (cell holds) c d counted
  | channel k v channel => exact State.setChannel_liveCounted (channel holds) v counted
  | line l v line => exact State.changeLine_liveCounted (line holds) v counted
  | lists => exact counted

end Touch

namespace Touches

variable {guarded : Prop} {s t : State}

theorem live (steps : Touches guarded s t) : t.live = s.live ∧ t.stored = s.stored := by
  induction steps with
  | refl => exact ⟨rfl, rfl⟩
  | tail _ step ih => exact ⟨step.live.1.trans ih.1, step.live.2.trans ih.2⟩

theorem routesLaw (steps : Touches guarded s t) (law : s.routesLaw) : t.routesLaw := by
  induction steps with
  | refl => exact law
  | tail _ step ih => exact step.routesLaw ih

theorem inRange (steps : Touches guarded s t) (holds : guarded) (inRange : s.inRange) : t.inRange := by
  induction steps with
  | refl => exact inRange
  | tail _ step ih => exact step.inRange holds ih

theorem tallied (steps : Touches guarded s t) (holds : guarded) (tallied : s.re.tallied) : t.re.tallied := by
  induction steps with
  | refl => exact tallied
  | tail _ step ih => exact step.tallied holds ih

theorem liveCounted (steps : Touches guarded s t) (holds : guarded) (counted : s.liveCounted) : t.liveCounted := by
  induction steps with
  | refl => exact counted
  | tail _ step ih => exact step.liveCounted holds ih

end Touches

end Sys2Proof.Machine

end

section
/-! PROOFS. O5: the law of the suspect list, and what an event of the Repair Engine keeps. -/

namespace Sys2Proof.Machine

/-! ## The law of the suspect list while a SET condemns units one by one (R75, R81, R82) -/

/-- The law of the suspect list, less the units of `T`: their evidence has come to equal CONFIRM THRESHOLD and they may not
be CONDEMNED yet. The threshold is at least 2, as its range says. -/
def State.lawfulBut (s : State) (T : UnitId → Prop) : Prop :=
  2 ≤ s.setting 13 ∧ (s.re.suspects.map (·.unit)).Nodup ∧
  (∀ e ∈ s.re.suspects, (1 ≤ e.evidence ∧ e.evidence ≤ s.setting 13) ∧
    (s.re.isCondemned e.unit → e.evidence = s.setting 13) ∧
    (e.evidence = s.setting 13 → s.re.isCondemned e.unit ∨ T e.unit)) ∧
  ∀ u, s.re.isSuspected u ∨ s.re.isCondemned u → ∃ e ∈ s.re.suspects, e.unit = u

/-- With every unit condemned that has to be, it is the law of the suspect list. -/
theorem State.suspectsLawful_iff {s : State} (threshold : 2 ≤ s.setting 13) :
    s.suspectsLawful ↔ s.lawfulBut fun _ => False := by
  constructor
  · rintro ⟨once, entries, listed⟩
    refine ⟨threshold, once, fun e on => ?_, listed⟩
    obtain ⟨low, high, marked⟩ := entries e on
    exact ⟨⟨low, high⟩, marked.1, fun equal => .inl (marked.2 equal)⟩
  · rintro ⟨_, once, entries, listed⟩
    refine ⟨once, fun e on => ?_, listed⟩
    obtain ⟨⟨low, high⟩, marked, condemned⟩ := entries e on
    exact ⟨low, high, marked, fun equal => (condemned equal).resolve_right id⟩

theorem State.setting_congr {s t : State} (live : t.live = s.live) (n : Nat) : t.setting n = s.setting n := by
  unfold State.setting
  rw [live]

theorem RepairEngine.isCondemned_congr {r r' : RepairEngine} {u : UnitId} (cell : r'.cell u.cell = r.cell u.cell)
    (die : r'.die u.cell = r.die u.cell) : r'.isCondemned u ↔ r.isCondemned u := by
  unfold RepairEngine.isCondemned
  rw [cell, die]

theorem RepairEngine.isSuspected_congr {r r' : RepairEngine} {u : UnitId} (cell : r'.cell u.cell = r.cell u.cell)
    (die : r'.die u.cell = r.die u.cell) : r'.isSuspected u ↔ r.isSuspected u := by
  unfold RepairEngine.isSuspected
  rw [cell, die]

/-- The law after a change of one cell that takes entries of its units off the list and adds none: what stays listed there
stands as it stood, and what is in doubt there is still listed. -/
theorem State.lawfulBut.of_filter {s t : State} {T : UnitId → Prop} (n : Nat) (keep : Entry → Bool)
    (live : t.live = s.live) (suspects : t.re.suspects = s.re.suspects.filter keep)
    (cells : ∀ m, m ≠ n → t.re.cell m = s.re.cell m) (dies : ∀ m, m ≠ n → t.re.die m = s.re.die m)
    (others : ∀ e, e.unit.cell ≠ n → keep e = true)
    (own : ∀ e ∈ s.re.suspects, keep e = true → e.unit.cell = n → (t.re.isCondemned e.unit ↔ s.re.isCondemned e.unit))
    (doubted : ∀ u : UnitId, u.cell = n → t.re.isSuspected u ∨ t.re.isCondemned u →
      ∃ e ∈ s.re.suspects, keep e = true ∧ e.unit = u)
    (law : s.lawfulBut T) : t.lawfulBut T := by
  obtain ⟨threshold, once, entries, listed⟩ := law
  unfold State.lawfulBut
  rw [State.setting_congr live, suspects]
  refine ⟨threshold, once.sublist (List.filter_sublist.map _), fun e on => ?_, fun u inDoubt => ?_⟩
  · obtain ⟨on, kept⟩ := List.mem_filter.1 on
    have same : t.re.isCondemned e.unit ↔ s.re.isCondemned e.unit := by
      by_cases here : e.unit.cell = n
      · exact own e on kept here
      · exact RepairEngine.isCondemned_congr (cells _ here) (dies _ here)
    rw [same]
    exact entries e on
  · by_cases here : u.cell = n
    · obtain ⟨e, on, kept, unit⟩ := doubted u here inDoubt
      exact ⟨e, List.mem_filter.2 ⟨on, kept⟩, unit⟩
    · rw [RepairEngine.isSuspected_congr (cells _ here) (dies _ here),
        RepairEngine.isCondemned_congr (cells _ here) (dies _ here)] at inDoubt
      obtain ⟨e, on, rfl⟩ := listed u inDoubt
      exact ⟨e, List.mem_filter.2 ⟨on, others e here⟩, rfl⟩

/-- Without a change of a cell, a die or the list the law stands. -/
theorem State.lawfulBut.congr {s t : State} {T : UnitId → Prop} (live : t.live = s.live)
    (suspects : t.re.suspects = s.re.suspects) (cells : ∀ m, t.re.cell m = s.re.cell m)
    (dies : ∀ m, t.re.die m = s.re.die m) (law : s.lawfulBut T) : t.lawfulBut T := by
  refine law.of_filter 0 (fun _ => true) live (by rw [suspects, List.filter_true]) (fun m _ => cells m) (fun m _ => dies m)
    (fun _ _ => rfl) (fun e _ _ _ => RepairEngine.isCondemned_congr (cells _) (dies _)) fun u _ inDoubt => ?_
  rw [RepairEngine.isSuspected_congr (cells _) (dies _), RepairEngine.isCondemned_congr (cells _) (dies _)] at inDoubt
  obtain ⟨e, on, unit⟩ := law.2.2.2 u inDoubt
  exact ⟨e, on, rfl, unit⟩

/-! ## What an event of the Repair Engine keeps -/

/-- What is known of the state in which an event begins: with `maps` that its maps agree, with `numbers` also that its numbers
are in range. -/
structure Sound (maps numbers : Prop) (s : State) : Prop where
  order : numbers → maps
  agree : maps → s.re.consistent
  range : numbers → s.inRange

/-- What an event of the Repair Engine that began at `s` has kept at `t`. -/
structure Led (maps numbers : Prop) (s t : State) : Prop where
  agree : maps → t.re.consistent
  law : maps → ∀ T, s.lawfulBut T → t.lawfulBut T
  touches : Touches numbers s t

/-- The event from `s` to `t` keeps the maps in agreement and the law of the list, and is made of guarded steps. -/
def Leads (maps numbers : Prop) (s t : State) : Prop := Sound maps numbers s → Led maps numbers s t

namespace Leads

variable {maps numbers : Prop} {s t u : State}

theorem sound (leads : Leads maps numbers s t) (start : Sound maps numbers s) : Sound maps numbers t :=
  ⟨start.order, (leads start).agree, fun h => (leads start).touches.inRange h (start.range h)⟩

theorem refl (s : State) : Leads maps numbers s s := fun start => ⟨start.agree, fun _ _ => id, .refl⟩

theorem trans (first : Leads maps numbers s t) (second : Leads maps numbers t u) : Leads maps numbers s u := fun start =>
  have next := second (first.sound start)
  ⟨next.agree, fun h T => next.law h T ∘ (first start).law h T, (first start).touches.trans next.touches⟩

/-- An event that leaves the maps and the list alone. -/
theorem of_quiet (quiet : Quiet s t) : Leads maps numbers s t := fun start =>
  ⟨fun h => quiet.re ▸ start.agree h,
    fun _ _ => State.lawfulBut.congr quiet.live (by rw [quiet.re]) (fun _ => by rw [quiet.re]) fun _ => by rw [quiet.re],
    .single (.quiet quiet)⟩

theorem foldl {β : Type} (op : State → β → State) (leads : ∀ s item, Leads maps numbers s (op s item)) (items : List β)
    (s : State) : Leads maps numbers s (items.foldl op s) := by
  induction items generalizing s with
  | nil => exact refl s
  | cons item rest ih => exact (leads s item).trans (ih _)

end Leads

/-! ## Steps without a change of the maps -/

theorem State.notify_quiet (s : State) (d : Detail) : Quiet s (s.notify d) := ⟨rfl, rfl, rfl, rfl, rfl, rfl, rfl, id⟩

/-- What moves only the measurement in flight, its unit staying, and the baselines. -/
theorem State.sense_quiet (s : State) (f : Measurement → Measurement) (b : Table Baseline)
    (unit : ∀ m, (f m).grant = m.grant) :
    Quiet s (s.withSu { s.su with inFlight := s.su.inFlight.map f, baselines := b }) := by
  refine ⟨rfl, rfl, rfl, rfl, rfl, rfl, rfl, fun ranged => ⟨ranged.1, fun m v purpose channel flight grant => ?_⟩⟩
  obtain ⟨m', flight', rfl⟩ := Option.map_eq_some_iff.1 flight
  exact ranged.2 m' v purpose channel flight' ((unit m').symm.trans grant)

theorem Measurement.dropFor_grant (m : Measurement) (us : List UnitId) : (m.dropFor us).grant = m.grant := by
  unfold Measurement.dropFor
  split
  · split <;> rfl
  · rfl

theorem State.clearClaim_quiet (s : State) (us : List UnitId) : Quiet s (s.clearClaim us) :=
  s.sense_quiet (·.dropFor us) _ fun m => m.dropFor_grant us

theorem State.disconnect_quiet (s : State) (k : Nat) : Quiet s (s.disconnect k) := by
  unfold State.disconnect
  split
  · rename_i m flight
    split
    · split
      · have moved := s.sense_quiet (fun m => { m with cut := true }) s.su.baselines fun _ => rfl
        rw [flight] at moved
        exact moved
      · exact .refl s
    · exact .refl s
    · exact .refl s
  · exact .refl s

section

variable {numbers : Prop}

theorem State.notify_touches (s : State) (d : Detail) : Touches numbers s (s.notify d) :=
  .single (.quiet (s.notify_quiet d))

theorem State.dropEntry_touches (s : State) (u : UnitId) : Touches numbers s (s.dropEntry u) :=
  .single (.lists s _ s.re.provings s.re.budget)

theorem State.setSuspects_touches (s : State) (es : List Entry) : Touches numbers s (s.setSuspects es) :=
  .single (.lists s es s.re.provings s.re.budget)

theorem State.setProvings_touches (s : State) (ps : List Proving) : Touches numbers s (s.setProvings ps) :=
  .single (.lists s s.re.suspects ps s.re.budget)

theorem State.dropProving_touches (s : State) (k : Nat) : Touches numbers s (s.dropProving k) :=
  .single (.lists s s.re.suspects _ s.re.budget)

/-- A change of a cell to a state that names no channel. -/
theorem State.setCell_touches (s : State) {n : Nat} {c : CellState} (d : DieState) (cell : numbers → n < 9216)
    (bare : c.channel = none) : Touches numbers s (s.setCell n c d) :=
  .single (.cell s n c d cell fun _ k named => by rw [bare] at named; cases named)

theorem State.freeChannel_touches (s : State) {k : Nat} (channel : numbers → k < 768) :
    Touches numbers s (s.freeChannel k) :=
  (Relation.ReflTransGen.single (.quiet (s.disconnect_quiet k))).trans
    (((s.disconnect k).dropProving_touches k).tail (.channel _ k _ channel))

theorem State.freeNamed_touches (s : State) (c : CellState) (channel : ∀ k, c.channel = some k → numbers → k < 768) :
    Touches numbers s (s.freeNamed c) := by
  cases named : c.channel with
  | none =>
    rw [State.freeNamed_none s named]
  | some k =>
    rw [State.freeNamed_some s named]
    exact s.freeChannel_touches (channel k named)

theorem State.strike_touches (s : State) {k : Nat} (channel : numbers → k < 768) : Touches numbers s (s.strike k) := by
  have dropped : Touches numbers s ((s.disconnect k).dropProving k) :=
    (Relation.ReflTransGen.single (.quiet (s.disconnect_quiet k))).trans ((s.disconnect k).dropProving_touches k)
  unfold State.strike
  dsimp only
  split
  · exact dropped.tail (.channel _ k _ channel)
  · exact (dropped.tail (.channel _ k _ channel)).trans (State.notify_touches _ _)

/-- A unit's own state names no channel that its cell did not name. -/
theorem State.setUnit_touches (s : State) {u : UnitId} {c : CellState} (d : DieState) (cell : numbers → u.cell < 9216)
    (bare : c.channel = none) (groups : numbers → s.inRange) : Touches numbers s (s.setUnit u c d) := by
  unfold State.setUnit
  cases u.side with
  | primary => exact s.setCell_touches _ cell bare
  | spare => exact .single (.cell s _ _ _ cell fun h k named => (groups h).2.2.2.2.1 _ k named)

end

/-- A cell that is not as reset left it is a cell of the wall, and its channel is a channel of its group (R1, R6). -/
theorem State.inRange.cell_lt {s : State} {n : Nat} (range : s.inRange) (changed : s.re.cell n ≠ .healthy) : n < 9216 := by
  by_contra past
  exact changed (range.1 n (not_lt.1 past)).1

theorem groupOf_lt {n : Nat} (cell : n < 9216) : groupOf n < 192 := by
  unfold groupOf rowOf columnOf
  omega

theorem channel_lt_of_group {k n : Nat} (group : groupOfChannel k = groupOf n) (cell : n < 9216) : k < 768 := by
  have := groupOf_lt cell
  unfold groupOfChannel at group
  omega

theorem State.inRange.channel_lt {s : State} {n k : Nat} (range : s.inRange) (named : (s.re.cell n).channel = some k) :
    k < 768 :=
  channel_lt_of_group (range.2.2.2.2.1 n k named) (range.cell_lt fun healthy => by rw [healthy] at named; cases named)

theorem State.inRange.listed_lt {s : State} {u : UnitId} (range : s.inRange)
    (listed : s.re.entryAgrees u) : u.cell < 9216 := by
  refine range.cell_lt fun healthy => ?_
  unfold RepairEngine.entryAgrees at listed
  rw [healthy] at listed
  cases side : u.side <;> simp [side, CellState.isSpared] at listed

end Sys2Proof.Machine

end

section
/-! PROOFS. O5: withdrawing cells and holding lines. -/

namespace Sys2Proof.Machine

/-! ## Withdrawing cells (R8, R10, R103, R109, R110, R119 to R123) -/

section

variable {maps numbers : Prop}

theorem State.withdraw_touches (s : State) {n : Nat} {c : CellState} (bare : c.channel = none) (cell : numbers → n < 9216)
    (range : numbers → s.inRange) : Touches numbers s (s.withdraw n c) :=
  (((s.dropEntry_touches ⟨.primary, n⟩).trans ((s.dropEntry ⟨.primary, n⟩).dropEntry_touches ⟨.spare, n⟩)).trans
    (State.freeNamed_touches _ _ fun _ named h => (range h).channel_lt named)).trans (State.setCell_touches _ _ cell bare)

/-- A withdrawal keeps the maps in agreement, unless it takes a cell of a HELD line out of CONCEALED(LINE). -/
theorem State.withdraw_consistent {s : State} {n : Nat} {c : CellState} (bare : c.channel = none)
    (stays : s.re.cell n = .concealed .line → c = .concealed .line) (agree : s.re.consistent) :
    (s.withdraw n c).re.consistent := by
  obtain ⟨_, _, _, cell, _, others, suspects, freed, kept, provings, _, _⟩ := s.withdraw_withdrawn n c
  refine agree.of_change n (fun m off => (others m off).1) (fun m off => (others m off).2)
    (fun l => s.withdrawAll_line_state [n] c l) (fun l held on => ?_) (fun _ => ?_) (fun k x claim => ?_)
    (fun k used => ?_) (fun k => ?_) (fun e listed => .inl ?_) fun p listed => .inl ?_
  · rw [cell]
    exact stays (agree.2.2.2.1 l held n on)
  · rw [cell, bare]
  · rw [cell, CellState.claim_none n bare] at claim
    cases claim
  · by_cases named : (s.re.cell n).channel = some k
    · rw [freed k named] at used
      cases used
    · rw [kept k named] at used
      exact absurd (agree.named used) named
  · by_cases named : (s.re.cell n).channel = some k
    · exact .inr ⟨.inl (agree.names named), .inr (by rw [freed k named]; rfl)⟩
    · exact .inl (by rw [kept k named])
  · rw [suspects] at listed
    obtain ⟨on, off⟩ := List.mem_filter.1 listed
    exact ⟨of_decide_eq_true off, agree.2.2.1 e on⟩
  · rw [provings] at listed
    obtain ⟨on, off⟩ := List.mem_filter.1 listed
    have stands := agree.2.1 p on
    refine ⟨fun here => of_decide_eq_true off ?_, stands⟩
    rw [← here, stands]
    rfl

theorem State.withdraw_leads (s : State) {n : Nat} {c : CellState} (bare : c.channel = none)
    (clear : c ≠ .suspect ∧ c ≠ .condemned) (stays : maps → s.re.cell n = .concealed .line → c = .concealed .line)
    (cell : numbers → n < 9216) : Leads maps numbers s (s.withdraw n c) := by
  intro start
  have touches := s.withdraw_touches bare cell start.range
  refine ⟨fun h => State.withdraw_consistent bare (stays h) (start.agree h), fun _ T => ?_, touches⟩
  obtain ⟨_, _, _, own, die, others, suspects, _⟩ := s.withdraw_withdrawn n c
  refine State.lawfulBut.of_filter n _ touches.live.1 suspects (fun m off => (others m off).1)
    (fun m off => (others m off).2) (fun e off => decide_eq_true off)
    (fun e _ kept here => absurd here (of_decide_eq_true kept)) fun u here inDoubt => ?_
  obtain ⟨side, m⟩ := u
  change m = n at here
  subst here
  cases side with
  | primary => exact absurd inDoubt (by simp [RepairEngine.isSuspected, RepairEngine.isCondemned, own, clear])
  | spare =>
    refine absurd inDoubt ?_
    simp only [RepairEngine.isSuspected, RepairEngine.isCondemned, die]
    cases s.re.die m <;> decide

/-- The withdrawal of a line's cells that a hold begins with. -/
theorem State.withdrawAll_leads (l : List Nat) (cells : ∀ n ∈ l, numbers → n < 9216) (s : State) :
    Leads maps numbers s (s.withdrawAll l (.concealed .line)) := by
  induction l generalizing s with
  | nil => exact .refl s
  | cons n rest ih =>
    exact (s.withdraw_leads rfl (by decide) (fun _ _ => rfl) (cells n List.mem_cons_self)).trans
      (ih (fun m on => cells m (List.mem_cons_of_mem _ on)) _)

/-- A line may become HELD when all its cells are CONCEALED(LINE), and NORMAL at any time, as far as the maps go. -/
theorem State.changeLine_leads (s : State) {l : Nat} {v : Line} (line : numbers → l < 240)
    (tally : numbers → v.tally = (s.re.line l).tally ∨ v.tally = (lineCells l).countP fun n => (s.re.cell n).counted)
    (concealed : maps → v.state = .held → ∀ n ∈ lineCells l, s.re.cell n = .concealed .line) :
    Leads maps numbers s (s.changeLine l v) := by
  intro start
  have touches : Touches numbers s (s.changeLine l v) := .single (.line s l v line tally)
  have unchanged : ∀ m, (s.changeLine l v).re.channel m = s.re.channel m := fun m => by simp
  refine ⟨fun h => ?_, fun _ _ => State.lawfulBut.congr touches.live.1 (by simp) (by simp) (by simp), touches⟩
  obtain ⟨channels, provings, suspects, lines, dead⟩ := start.agree h
  rw [State.changeLine_re]
  refine ⟨channels, provings, suspects, fun j held n on => ?_, dead⟩
  rw [State.setLine_line] at held
  rw [State.setLine_cell]
  split at held
  · rename_i here
    subst here
    exact concealed h held n on
  · exact lines j held n on

theorem State.hold_leads (s : State) {l : Nat} (line : numbers → l < 240) : Leads maps numbers s (s.hold l) := by
  have concealed : ∀ n ∈ lineCells l, (s.withdrawAll (lineCells l) (.concealed .line)).re.cell n = .concealed .line :=
    fun n on => by rw [State.withdrawAll_cell, if_pos on]
  have first := State.withdrawAll_leads (maps := maps) (lineCells l) (fun n on h => lineCells_lt (line h) on) s
  rw [State.hold_eq, ← s.withdrawAll_line_state (lineCells l) (.concealed .line) l]
  refine first.trans (Leads.trans (State.changeLine_leads _ line (fun _ => .inr (Eq.symm ?_)) fun _ _ => concealed)
    (.of_quiet (State.notify_quiet _ _)))
  exact List.countP_eq_zero.2 fun n on => by rw [concealed n on]; decide

theorem State.judgeLimits_leads (s : State) {n : Nat} (cell : numbers → n < 9216) :
    Leads maps numbers s (s.judgeLimits n) := by
  have first : Leads maps numbers s (if s.atLimit (cLineOf n) then s.hold (cLineOf n) else s) := by
    split
    · exact s.hold_leads fun _ => (cLineOf_lt n).trans (by decide)
    · exact .refl s
  unfold State.judgeLimits
  dsimp only
  split
  · exact first.trans (State.hold_leads _ fun h => (rLineOf_lt (cell h)).2)
  · exact first

theorem State.newLimit_leads (s : State) {lines : List Nat} (known : ∀ l ∈ lines, l < 240) :
    Leads maps numbers s (s.newLimit lines) := by
  unfold State.newLimit
  have filtered : ∀ l ∈ lines.filter s.atLimit, l < 240 := fun l on => known l (List.mem_of_mem_filter on)
  generalize lines.filter s.atLimit = held at filtered
  induction held generalizing s with
  | nil => exact .refl s
  | cons l rest ih =>
    exact (s.hold_leads fun _ => filtered l List.mem_cons_self).trans
      (ih _ fun j on => filtered j (List.mem_cons_of_mem _ on))

end

end Sys2Proof.Machine

end

section
/-! PROOFS. O5: changes of a cell that leave the channels. -/

namespace Sys2Proof.Machine

/-! ## A change of one cell that leaves the channels as they were -/

/-- The maps still agree after a change of cell `n` and its die that leaves the cell's claim and every channel. -/
theorem RepairEngine.consistent.of_same_claim {r r' : RepairEngine} (agree : r.consistent) (n : Nat)
    (cells : ∀ m, m ≠ n → r'.cell m = r.cell m) (dies : ∀ m, m ≠ n → r'.die m = r.die m)
    (lines : ∀ l, (r'.line l).state = (r.line l).state) (channels : ∀ k, (r'.channel k).state = (r.channel k).state)
    (held : ∀ l, (r.line l).state = .held → n ∈ lineCells l → r'.cell n = .concealed .line)
    (dead : r'.die n = .dead → (r'.cell n).channel = none) (claim : (r'.cell n).claim n = (r.cell n).claim n)
    (suspects : ∀ e ∈ r'.suspects, e.unit.cell ≠ n ∧ r.entryAgrees e.unit ∨ r'.entryAgrees e.unit)
    (provings : ∀ p ∈ r'.provings, p.cell ≠ n ∧ r.provingAgrees p ∨ r'.provingAgrees p) : r'.consistent := by
  obtain ⟨met, claimed⟩ := (RepairEngine.channelsAgree_iff r).1 agree.1
  refine agree.of_change n cells dies lines held dead (fun k x claims => ?_) (fun k used => ?_)
    (fun k => .inl (channels k)) suspects provings
  · rw [channels]
    exact met n k x (claim ▸ claims)
  · rw [channels] at used ⊢
    rw [claim]
    exact claimed k n used

/-- A proving record stands for a cell that names its channel. -/
theorem RepairEngine.provingAgrees.named {r : RepairEngine} {p : Proving} (stands : r.provingAgrees p) :
    (r.cell p.cell).channel = some p.channel := by
  rw [show r.cell p.cell = _ from stands]
  rfl

/-- No proving record stands for a cell that names no channel. -/
theorem RepairEngine.provingAgrees.apart {r : RepairEngine} {p : Proving} {n : Nat} (stands : r.provingAgrees p)
    (bare : (r.cell n).channel = none) : p.cell ≠ n := fun here => by
  rw [← here, stands.named] at bare
  cases bare

/-- A unit that serves: a primary that is not PENDING-SPARE, SPARED or CONCEALED, or the die of a SPARED cell (R4). -/
def RepairEngine.serves (r : RepairEngine) (u : UnitId) : Prop :=
  match u.side with
  | .primary => r.cell u.cell = .healthy ∨ r.cell u.cell = .suspect ∨ r.cell u.cell = .condemned
  | .spare => (r.cell u.cell).isSpared = true

theorem RepairEngine.entryAgrees.serves {r : RepairEngine} {u : UnitId} (listed : r.entryAgrees u) : r.serves u := by
  obtain ⟨side, n⟩ := u
  cases side with
  | primary => exact .inr listed
  | spare => exact listed.2

theorem RepairEngine.serves_of_qualifies {r : RepairEngine} {u : UnitId} (qualifies : r.qualifies u = true) : r.serves u := by
  obtain ⟨side, n⟩ := u
  cases side with
  | primary => exact .inl (of_decide_eq_true qualifies)
  | spare =>
    unfold RepairEngine.qualifies at qualifies
    cases state : r.cell n <;> simp [state] at qualifies
    simp [RepairEngine.serves, state, CellState.isSpared]

/-- A cell whose primary serves is not SPARED, so its die does not serve. -/
theorem RepairEngine.serves.not_die {r : RepairEngine} {n : Nat} (primary : r.serves ⟨.primary, n⟩) :
    ¬r.serves ⟨.spare, n⟩ := by
  unfold RepairEngine.serves at primary ⊢
  dsimp only at primary ⊢
  cases state : r.cell n <;> simp [state, CellState.isSpared] at primary ⊢

/-- Only one of a cell's two units serves. -/
theorem RepairEngine.serves.alone {r : RepairEngine} {u v : UnitId} (one : r.serves u) (other : r.serves v)
    (same : v.cell = u.cell) : v = u := by
  obtain ⟨side, n⟩ := u
  obtain ⟨side', m⟩ := v
  change m = n at same
  subst same
  cases side with
  | primary =>
    cases side' with
    | primary => rfl
    | spare => exact absurd other one.not_die
  | spare =>
    cases side' with
    | primary => exact absurd one other.not_die
    | spare => rfl

/-- A serving unit's cell is on no HELD line. -/
theorem RepairEngine.serves.off {r : RepairEngine} {u : UnitId} (serves : r.serves u) :
    r.cell u.cell ≠ .concealed .line := fun concealed => by
  unfold RepairEngine.serves at serves
  cases side : u.side <;> simp [side, concealed, CellState.isSpared] at serves

/-- The maps still agree after a serving unit's own state has changed, when the list holds of its cell at most an entry that
the new state bears. -/
theorem State.setUnit_consistent {s : State} {u : UnitId} {c : CellState} {d : DieState} (es : List Entry)
    (agree : s.re.consistent) (serves : s.re.serves u) (bare : c.channel = none) (alive : d ≠ .dead)
    (entries : ∀ e ∈ es, e.unit ≠ u ∧ s.re.entryAgrees e.unit ∨
      e.unit = u ∧ (c = .suspect ∨ c = .condemned) ∧ (d = .suspect ∨ d = .condemned)) :
    ((s.setSuspects es).setUnit u c d).re.consistent := by
  refine agree.of_same_claim u.cell (fun m off => ?_) (fun m off => ?_) (fun l => ?_) (fun k => ?_)
    (fun l held on => absurd on (agree.off_held serves.off held)) (fun died => ?_) ?_ (fun e listed => ?_) fun p listed => ?_
  · rw [State.setUnit_cell, if_neg fun h => off h.2.symm, State.setSuspects_cell]
  · rw [State.setUnit_die, if_neg fun h => off h.2.symm, State.setSuspects_die]
  · rw [State.setUnit_line_state, State.setSuspects_line]
  · rw [State.setUnit_channel, State.setSuspects_channel]
  · rw [State.setUnit_die] at died
    rw [State.setUnit_cell]
    split
    · exact bare
    · rename_i other
      split at died
      · exact absurd died alive
      · exact agree.2.2.2.2 _ died
  · rw [State.setUnit_cell, State.setSuspects_cell]
    split
    · rename_i primary
      rw [CellState.claim_none _ bare]
      unfold RepairEngine.serves at serves
      rw [primary.1] at serves
      rcases serves with state | state | state <;> rw [state] <;> rfl
    · rfl
  · rw [State.setUnit_suspects] at listed
    rcases entries e listed with ⟨apart, before⟩ | ⟨here, cell, die⟩
    · exact .inl ⟨fun same => apart (serves.alone before.serves same), before⟩
    · right
      unfold RepairEngine.entryAgrees
      unfold RepairEngine.serves at serves
      rw [here, State.setUnit_cell, State.setUnit_die]
      cases side : u.side with
      | primary => simpa [side] using cell
      | spare => simpa [side] using ⟨die, by simpa [side] using serves⟩
  · rw [State.setUnit_provings] at listed
    have before := agree.2.1 p listed
    by_cases here : p.cell = u.cell
    · right
      unfold RepairEngine.provingAgrees
      rw [State.setUnit_cell, if_neg, State.setSuspects_cell]
      · exact before
      · rintro ⟨primary, _⟩
        rw [here] at before
        unfold RepairEngine.serves at serves
        rw [primary, before] at serves
        simp at serves
    · exact .inl ⟨here, before⟩

end Sys2Proof.Machine

end

section
/-! PROOFS. O5: entries and units. -/

namespace Sys2Proof.Machine

/-! ## Entries and units (R75 to R82, R85) -/

/-- A unit's own change concerns no other unit. -/
theorem State.setUnit_other (s : State) {u v : UnitId} (other : v ≠ u) (c : CellState) (d : DieState) :
    ((s.setUnit u c d).re.isCondemned v ↔ s.re.isCondemned v) ∧
      ((s.setUnit u c d).re.isSuspected v ↔ s.re.isSuspected v) := by
  obtain ⟨side, n⟩ := u
  obtain ⟨side', m⟩ := v
  have apart : side' = side → n ≠ m := fun same here => other (by rw [same, here])
  unfold RepairEngine.isCondemned RepairEngine.isSuspected
  rw [State.setUnit_cell, State.setUnit_die]
  cases side' with
  | primary =>
    have keeps : ¬(side = .primary ∧ n = m) := fun h => apart h.1.symm h.2
    simp [keeps]
  | spare =>
    have keeps : ¬(side = .spare ∧ n = m) := fun h => apart h.1.symm h.2
    simp [keeps]

theorem State.setUnit_own (s : State) (u : UnitId) (c : CellState) (d : DieState) :
    ((s.setUnit u c d).re.isCondemned u ↔ match u.side with | .primary => c = .condemned | .spare => d = .condemned) ∧
      ((s.setUnit u c d).re.isSuspected u ↔ match u.side with | .primary => c = .suspect | .spare => d = .suspect) := by
  unfold RepairEngine.isCondemned RepairEngine.isSuspected
  rw [State.setUnit_cell, State.setUnit_die]
  cases u.side <;> simp

/-- The law after a change of one unit alone that leaves it out of doubt and unlisted. -/
theorem State.lawfulBut.of_unit {s t : State} {T : UnitId → Prop} (u : UnitId) (keep : Entry → Bool)
    (live : t.live = s.live) (suspects : t.re.suspects = s.re.suspects.filter keep)
    (others : ∀ v, v ≠ u → (t.re.isCondemned v ↔ s.re.isCondemned v) ∧ (t.re.isSuspected v ↔ s.re.isSuspected v))
    (clear : ¬t.re.isCondemned u ∧ ¬t.re.isSuspected u) (kept : ∀ e, e.unit ≠ u → keep e = true)
    (gone : ∀ e ∈ s.re.suspects, keep e = true → e.unit ≠ u) (law : s.lawfulBut T) : t.lawfulBut T := by
  obtain ⟨threshold, once, entries, doubted⟩ := law
  unfold State.lawfulBut
  rw [State.setting_congr live, suspects]
  refine ⟨threshold, once.sublist (List.filter_sublist.map _), fun e on => ?_, fun v inDoubt => ?_⟩
  · obtain ⟨on, keeps⟩ := List.mem_filter.1 on
    rw [(others e.unit (gone e on keeps)).1]
    exact entries e on
  · have apart : v ≠ u := fun same => by
      rw [same] at inDoubt
      exact inDoubt.elim clear.2 clear.1
    rw [(others v apart).1, (others v apart).2] at inDoubt
    obtain ⟨e, on, unit⟩ := doubted v inDoubt
    exact ⟨e, List.mem_filter.2 ⟨on, kept e (unit ▸ apart)⟩, unit⟩

/-- A change of one cell, its die staying, concerns its primary alone. -/
theorem RepairEngine.doubts_of_cell {r r' : RepairEngine} (n : Nat) (cells : ∀ m, m ≠ n → r'.cell m = r.cell m)
    (dies : ∀ m, r'.die m = r.die m) (v : UnitId) (other : v ≠ ⟨.primary, n⟩) :
    (r'.isCondemned v ↔ r.isCondemned v) ∧ (r'.isSuspected v ↔ r.isSuspected v) := by
  obtain ⟨side, m⟩ := v
  unfold RepairEngine.isCondemned RepairEngine.isSuspected
  cases side with
  | primary =>
    dsimp only
    rw [cells m fun here => other (by rw [here])]
    exact ⟨.rfl, .rfl⟩
  | spare =>
    dsimp only
    rw [dies m]
    exact ⟨.rfl, .rfl⟩

section

variable {maps numbers : Prop}

/-- A unit leaves the list and serves undoubted again (R75, R80, R85). -/
theorem State.giveBack_leads (s : State) {u : UnitId} (listed : maps → s.re.entryAgrees u) :
    Leads maps numbers s ((s.dropEntry u).returnUnit u) := by
  intro start
  have touches : Touches numbers s ((s.dropEntry u).returnUnit u) := (s.dropEntry_touches u).trans
    (State.setUnit_touches _ _ (fun h => (start.range h).listed_lt (listed (start.order h))) rfl start.range)
  refine ⟨fun h => ?_, fun h T law => ?_, touches⟩
  · refine State.setUnit_consistent _ (start.agree h) (listed h).serves rfl (by decide) fun e on => .inl ?_
    obtain ⟨on, apart⟩ := List.mem_filter.1 on
    exact ⟨of_decide_eq_true apart, (start.agree h).2.2.1 e on⟩
  · refine law.of_unit u _ touches.live.1 (State.setUnit_suspects _ _ _ _)
      (fun v other => State.setUnit_other _ other _ _) ?_ (fun e => decide_eq_true) fun e _ => of_decide_eq_true
    unfold State.returnUnit
    rw [(State.setUnit_own _ _ _ _).1, (State.setUnit_own _ _ _ _).2]
    cases u.side <;> simp

/-- A unit that qualifies has no entry. -/
theorem RepairEngine.unlisted_of_qualifies {r : RepairEngine} {u : UnitId} (qualifies : r.qualifies u = true) :
    ¬r.entryAgrees u := by
  obtain ⟨side, n⟩ := u
  unfold RepairEngine.qualifies at qualifies
  unfold RepairEngine.entryAgrees
  cases side with
  | primary =>
    have state : r.cell n = .healthy := of_decide_eq_true qualifies
    simp [state]
  | spare =>
    cases state : r.cell n <;> simp [state] at qualifies
    simp [qualifies]

theorem State.enlist_leads (s : State) {u : UnitId} (kind : FaultKind) (qualifies : maps → s.re.qualifies u = true)
    (cell : numbers → u.cell < 9216) : Leads maps numbers s (s.enlist u kind) := by
  intro start
  have touches : Touches numbers s (s.enlist u kind) :=
    (s.setSuspects_touches _).trans (State.setUnit_touches _ _ cell rfl start.range)
  refine ⟨fun h => ?_, fun h T law => ?_, touches⟩
  · refine State.setUnit_consistent _ (start.agree h) (RepairEngine.serves_of_qualifies (qualifies h)) rfl (by decide)
      fun e on => ?_
    rcases List.mem_append.1 on with on | on
    · have stands := (start.agree h).2.2.1 e on
      exact .inl ⟨fun same => RepairEngine.unlisted_of_qualifies (qualifies h) (same ▸ stands), stands⟩
    · rw [List.mem_singleton.1 on]
      exact .inr ⟨rfl, .inl rfl, .inl rfl⟩
  · have fresh : ∀ e ∈ s.re.suspects, e.unit ≠ u := fun e on same =>
      RepairEngine.unlisted_of_qualifies (qualifies h) (same ▸ (start.agree h).2.2.1 e on)
    obtain ⟨threshold, once, entries, doubted⟩ := law
    have list : (s.enlist u kind).re.suspects = s.re.suspects ++
        [⟨u, kind, 1, s.setting Setting.retestInterval, s.pp.frame⟩] := State.setUnit_suspects _ _ _ _
    unfold State.lawfulBut
    rw [State.setting_congr touches.live.1, list, List.map_append]
    refine ⟨threshold, List.nodup_append.2 ⟨once, List.nodup_singleton _, fun a on b new => ?_⟩, fun e on => ?_,
      fun v inDoubt => ?_⟩
    · obtain ⟨e, was, rfl⟩ := List.mem_map.1 on
      rw [List.mem_singleton.1 new]
      exact fresh e was
    · rcases List.mem_append.1 on with on | on
      · rw [State.enlist, (State.setUnit_other _ (fresh e on) _ _).1]
        exact entries e on
      · rw [List.mem_singleton.1 on, State.enlist, (State.setUnit_own _ _ _ _).1]
        refine ⟨⟨le_refl _, (Nat.le_succ 1).trans threshold⟩, fun condemned => ?_, fun (equal : 1 = _) => ?_⟩
        · cases side : u.side <;> simp [side] at condemned
        · omega
    · by_cases here : v = u
      · exact ⟨_, List.mem_append_right _ (List.mem_singleton.2 rfl), here.symm⟩
      · rw [State.enlist, (State.setUnit_other _ here _ _).1, (State.setUnit_other _ here _ _).2] at inDoubt
        obtain ⟨e, on, unit⟩ := doubted v inDoubt
        exact ⟨e, List.mem_append_left _ on, unit⟩

/-- Entries that keep their units, and of which none reaches the threshold or falls from it. -/
theorem State.mapEntries_leads (s : State) {f : Entry → Entry} (units : ∀ e, (f e).unit = e.unit)
    (evidence : maps → ∀ T, s.lawfulBut T → ∀ e ∈ s.re.suspects, (1 ≤ (f e).evidence ∧ (f e).evidence ≤ s.setting 13) ∧
      ((f e).evidence = s.setting 13 ↔ e.evidence = s.setting 13)) :
    Leads maps numbers s (s.setSuspects (s.re.suspects.map f)) := by
  intro start
  refine ⟨fun h => ?_, fun h T law => ?_, s.setSuspects_touches _⟩
  · obtain ⟨channels, provings, suspects, lines, dead⟩ := start.agree h
    refine ⟨channels, provings, fun e on => ?_, lines, dead⟩
    obtain ⟨e, was, rfl⟩ := List.mem_map.1 on
    rw [units]
    exact suspects e was
  · have numbers := evidence h T law
    obtain ⟨threshold, once, entries, doubted⟩ := law
    refine ⟨threshold, ?_, fun e on => ?_, fun u inDoubt => ?_⟩
    · rw [State.setSuspects_suspects, List.map_map]
      rwa [show (fun e : Entry => e.unit) ∘ f = fun e => e.unit from funext units]
    · obtain ⟨e, was, rfl⟩ := List.mem_map.1 on
      obtain ⟨_, marked, condemned⟩ := entries e was
      obtain ⟨bounds, stays⟩ := numbers e was
      rw [units]
      exact ⟨bounds, fun mark => stays.2 (marked mark), fun equal => condemned (stays.1 equal)⟩
    · obtain ⟨e, on, unit⟩ := doubted u inDoubt
      exact ⟨f e, List.mem_map_of_mem on, (units e).trans unit⟩

/-- The change of an entry and its unit's condemnation, without the judgement of the limits. -/
def State.confirm (s : State) (u : UnitId) (f : Entry → Entry) : State :=
  (s.changeEntry u f).setUnit u .condemned .condemned

theorem State.confirm_live (s : State) (u : UnitId) (f : Entry → Entry) : (s.confirm u f).live = s.live := by
  unfold State.confirm State.setUnit
  cases u.side <;> rw [State.setCell_live] <;> rfl

theorem State.confirm_suspects (s : State) (u : UnitId) (f : Entry → Entry) :
    (s.confirm u f).re.suspects = s.re.suspects.map fun e => if e.unit = u then f e else e :=
  State.setUnit_suspects _ _ _ _

theorem State.confirm_touches (s : State) {u : UnitId} {f : Entry → Entry} (cell : numbers → u.cell < 9216)
    (range : numbers → s.inRange) : Touches numbers s (s.confirm u f) :=
  (s.setSuspects_touches _).trans (State.setUnit_touches _ _ cell rfl range)

theorem State.confirm_consistent {s : State} {u : UnitId} {f : Entry → Entry} (units : ∀ e, (f e).unit = e.unit)
    (listed : s.re.entryAgrees u) (agree : s.re.consistent) : (s.confirm u f).re.consistent := by
  refine State.setUnit_consistent _ agree listed.serves rfl (by decide) fun e on => ?_
  obtain ⟨e, was, rfl⟩ := List.mem_map.1 on
  split
  · rename_i here
    exact .inr ⟨(units e).trans here, .inr rfl, .inr rfl⟩
  · rename_i apart
    exact .inl ⟨apart, agree.2.2.1 e was⟩

/-- A listed unit whose evidence has come to the threshold is condemned: one less is left to condemn. -/
theorem State.confirm_law {s : State} {u : UnitId} {f : Entry → Entry} {T : UnitId → Prop}
    (units : ∀ e, (f e).unit = e.unit) (on : ∃ e ∈ s.re.suspects, e.unit = u)
    (reached : ∀ e ∈ s.re.suspects, e.unit = u → (f e).evidence = s.setting 13) (law : s.lawfulBut T) :
    (s.confirm u f).lawfulBut fun v => T v ∧ v ≠ u := by
  obtain ⟨threshold, once, entries, doubted⟩ := law
  have unit : ∀ e : Entry, (if e.unit = u then f e else e).unit = e.unit := fun e => by
    split
    · exact units e
    · rfl
  unfold State.lawfulBut
  rw [State.setting_congr (s.confirm_live u f), s.confirm_suspects]
  refine ⟨threshold, ?_, fun e listed => ?_, fun v inDoubt => ?_⟩
  · rw [List.map_map]
    rwa [show (fun e : Entry => e.unit) ∘ (fun e => if e.unit = u then f e else e) = fun e => e.unit from funext unit]
  · obtain ⟨e, was, rfl⟩ := List.mem_map.1 listed
    split
    · rename_i here
      have equal := reached e was here
      refine ⟨⟨by omega, equal.le⟩, fun _ => equal, fun _ => .inl ?_⟩
      rw [units e, here, State.confirm, (State.setUnit_own _ _ _ _).1]
      cases u.side <;> rfl
    · rename_i apart
      rw [State.confirm, (State.setUnit_other _ apart _ _).1]
      obtain ⟨bounds, marked, condemned⟩ := entries e was
      exact ⟨bounds, marked, fun equal => (condemned equal).imp id fun waits => ⟨waits, apart⟩⟩
  · by_cases here : v = u
    · obtain ⟨e, listed, rfl⟩ := on
      exact ⟨_, List.mem_map_of_mem listed, (unit e).trans here.symm⟩
    · rw [State.confirm, (State.setUnit_other _ here _ _).1, (State.setUnit_other _ here _ _).2] at inDoubt
      obtain ⟨e, listed, rfl⟩ := doubted v inDoubt
      exact ⟨_, List.mem_map_of_mem listed, unit e⟩

theorem State.lawfulBut.mono {s : State} {T T' : UnitId → Prop} (more : ∀ u, T u → T' u) (law : s.lawfulBut T) :
    s.lawfulBut T' := by
  obtain ⟨threshold, once, entries, doubted⟩ := law
  refine ⟨threshold, once, fun e on => ?_, doubted⟩
  obtain ⟨bounds, marked, condemned⟩ := entries e on
  exact ⟨bounds, marked, fun equal => (condemned equal).imp id (more _)⟩

theorem State.confirm_leads (s : State) {u : UnitId} {f : Entry → Entry} (units : ∀ e, (f e).unit = e.unit)
    (on : ∃ e ∈ s.re.suspects, e.unit = u)
    (reached : maps → ∀ T, s.lawfulBut T → ∀ e ∈ s.re.suspects, e.unit = u → (f e).evidence = s.setting 13) :
    Leads maps numbers s (s.confirm u f) := by
  intro start
  have listed : maps → s.re.entryAgrees u := fun h => by
    obtain ⟨e, on, rfl⟩ := on
    exact (start.agree h).2.2.1 e on
  exact ⟨fun h => State.confirm_consistent units (listed h) (start.agree h),
    fun h T law => (State.confirm_law units on (reached h T law) law).mono fun _ waits => waits.1,
    s.confirm_touches (fun h => (start.range h).listed_lt (listed (start.order h))) start.range⟩

/-- What a condemnation ends with: FAULT CONFIRMED, and for a primary the judgement of the limits (R81, R117). -/
def State.announce (s : State) (u : UnitId) (kind : FaultKind) : State :=
  match u.side with
  | .primary => (s.notify (.faultConfirmed u kind)).judgeLimits u.cell
  | .spare => s.notify (.faultConfirmed u kind)

theorem State.changeEntry_condemn (s : State) (u : UnitId) (f : Entry → Entry) (kind : FaultKind) :
    (s.changeEntry u f).condemn u kind = (s.confirm u f).announce u kind := by
  obtain ⟨side, n⟩ := u
  cases side <;> rfl

theorem State.announce_leads (s : State) {u : UnitId} (kind : FaultKind) (cell : numbers → u.cell < 9216) :
    Leads maps numbers s (s.announce u kind) := by
  unfold State.announce
  cases u.side with
  | primary => exact (Leads.of_quiet (s.notify_quiet _)).trans (State.judgeLimits_leads _ cell)
  | spare => exact .of_quiet (s.notify_quiet _)

theorem State.condemn_leads (s : State) {u : UnitId} {f : Entry → Entry} (kind : FaultKind)
    (units : ∀ e, (f e).unit = e.unit) (on : ∃ e ∈ s.re.suspects, e.unit = u)
    (reached : maps → ∀ T, s.lawfulBut T → ∀ e ∈ s.re.suspects, e.unit = u → (f e).evidence = s.setting 13) :
    Leads maps numbers s ((s.changeEntry u f).condemn u kind) := by
  intro start
  rw [State.changeEntry_condemn]
  refine ((s.confirm_leads units on reached).trans (State.announce_leads _ kind fun h => ?_)) start
  obtain ⟨e, on, rfl⟩ := on
  exact (start.range h).listed_lt ((start.agree (start.order h)).2.2.1 e on)

end

end Sys2Proof.Machine

end

section
/-! PROOFS. O5: provings and condemned primaries. -/

namespace Sys2Proof.Machine

/-! ## Decisions and provings (R83 to R104) -/

/-- A cell that names a channel has no entry of its primary, and one of its die only when it is SPARED (R75). -/
theorem RepairEngine.entryAgrees.of_named {r : RepairEngine} {u : UnitId} {k : Nat} (listed : r.entryAgrees u)
    (named : (r.cell u.cell).channel = some k) : u.side = .spare ∧ r.cell u.cell = .spared k := by
  obtain ⟨side, n⟩ := u
  unfold RepairEngine.entryAgrees at listed
  dsimp only at listed named
  cases side with
  | primary => rcases listed with state | state <;> rw [state] at named <;> cases named
  | spare =>
    obtain ⟨_, spared⟩ := listed
    cases state : r.cell n <;> simp [state, CellState.isSpared, CellState.channel] at spared named ⊢
    exact named

/-- A cell that names no channel has no entry of its die. -/
theorem RepairEngine.entryAgrees.of_bare {r : RepairEngine} {u : UnitId} (listed : r.entryAgrees u)
    (bare : (r.cell u.cell).channel = none) : u.side = .primary := by
  obtain ⟨side, n⟩ := u
  unfold RepairEngine.entryAgrees at listed
  dsimp only at listed bare
  cases side with
  | primary => rfl
  | spare =>
    obtain ⟨_, spared⟩ := listed
    cases state : r.cell n <;> simp [state, CellState.isSpared, CellState.channel] at spared bare

theorem CellState.off_line_of_named {c : CellState} {k : Nat} (named : c.channel = some k) : c ≠ .concealed .line :=
  fun concealed => by rw [concealed] at named; cases named

/-- A PENDING-SPARE cell has no entry. -/
theorem RepairEngine.entryAgrees.off_pending {r : RepairEngine} {u : UnitId} (listed : r.entryAgrees u) {n : Nat}
    {phase : Phase} {k : Nat} (pending : r.cell n = .pendingSpare phase k) : u.cell ≠ n := fun here => by
  have named : (r.cell u.cell).channel = some k := by rw [here, pending]; rfl
  have spared := (listed.of_named named).2
  rw [here, pending] at spared
  cases spared

theorem UnitId.ext {u v : UnitId} (side : u.side = v.side) (cell : u.cell = v.cell) : u = v := by
  obtain ⟨_, _⟩ := u
  obtain ⟨_, _⟩ := v
  exact congrArg₂ UnitId.mk side cell

section

variable {maps numbers : Prop}

/-! ### A proving starts -/

/-- What the start of a proving leaves of the maps and lists. -/
theorem State.startProving_maps (s : State) (n k : Nat) :
    (∀ m, (s.startProving n k).re.cell m = if n = m then .pendingSpare .proving k else s.re.cell m) ∧
      (∀ m, (s.startProving n k).re.die m = s.re.die m) ∧
      (∀ j, ((s.startProving n k).re.channel j).state = if k = j then .proving n else (s.re.channel j).state) ∧
      (∀ l, ((s.startProving n k).re.line l).state = (s.re.line l).state) ∧
      (s.startProving n k).re.suspects = s.re.suspects ∧
      (s.startProving n k).re.provings = s.re.provings ++ [⟨n, k, .proving, 0, 0⟩] := by
  unfold State.startProving
  refine ⟨fun m => by simp [State.setCell_cell], fun m => ?_, fun j => ?_,
    fun l => by simp [State.setCell_line_state], by simp, by simp⟩
  · simp only [State.setCell_die, State.setProvings_die, State.setChannel_die]
    split
    · rename_i here
      rw [here]
    · rfl
  · simp only [State.setCell_channel, State.setProvings_channel, State.setChannel_channel]
    split <;> simp

theorem State.startProving_touches (s : State) {n k : Nat} (cell : numbers → n < 9216)
    (group : numbers → groupOfChannel k = groupOf n) : Touches numbers s (s.startProving n k) := by
  refine ((Relation.ReflTransGen.single (.channel s k _ fun h => ?_)).trans (State.setProvings_touches _ _)).tail
    (.cell _ n _ _ cell fun h j named => ?_)
  · cases named
    exact group h
  · exact channel_lt_of_group (group h) (cell h)

/-- With the primary's entry off the list, the channel FREE and the cell naming none, the maps still agree. -/
theorem State.startProving_consistent {s : State} {n k : Nat} (agree : s.re.consistent)
    (unlisted : ∀ e ∈ s.re.suspects, e.unit ≠ ⟨.primary, n⟩) (free : (s.re.channel k).state = .free)
    (bare : (s.re.cell n).channel = none) (off : s.re.cell n ≠ .concealed .line) (alive : s.re.die n ≠ .dead) :
    (s.startProving n k).re.consistent := by
  obtain ⟨cells, dies, channels, lines, suspects, provings⟩ := s.startProving_maps n k
  refine agree.of_change n (fun m apart => by rw [cells, if_neg (Ne.symm apart)]) (fun m _ => dies m) lines
    (fun l held on => absurd on (agree.off_held off held)) (fun died => absurd ((dies n).symm.trans died) alive)
    (fun j x claim => ?_) (fun j used => ?_) (fun j => ?_) (fun e listed => .inl ?_) fun p listed => ?_
  · rw [cells, if_pos rfl] at claim
    cases claim
    rw [channels, if_pos rfl]
  · rw [channels] at used ⊢
    rw [cells, if_pos rfl]
    split
    · rename_i here
      subst here
      rfl
    · rename_i apart
      rw [if_neg apart] at used
      rw [agree.named used] at bare
      cases bare
  · rw [channels]
    split
    · rename_i here
      subst here
      exact .inr ⟨.inr (by rw [free]; rfl), .inl rfl⟩
    · exact .inl rfl
  · rw [suspects] at listed
    have stands : s.re.entryAgrees e.unit := agree.2.2.1 e listed
    refine ⟨fun here => unlisted e listed ?_, stands⟩
    have side := stands.of_bare (here ▸ bare)
    exact UnitId.ext side here
  · rw [provings] at listed
    rcases List.mem_append.1 listed with old | new
    · have stands : s.re.provingAgrees p := agree.2.1 p old
      exact .inl ⟨stands.apart bare, stands⟩
    · rw [List.mem_singleton.1 new]
      exact .inr ((cells n).trans (if_pos rfl))

/-- An entry that leaves the list leaves the maps in agreement. -/
theorem State.dropEntry_consistent {s : State} (u : UnitId) (agree : s.re.consistent) : (s.dropEntry u).re.consistent :=
  ⟨agree.1, agree.2.1, fun e on => agree.2.2.1 e (List.mem_of_mem_filter on), agree.2.2.2⟩

/-- A proving starts, the primary's entry off the list (R83, R92, R107). -/
theorem State.prove_leads (s : State) {n k : Nat} (free : maps → (s.re.channel k).state = .free)
    (bare : maps → (s.re.cell n).channel = none) (off : maps → s.re.cell n ≠ .concealed .line)
    (alive : maps → s.re.die n ≠ .dead) (cell : numbers → n < 9216) (group : numbers → groupOfChannel k = groupOf n) :
    Leads maps numbers s ((s.dropEntry ⟨.primary, n⟩).startProving n k) := by
  intro start
  have touches : Touches numbers s ((s.dropEntry ⟨.primary, n⟩).startProving n k) :=
    (s.dropEntry_touches _).trans (State.startProving_touches _ cell group)
  refine ⟨fun h => ?_, fun h T law => ?_, touches⟩
  · exact State.startProving_consistent (State.dropEntry_consistent _ (start.agree h))
      (fun e on => of_decide_eq_true (List.mem_filter.1 on).2) (free h) (bare h) (off h) (alive h)
  · obtain ⟨cells, dies, _, _, suspects, _⟩ := (s.dropEntry ⟨.primary, n⟩).startProving_maps n k
    refine law.of_unit ⟨.primary, n⟩ _ touches.live.1 suspects
      (RepairEngine.doubts_of_cell n (fun m apart => ?_) dies) ?_ (fun e => decide_eq_true) fun e _ => of_decide_eq_true
    · rw [cells, if_neg (Ne.symm apart), State.dropEntry_cell]
    · simp [RepairEngine.isCondemned, RepairEngine.isSuspected, cells]

/-! ### A condemned primary is put out of use -/

/-- A cell is CONCEALED, its entry off the list and its die as it was (R89). -/
theorem State.shelve_leads (s : State) {n : Nat} {r : Reason}
    (bare : maps → (s.re.cell n).channel = none) (off : maps → s.re.cell n ≠ .concealed .line)
    (cell : numbers → n < 9216) :
    Leads maps numbers s ((s.dropEntry ⟨.primary, n⟩).setCell n (.concealed r) (s.re.die n)) := by
  intro start
  have touches : Touches numbers s ((s.dropEntry ⟨.primary, n⟩).setCell n (.concealed r) (s.re.die n)) :=
    (s.dropEntry_touches _).trans (State.setCell_touches _ _ cell rfl)
  have dies : ∀ m, ((s.dropEntry ⟨.primary, n⟩).setCell n (.concealed r) (s.re.die n)).re.die m = s.re.die m := fun m => by
    rw [State.setCell_die, State.dropEntry_die]
    split
    · rename_i here
      rw [here]
    · rfl
  have cells : ∀ m, m ≠ n → ((s.dropEntry ⟨.primary, n⟩).setCell n (.concealed r) (s.re.die n)).re.cell m = s.re.cell m :=
    fun m apart => by rw [State.setCell_cell, if_neg (Ne.symm apart), State.dropEntry_cell]
  have own : ((s.dropEntry ⟨.primary, n⟩).setCell n (.concealed r) (s.re.die n)).re.cell n = .concealed r := by
    rw [State.setCell_cell, if_pos rfl]
  refine ⟨fun h => ?_, fun h T law => ?_, touches⟩
  · have agree := State.dropEntry_consistent ⟨.primary, n⟩ (start.agree h)
    refine agree.of_same_claim n cells (fun m _ => dies m) (fun l => State.setCell_line_state _ _ _ _ _) (by simp)
      (fun l held on => absurd on (agree.off_held (off h) held)) (fun _ => by rw [own]; rfl) ?_
      (fun e listed => .inl ?_) fun p listed => .inl ?_
    · rw [own, State.dropEntry_cell, CellState.claim_none n (bare h)]
      rfl
    · rw [State.setCell_re_suspects] at listed
      have stands : s.re.entryAgrees e.unit := agree.2.2.1 e listed
      refine ⟨fun here => of_decide_eq_true (List.mem_filter.1 listed).2 ?_, stands⟩
      exact UnitId.ext (stands.of_bare (here ▸ bare h)) here
    · rw [State.setCell_re_provings] at listed
      have stands : s.re.provingAgrees p := agree.2.1 p listed
      exact ⟨stands.apart (bare h), stands⟩
  · exact law.of_unit ⟨.primary, n⟩ _ touches.live.1 (State.setCell_re_suspects _ _ _ _)
      (RepairEngine.doubts_of_cell n cells dies)
      (by simp [RepairEngine.isCondemned, RepairEngine.isSuspected, own]) (fun e => decide_eq_true)
      fun e _ => of_decide_eq_true

end

end Sys2Proof.Machine

end

section
/-! PROOFS. O5: dies lost, and the decisions. -/

namespace Sys2Proof.Machine

section

variable {maps numbers : Prop}

/-! ### A die is lost -/

/-- What the loss of a die leaves of the maps and lists: its cell CONCEALED(DIE DEAD), a strike on the channel it named. -/
theorem State.loseDie_maps (s : State) (n k : Nat) :
    (∀ m, ((s.setCell n (.concealed .dieDead) .dead).strike k).re.cell m =
        if n = m then .concealed .dieDead else s.re.cell m) ∧
      (∀ m, ((s.setCell n (.concealed .dieDead) .dead).strike k).re.die m = if n = m then .dead else s.re.die m) ∧
      ((((s.setCell n (.concealed .dieDead) .dead).strike k).re.channel k).state.cell = none) ∧
      (∀ j, k ≠ j → ((s.setCell n (.concealed .dieDead) .dead).strike k).re.channel j = s.re.channel j) ∧
      (∀ l, (((s.setCell n (.concealed .dieDead) .dead).strike k).re.line l).state = (s.re.line l).state) ∧
      ((s.setCell n (.concealed .dieDead) .dead).strike k).re.suspects = s.re.suspects ∧
      ((s.setCell n (.concealed .dieDead) .dead).strike k).re.provings =
        s.re.provings.filter fun p => decide (p.channel ≠ k) := by
  obtain ⟨cells, dies, lines, suspects, provings⟩ := (s.setCell n (.concealed .dieDead) .dead).strike_maps k
  obtain ⟨struck, others⟩ := (s.setCell n (.concealed .dieDead) .dead).strike_channel k k
  refine ⟨fun m => by rw [cells, State.setCell_cell], fun m => by rw [dies, State.setCell_die], ?_, fun j apart => ?_,
    fun l => by rw [lines, State.setCell_line_state], by rw [suspects, State.setCell_re_suspects],
    by rw [provings, State.setCell_re_provings]⟩
  · rcases struck rfl with state | state <;> rw [state] <;> rfl
  · rw [((s.setCell n (.concealed .dieDead) .dead).strike_channel k j).2 apart, State.setCell_channel]

theorem State.loseDie_consistent {s : State} {n k : Nat} (agree : s.re.consistent)
    (named : (s.re.cell n).channel = some k) (unlisted : ∀ e ∈ s.re.suspects, e.unit.cell ≠ n) :
    ((s.setCell n (.concealed .dieDead) .dead).strike k).re.consistent := by
  obtain ⟨cells, dies, struck, channels, lines, suspects, provings⟩ := s.loseDie_maps n k
  refine agree.of_change n (fun m apart => by rw [cells, if_neg (Ne.symm apart)])
    (fun m apart => by rw [dies, if_neg (Ne.symm apart)]) lines
    (fun l held on => absurd on (agree.off_held (CellState.off_line_of_named named) held))
    (fun _ => by rw [cells, if_pos rfl]; rfl) (fun j x claim => ?_) (fun j used => ?_) (fun j => ?_)
    (fun e listed => ?_) fun p listed => .inl ?_
  · rw [cells, if_pos rfl] at claim
    cases claim
  · by_cases here : k = j
    · subst here
      rw [struck] at used
      cases used
    · rw [channels j here] at used
      exact absurd (Option.some.inj (named.symm.trans (agree.named used))) here
  · by_cases here : k = j
    · subst here
      exact .inr ⟨.inl (agree.names named), .inr struck⟩
    · exact .inl (by rw [channels j here])
  · rw [suspects] at listed
    exact .inl ⟨unlisted e listed, agree.2.2.1 e listed⟩
  · rw [provings] at listed
    obtain ⟨on, apart⟩ := List.mem_filter.1 listed
    have stands : s.re.provingAgrees p := agree.2.1 p on
    refine ⟨fun here => of_decide_eq_true apart ?_, stands⟩
    have own := stands.named
    rw [here, named] at own
    exact (Option.some.inj own).symm

/-- The law after the loss of a die, of a state `s` from whose list the entries of its cell have gone. -/
theorem State.loseDie_law {s before : State} {n k : Nat} {T : UnitId → Prop} (keep : Entry → Bool)
    (live : s.live = before.live) (cells : ∀ m, s.re.cell m = before.re.cell m) (dies : ∀ m, s.re.die m = before.re.die m)
    (suspects : s.re.suspects = before.re.suspects.filter keep) (kept : ∀ e, e.unit.cell ≠ n → keep e = true)
    (unlisted : ∀ e ∈ s.re.suspects, e.unit.cell ≠ n) (law : before.lawfulBut T) :
    ((s.setCell n (.concealed .dieDead) .dead).strike k).lawfulBut T := by
  obtain ⟨cells', dies', _, _, _, suspects', _⟩ := s.loseDie_maps n k
  have live' : ((s.setCell n (.concealed .dieDead) .dead).strike k).live = s.live := by
    unfold State.strike
    dsimp only
    split <;> simp
  refine law.of_filter n keep (live'.trans live) (suspects'.trans suspects)
    (fun m apart => by rw [cells', if_neg (Ne.symm apart), cells])
    (fun m apart => by rw [dies', if_neg (Ne.symm apart), dies]) kept
    (fun e on keeps here => absurd here (unlisted e (suspects ▸ List.mem_filter.2 ⟨on, keeps⟩))) fun u here inDoubt => ?_
  obtain ⟨side, m⟩ := u
  change m = n at here
  subst here
  cases side <;> simp [RepairEngine.isSuspected, RepairEngine.isCondemned, cells', dies'] at inDoubt

theorem State.loseDie_touches (s : State) {n k : Nat} (cell : numbers → n < 9216) (channel : numbers → k < 768) :
    Touches numbers s ((s.setCell n (.concealed .dieDead) .dead).strike k) :=
  (s.setCell_touches _ cell rfl).trans (State.strike_touches _ channel)

/-- A proving fails: the die is DEAD (R99). -/
theorem State.failProving_leads (s : State) {n k : Nat} (proving : (s.re.channel k).state = .proving n) :
    Leads maps numbers s (s.failProving n k) := by
  intro start
  have state : maps → s.re.cell n = .pendingSpare .proving k := fun h => ((start.agree h).1 n k).1.2 proving
  have named : maps → (s.re.cell n).channel = some k := fun h => by rw [state h]; rfl
  have unlisted : maps → ∀ e ∈ s.re.suspects, e.unit.cell ≠ n := fun h e on =>
    RepairEngine.entryAgrees.off_pending ((start.agree h).2.2.1 e on) (state h)
  have lost := s.loseDie_touches (n := n) (k := k)
    (fun h => (start.range h).cell_lt (by rw [state (start.order h)]; exact nofun))
    (fun h => (start.range h).channel_lt (named (start.order h)))
  refine ⟨fun h => State.loseDie_consistent (start.agree h) (named h) (unlisted h), fun h T law => ?_,
    lost.trans (State.notify_touches _ _)⟩
  exact State.lawfulBut.congr rfl rfl (fun _ => rfl) (fun _ => rfl) (State.loseDie_law (k := k) (fun _ => true) rfl
    (fun _ => rfl) (fun _ => rfl) (List.filter_true _).symm (fun _ _ => rfl) (unlisted h) law)

/-- The decision for a condemned die, whose entry leaves the list (R94). -/
theorem State.decideDie_leads (s : State) {n : Nat} (listed : maps → s.re.entryAgrees ⟨.spare, n⟩) :
    Leads maps numbers s ((s.dropEntry ⟨.spare, n⟩).decideDie n) := by
  intro start
  have cell : numbers → n < 9216 := fun h => (start.range h).listed_lt (listed (start.order h))
  have spared : maps → (s.re.cell n).isSpared = true := fun h => (listed h).2
  unfold State.decideDie
  rw [State.dropEntry_cell]
  cases named : (s.re.cell n).channel with
  | none =>
    -- Without agreement of the maps a die may be decided whose cell names no channel.
    have never : ¬maps := fun h => by
      have own := spared h
      cases state : s.re.cell n <;> simp [state, CellState.isSpared, CellState.channel] at own named
    have same : ∀ t : State, t.strikeNamed (s.re.cell n) = t := fun t => by
      unfold State.strikeNamed
      rw [named]
    rw [same]
    exact ⟨fun h => absurd h never, fun h => absurd h never, ((s.dropEntry_touches _).trans
      (State.setCell_touches _ _ cell rfl)).trans (State.notify_touches _ _)⟩
  | some k =>
    rw [State.strikeNamed_some _ named]
    have unlisted : maps → ∀ e ∈ (s.dropEntry ⟨.spare, n⟩).re.suspects, e.unit.cell ≠ n := fun h e on here => by
      obtain ⟨on, apart⟩ := List.mem_filter.1 on
      have stands : s.re.entryAgrees e.unit := (start.agree h).2.2.1 e on
      exact of_decide_eq_true apart (UnitId.ext (stands.of_named (here ▸ named)).1 here)
    refine ⟨fun h => State.loseDie_consistent (State.dropEntry_consistent _ (start.agree h)) named (unlisted h),
      fun h T law => ?_, ((s.dropEntry_touches _).trans
        (State.loseDie_touches _ cell fun h => (start.range h).channel_lt named)).trans (State.notify_touches _ _)⟩
    exact State.lawfulBut.congr rfl rfl (fun _ => rfl) (fun _ => rfl) (State.loseDie_law (before := s) (k := k)
      (fun e => decide (e.unit ≠ ⟨.spare, n⟩)) rfl (fun _ => rfl) (fun _ => rfl) rfl
      (fun e apart => decide_eq_true fun same => apart (congrArg UnitId.cell same)) (unlisted h) law)

/-! ### The decisions -/

/-- The channel that is chosen in a group is FREE and of that group (R91). -/
theorem RepairEngine.choose_some {r : RepairEngine} {group k : Nat} (chosen : r.choose group = some k) :
    (r.channel k).state = .free ∧ groupOfChannel k = group := by
  have member : ∀ {f : Nat → Bool}, (groupChannels group).find? f = some k → f k = true ∧ groupOfChannel k = group :=
    fun found => by
      obtain ⟨i, small, rfl⟩ := List.mem_map.1 (List.mem_of_find?_eq_some found)
      have := List.mem_range.1 small
      have own : groupOfChannel (group * 4 + i) = group := by
        unfold groupOfChannel
        omega
      exact ⟨List.find?_some found, own⟩
  unfold RepairEngine.choose at chosen
  rcases Option.or_eq_some_iff.1 chosen with first | ⟨_, second⟩
  · obtain ⟨good, own⟩ := member first
    rw [Bool.and_eq_true] at good
    exact ⟨of_decide_eq_true good.1, own⟩
  · obtain ⟨free, own⟩ := member second
    exact ⟨of_decide_eq_true free, own⟩

theorem State.spendBudget_leads (s : State) : Leads maps numbers s s.spendBudget := by
  intro start
  have spent : Touches numbers s (s.withRe { s.re with budget := s.re.budget - 1 }) :=
    .single (.lists s s.re.suspects s.re.provings _)
  unfold State.spendBudget
  dsimp only
  split
  · exact ⟨start.agree, fun _ _ => State.lawfulBut.congr rfl rfl (fun _ => rfl) fun _ => rfl,
      spent.trans (State.notify_touches _ _)⟩
  · exact ⟨start.agree, fun _ _ => State.lawfulBut.congr rfl rfl (fun _ => rfl) fun _ => rfl, spent⟩

/-- The decision for a condemned primary, whose entry leaves the list (R89, R90, R92). -/
theorem State.decidePrimary_leads (s : State) {n : Nat} (kind : FaultKind)
    (listed : maps → s.re.entryAgrees ⟨.primary, n⟩) :
    Leads maps numbers s ((s.dropEntry ⟨.primary, n⟩).decidePrimary n kind) := by
  intro start
  have bare : maps → (s.re.cell n).channel = none := fun h => by
    rcases listed h with state | state <;> rw [show s.re.cell n = _ from state] <;> rfl
  have off : maps → s.re.cell n ≠ .concealed .line := fun h => (listed h).serves.off
  have cell : numbers → n < 9216 := fun h => (start.range h).listed_lt (listed (start.order h))
  have shelved : ∀ (r : Reason) (d : Detail), Leads maps numbers s
      (((s.dropEntry ⟨.primary, n⟩).setCell n (.concealed r) (s.re.die n)).notify d) := fun r d =>
    (s.shelve_leads bare off cell).trans (.of_quiet (State.notify_quiet _ d))
  unfold State.decidePrimary
  split
  · exact shelved _ _ start
  · split
    · rename_i dead
      rw [← dead]
      exact shelved _ _ start
    · rename_i alive
      split
      · exact shelved _ _ start
      · split
        · exact shelved _ _ start
        · rename_i k chosen
          obtain ⟨free, group⟩ := RepairEngine.choose_some chosen
          exact ((s.prove_leads (fun _ => free) bare off (fun _ => alive) cell fun _ => group).trans
            (State.spendBudget_leads _)) start

theorem State.decideEntry_leads (s : State) {e : Entry} (on : e ∈ s.re.suspects) :
    Leads maps numbers s (s.decideEntry e) := by
  intro start
  have listed : maps → s.re.entryAgrees e.unit := fun h => (start.agree h).2.2.1 e on
  obtain ⟨⟨side, n⟩, kind, _⟩ := e
  cases side with
  | primary => exact s.decidePrimary_leads kind listed start
  | spare => exact s.decideDie_leads listed start

theorem State.takeCondemned_leads (fuel : Nat) (s : State) : Leads maps numbers s (s.takeCondemned fuel) := by
  induction fuel generalizing s with
  | zero => exact .refl s
  | succ fuel ih =>
    unfold State.takeCondemned
    split
    · exact .refl s
    · rename_i e found
      split
      · exact .refl s
      · exact (s.decideEntry_leads (List.mem_of_find?_eq_some found)).trans (ih _)

theorem State.reconsider_leads (s : State) : Leads maps numbers s s.reconsider := s.takeCondemned_leads _

end

end Sys2Proof.Machine

end

section
/-! PROOFS. O5: recording and binding. -/

namespace Sys2Proof.Machine

section

variable {maps numbers : Prop}

/-! ### Recording and binding -/

/-- Proving records change without their cell, channel and phase (R97, R104). -/
theorem State.mapProvings_leads (s : State) {f : Proving → Proving}
    (same : ∀ p, (f p).cell = p.cell ∧ (f p).channel = p.channel ∧ (f p).phase = p.phase) :
    Leads maps numbers s (s.setProvings (s.re.provings.map f)) := by
  intro start
  refine ⟨fun h => ?_, fun _ _ => State.lawfulBut.congr rfl rfl (fun _ => rfl) fun _ => rfl, s.setProvings_touches _⟩
  obtain ⟨channels, provings, suspects, lines, dead⟩ := start.agree h
  refine ⟨channels, fun p on => ?_, suspects, lines, dead⟩
  obtain ⟨p, was, rfl⟩ := List.mem_map.1 on
  obtain ⟨cell, channel, phase⟩ := same p
  rw [cell, channel, phase]
  exact provings p was

/-- The state in which a proving's channel records (R98), before the writer is asked whether it can. -/
def State.startRecording (s : State) (n k : Nat) : State :=
  ((s.setChannel k ⟨.recording n, 0⟩).changeProving k fun p => { p with phase := .recording }).setCell n
    (.pendingSpare .recording k) .good

theorem State.startRecording_maps (s : State) (n k : Nat) :
    (∀ m, (s.startRecording n k).re.cell m = if n = m then .pendingSpare .recording k else s.re.cell m) ∧
      (∀ m, (s.startRecording n k).re.die m = if n = m then .good else s.re.die m) ∧
      (∀ j, ((s.startRecording n k).re.channel j).state = if k = j then .recording n else (s.re.channel j).state) ∧
      (∀ l, ((s.startRecording n k).re.line l).state = (s.re.line l).state) ∧
      (s.startRecording n k).re.suspects = s.re.suspects ∧
      (s.startRecording n k).re.provings =
        s.re.provings.map fun p => if p.channel = k then { p with phase := .recording } else p := by
  unfold State.startRecording State.changeProving
  refine ⟨fun m => by simp [State.setCell_cell], fun m => by simp [State.setCell_die], fun j => ?_,
    fun l => by simp [State.setCell_line_state], by simp, by simp⟩
  rw [State.setCell_channel, State.setProvings_channel, State.setChannel_channel]
  split <;> rfl

theorem State.startRecording_consistent {s : State} {n k : Nat} (agree : s.re.consistent)
    (proving : (s.re.channel k).state = .proving n) : (s.startRecording n k).re.consistent := by
  obtain ⟨cells, dies, channels, lines, suspects, provings⟩ := s.startRecording_maps n k
  have state : s.re.cell n = .pendingSpare .proving k := (agree.1 n k).1.2 proving
  have named : (s.re.cell n).channel = some k := by rw [state]; rfl
  refine agree.of_change n (fun m apart => by rw [cells, if_neg (Ne.symm apart)])
    (fun m apart => by rw [dies, if_neg (Ne.symm apart)]) lines
    (fun l held on => absurd on (agree.off_held (CellState.off_line_of_named named) held))
    (fun died => by rw [dies, if_pos rfl] at died; cases died) (fun j x claim => ?_) (fun j used => ?_) (fun j => ?_)
    (fun e listed => ?_) fun p listed => ?_
  · rw [cells, if_pos rfl] at claim
    cases claim
    rw [channels, if_pos rfl]
  · rw [channels] at used ⊢
    rw [cells, if_pos rfl]
    split
    · rename_i here
      subst here
      rfl
    · rename_i apart
      rw [if_neg apart] at used
      exact absurd (Option.some.inj (named.symm.trans (agree.named used))) apart
  · rw [channels]
    split
    · rename_i here
      subst here
      exact .inr ⟨.inl (by rw [proving]; rfl), .inl rfl⟩
    · exact .inl rfl
  · rw [suspects] at listed
    have stands : s.re.entryAgrees e.unit := agree.2.2.1 e listed
    exact .inl ⟨stands.off_pending state, stands⟩
  · rw [provings] at listed
    obtain ⟨p, was, rfl⟩ := List.mem_map.1 listed
    have stands : s.re.provingAgrees p := agree.2.1 p was
    split
    · rename_i here
      have own : p.cell = n := agree.alone named (here ▸ stands.named)
      right
      change (s.startRecording n k).re.cell p.cell = .pendingSpare .recording p.channel
      rw [cells, if_pos own.symm, here]
    · rename_i apart
      refine .inl ⟨fun here => apart ?_, stands⟩
      have other := stands.named
      rw [here, named] at other
      exact (Option.some.inj other).symm

theorem State.startRecording_leads (s : State) {n k : Nat} (proving : (s.re.channel k).state = .proving n) :
    Leads maps numbers s (s.startRecording n k) := by
  intro start
  have state : maps → s.re.cell n = .pendingSpare .proving k := fun h => ((start.agree h).1 n k).1.2 proving
  have named : maps → (s.re.cell n).channel = some k := fun h => by rw [state h]; rfl
  have touches : Touches numbers s (s.startRecording n k) := by
    refine ((Relation.ReflTransGen.single (.channel s k _ fun h => ?_)).trans (State.setProvings_touches _ _)).tail
      (.cell _ n _ _ (fun h => ?_) fun h j own => ?_)
    · exact (start.range h).cell_lt (by rw [state (start.order h)]; exact nofun)
    · cases own
      exact (start.range h).2.2.2.2.1 n k (named (start.order h))
    · exact (start.range h).channel_lt (named (start.order h))
  refine ⟨fun h => State.startRecording_consistent (start.agree h) proving, fun h T law => ?_, touches⟩
  obtain ⟨cells, dies, _, _, suspects, _⟩ := s.startRecording_maps n k
  have unlisted : ∀ e ∈ s.re.suspects, e.unit.cell ≠ n := fun e on =>
    RepairEngine.entryAgrees.off_pending ((start.agree h).2.2.1 e on) (state h)
  refine law.of_filter n (fun _ => true) touches.live.1 (by rw [suspects, List.filter_true])
    (fun m apart => by rw [cells, if_neg (Ne.symm apart)]) (fun m apart => by rw [dies, if_neg (Ne.symm apart)])
    (fun _ _ => rfl) (fun e on _ here => absurd here (unlisted e on)) fun u here inDoubt => ?_
  obtain ⟨side, m⟩ := u
  change m = n at here
  subst here
  cases side <;> simp [RepairEngine.isSuspected, RepairEngine.isCondemned, cells, dies] at inDoubt

/-- A cell whose recording channel may be bound, or is bound already (R101, R102). -/
def RepairEngine.bindable (r : RepairEngine) (n k : Nat) : Prop :=
  r.cell n = .pendingSpare .recording k ∨ r.cell n = .spared k

theorem RepairEngine.bindable.named {r : RepairEngine} {n k : Nat} (bindable : r.bindable n k) :
    (r.cell n).channel = some k := by
  rcases bindable with state | state <;> rw [state] <;> rfl

theorem State.bind_maps (s : State) (n k : Nat) :
    (∀ m, (s.bind n k).re.cell m = if n = m then .spared k else s.re.cell m) ∧
      (∀ m, (s.bind n k).re.die m = s.re.die m) ∧
      (∀ j, ((s.bind n k).re.channel j).state = if k = j then .bound n else (s.re.channel j).state) ∧
      (∀ l, ((s.bind n k).re.line l).state = (s.re.line l).state) ∧
      (s.bind n k).re.suspects = s.re.suspects ∧
      (s.bind n k).re.provings = s.re.provings.filter fun p => decide (p.channel ≠ k) := by
  unfold State.bind
  refine ⟨fun m => by simp [State.setCell_cell], fun m => ?_, fun j => ?_,
    fun l => by simp [State.setCell_line_state], by simp, by simp⟩
  · rw [State.notify_re, State.setCell_die, State.setChannel_die, State.dropProving_die]
    split
    · rename_i here
      rw [here]
    · rfl
  · rw [State.notify_re, State.setCell_channel, State.setChannel_channel, State.dropProving_channel]
    split <;> rfl

theorem State.bind_consistent {s : State} {n k : Nat} (agree : s.re.consistent) (bindable : s.re.bindable n k) :
    (s.bind n k).re.consistent := by
  obtain ⟨cells, dies, channels, lines, suspects, provings⟩ := s.bind_maps n k
  have named := bindable.named
  refine agree.of_change n (fun m apart => by rw [cells, if_neg (Ne.symm apart)]) (fun m _ => dies m) lines
    (fun l held on => absurd on (agree.off_held (CellState.off_line_of_named named) held)) (fun died => ?_)
    (fun j x claim => ?_) (fun j used => ?_) (fun j => ?_) (fun e listed => ?_) fun p listed => .inl ?_
  · rw [dies] at died
    exact absurd (named.symm.trans (agree.2.2.2.2 n died)) nofun
  · rw [cells, if_pos rfl] at claim
    cases claim
    rw [channels, if_pos rfl]
  · rw [channels] at used ⊢
    rw [cells, if_pos rfl]
    split
    · rename_i here
      subst here
      rfl
    · rename_i apart
      rw [if_neg apart] at used
      exact absurd (Option.some.inj (named.symm.trans (agree.named used))) apart
  · rw [channels]
    split
    · rename_i here
      subst here
      exact .inr ⟨.inl (agree.names named), .inl rfl⟩
    · exact .inl rfl
  · rw [suspects] at listed
    have stands : s.re.entryAgrees e.unit := agree.2.2.1 e listed
    by_cases here : e.unit.cell = n
    · obtain ⟨spare, spared⟩ := stands.of_named (here ▸ named)
      right
      unfold RepairEngine.entryAgrees at stands ⊢
      rw [spare] at stands ⊢
      dsimp only at stands ⊢
      rw [dies, cells, if_pos here.symm]
      exact ⟨stands.1, rfl⟩
    · exact .inl ⟨here, stands⟩
  · rw [provings] at listed
    obtain ⟨on, apart⟩ := List.mem_filter.1 listed
    have stands : s.re.provingAgrees p := agree.2.1 p on
    refine ⟨fun here => of_decide_eq_true apart ?_, stands⟩
    have own := stands.named
    rw [here, named] at own
    exact (Option.some.inj own).symm

theorem State.bind_leads (s : State) {n k : Nat} (bindable : maps → s.re.bindable n k) :
    Leads maps numbers s (s.bind n k) := by
  intro start
  have cell : numbers → n < 9216 := fun h => (start.range h).cell_lt fun healthy => by
    have named := (bindable (start.order h)).named
    rw [healthy] at named
    cases named
  have touches : Touches numbers s (s.bind n k) := by
    refine ((((s.dropProving_touches k).tail (.channel _ k _ fun h => ?_)).tail (.cell _ n _ _ cell
      fun h j own => ?_))).trans (State.notify_touches _ _)
    · exact (start.range h).channel_lt (bindable (start.order h)).named
    · cases own
      exact (start.range h).2.2.2.2.1 n k (bindable (start.order h)).named
  refine ⟨fun h => State.bind_consistent (start.agree h) (bindable h), fun h T law => ?_, touches⟩
  obtain ⟨cells, dies, _, _, suspects, _⟩ := s.bind_maps n k
  refine law.of_unit ⟨.primary, n⟩ (fun _ => true) touches.live.1 (by rw [suspects, List.filter_true])
    (RepairEngine.doubts_of_cell n (fun m apart => by rw [cells, if_neg (Ne.symm apart)]) dies)
    (by simp [RepairEngine.isCondemned, RepairEngine.isSuspected, cells]) (fun _ _ => rfl) fun e on _ same => ?_
  have stands : s.re.entryAgrees e.unit := (start.agree h).2.2.1 e on
  have spare := (stands.of_named (k := k) (by rw [same]; exact (bindable h).named)).1
  rw [same] at spare
  cases spare

theorem State.setUnrecorded_quiet (s : State) (b : Bool) : Quiet s (s.withRj { s.rj with unrecorded := b }) :=
  ⟨rfl, rfl, rfl, rfl, rfl, rfl, rfl, id⟩

theorem State.bindUnrecorded_leads (s : State) {n k : Nat} (bindable : maps → s.re.bindable n k) :
    Leads maps numbers s (s.bindUnrecorded n k) :=
  (s.bind_leads bindable).trans (.of_quiet (State.setUnrecorded_quiet _ _))

/-- Bindings one after another: what is bound stays bound, and what waits still waits. -/
theorem State.bindAll_leads (records : List Proving) (s : State)
    (bindable : maps → ∀ p ∈ records, s.re.bindable p.cell p.channel) :
    Leads maps numbers s (records.foldl (fun t p => t.bindUnrecorded p.cell p.channel) s) := by
  induction records generalizing s with
  | nil => exact .refl s
  | cons q rest ih =>
    refine (s.bindUnrecorded_leads fun h => bindable h q List.mem_cons_self).trans (ih _ fun h p on => ?_)
    have before := bindable h p (List.mem_cons_of_mem _ on)
    have bound := (bindable h q List.mem_cons_self).named
    have cells : ∀ m, (s.bindUnrecorded q.cell q.channel).re.cell m =
        if q.cell = m then .spared q.channel else s.re.cell m := (s.bind_maps q.cell q.channel).1
    unfold RepairEngine.bindable at before ⊢
    rw [cells]
    split
    · rename_i here
      have own := RepairEngine.bindable.named before
      rw [← here, bound] at own
      rw [Option.some.inj own]
      exact .inr rfl
    · exact before

theorem State.bindRecordings_leads (s : State) : Leads maps numbers s s.bindRecordings := fun start =>
  State.bindAll_leads _ s (fun h p on => by
    obtain ⟨on, recording⟩ := List.mem_filter.1 on
    have stands := (start.agree h).2.1 p on
    rw [of_decide_eq_true recording] at stands
    exact .inl stands) start

theorem State.passProving_eq (s : State) (n k : Nat) :
    s.passProving n k = if (s.startRecording n k).rj.blocked then (s.startRecording n k).bindUnrecorded n k
      else s.startRecording n k := rfl

theorem State.passProving_leads (s : State) {n k : Nat} (proving : (s.re.channel k).state = .proving n) :
    Leads maps numbers s (s.passProving n k) := by
  have recorded := s.startRecording_leads (maps := maps) (numbers := numbers) proving
  rw [State.passProving_eq]
  split
  · refine recorded.trans (State.bindUnrecorded_leads _ fun _ => .inl ?_)
    rw [(s.startRecording_maps n k).1, if_pos rfl]
  · exact recorded

theorem State.report_leads (s : State) (w : RecordWrite) : Leads maps numbers s (s.report w) := by
  unfold State.report
  split
  · rename_i k k' state _
    split
    · exact s.bind_leads fun _ => .inl state
    · exact .refl s
  · exact .refl s

end

end Sys2Proof.Machine

end

section
/-! PROOFS. O5: verdicts, frame starts and the requests of the Repair Engine. -/

namespace Sys2Proof.Machine

section

variable {maps numbers : Prop}

/-! ## Verdicts (R76 to R80, R97) -/

/-- A unit that qualifies still does so after another unit has been given back. -/
theorem State.returnUnit_qualifies {s : State} {u v : UnitId} (listed : s.re.entryAgrees v)
    (qualifies : s.re.qualifies u = true) : ((s.dropEntry v).returnUnit v).re.qualifies u = true := by
  have apart : v.cell ≠ u.cell := fun same => by
    rw [← listed.serves.alone (RepairEngine.serves_of_qualifies qualifies) same.symm] at listed
    exact RepairEngine.unlisted_of_qualifies qualifies listed
  unfold State.returnUnit
  unfold RepairEngine.qualifies at qualifies ⊢
  rw [State.setUnit_cell, State.setUnit_die, if_neg fun h => apart h.2, if_neg fun h => apart h.2]
  exact qualifies

theorem State.askAdmission_leads (s : State) {u : UnitId} (kind : FaultKind) (qualifies : s.re.qualifies u = true)
    (cell : numbers → u.cell < 9216) : Leads maps numbers s (s.askAdmission u kind) := by
  intro start
  unfold State.askAdmission
  split
  · exact s.enlist_leads kind (fun _ => qualifies) cell start
  · split
    · exact Leads.of_quiet (s.notify_quiet _) start
    · exact Leads.of_quiet (s.notify_quiet _) start
    · rename_i e _ found
      have on : e ∈ s.re.suspects := List.mem_reverse.1 (List.mem_of_find?_eq_some found)
      have listed : maps → s.re.entryAgrees e.unit := fun h => (start.agree h).2.2.1 e on
      exact (((s.giveBack_leads listed).trans (State.enlist_leads _ _
        (fun h => State.returnUnit_qualifies (listed h) qualifies) cell)).trans
          (.of_quiet (State.notify_quiet _ _))) start

/-- Under the law of the list there is one entry for a unit. -/
theorem State.lawfulBut.unique {s : State} {T : UnitId → Prop} (law : s.lawfulBut T) {e x : Entry}
    (on : e ∈ s.re.suspects) (listed : x ∈ s.re.suspects) (same : x.unit = e.unit) : x = e :=
  List.inj_on_of_nodup_map law.2.1 listed on same

/-- A unit's entry changes in its place, not reaching the threshold and not falling from it. -/
theorem State.changeEntry_leads (s : State) {e : Entry} (on : e ∈ s.re.suspects) {f : Entry → Entry}
    (units : ∀ x, (f x).unit = x.unit)
    (evidence : 1 ≤ e.evidence → e.evidence ≤ s.setting 13 → (1 ≤ (f e).evidence ∧ (f e).evidence ≤ s.setting 13) ∧
      ((f e).evidence = s.setting 13 ↔ e.evidence = s.setting 13)) :
    Leads maps numbers s (s.changeEntry e.unit f) := by
  refine s.mapEntries_leads (fun x => ?_) fun _ T law x listed => ?_
  · split
    · exact units x
    · rfl
  · obtain ⟨bounds, _⟩ := law.2.2.1 x listed
    split
    · rename_i same
      rw [law.unique on listed same] at bounds ⊢
      exact evidence bounds.1 bounds.2
    · exact ⟨bounds, Iff.rfl⟩

/-- The evidence of an uncondemned entry moves by one (R80). -/
theorem State.retest_leads (s : State) {e : Entry} (on : e ∈ s.re.suspects) (unmarked : s.condemnedMark e = false)
    (cls : VerdictClass) : Leads maps numbers s (s.retest e cls) := by
  have below : e.evidence ≠ s.setting 13 := of_decide_eq_false unmarked
  intro start
  unfold State.retest
  dsimp only
  cases cls with
  | good =>
    dsimp only
    split
    · exact s.giveBack_leads (fun h => (start.agree h).2.2.1 e on) start
    · refine s.changeEntry_leads on (fun _ => rfl) (fun low high => ?_) start
      dsimp only
      omega
  | bad kind =>
    dsimp only
    split
    · rename_i reached
      refine s.condemn_leads _ (fun _ => rfl) ⟨e, on, rfl⟩ (fun h T law x listed same => ?_) start
      rw [law.unique on listed same]
      exact reached
    · rename_i short
      refine s.changeEntry_leads on (fun _ => rfl) (fun low high => ?_) start
      change e.evidence + 1 ≠ s.setting 13 at short
      dsimp only
      omega

theorem State.provingVerdict_leads (s : State) {n k : Nat} (proving : (s.re.channel k).state = .proving n)
    (cls : VerdictClass) : Leads maps numbers s (s.provingVerdict n k cls) := by
  unfold State.provingVerdict
  split
  · split
    · refine s.mapProvings_leads fun q => ?_
      split <;> exact ⟨rfl, rfl, rfl⟩
    · exact s.passProving_leads proving
  · exact .refl s
  · exact s.failProving_leads proving

/-- A verdict is taken by its purpose (R45). -/
theorem State.handVerdict_leads (s : State) (v : Verdict) (cell : numbers → v.unit.cell < 9216) :
    Leads maps numbers s (s.handVerdict v) := by
  have asked : ∀ k, Leads maps numbers s (if s.re.qualifies v.unit then (s.askAdmission v.unit k).reconsider else s) := by
    intro k
    split
    · rename_i qualifies
      exact (s.askAdmission_leads k qualifies cell).trans (State.reconsider_leads _)
    · exact .refl s
  unfold State.handVerdict
  split
  · split
    · exact .refl s
    · exact asked _
  · split
    · exact .refl s
    · exact asked _
  · split
    · rename_i e found
      split
      · exact .refl s
      · rename_i unmarked
        exact (s.retest_leads (List.mem_of_find?_eq_some found) (Bool.eq_false_iff.2 unmarked) _).trans
          (State.reconsider_leads _)
    · exact .refl s
  · split
    · split
      · rename_i proving
        exact (s.provingVerdict_leads proving _).trans (State.reconsider_leads _)
      · exact .refl s
    · exact .refl s

/-! ## The Repair Engine's own work at a frame start (R60, R104) -/

theorem State.lowerDues_leads (s : State) : Leads maps numbers s s.lowerDues := by
  refine s.mapEntries_leads (fun e => ?_) fun _ T law e on => ?_
  · split <;> rfl
  · split <;> exact ⟨(law.2.2.1 e on).1, Iff.rfl⟩

/-- Timeouts one after another: none of their cells is CONCEALED(LINE). -/
theorem State.timeOuts_leads (records : List Proving) (s : State)
    (off : maps → ∀ p ∈ records, s.re.cell p.cell ≠ .concealed .line) (cells : numbers → ∀ p ∈ records, p.cell < 9216) :
    Leads maps numbers s (records.foldl State.timeOut s) := by
  induction records generalizing s with
  | nil => exact .refl s
  | cons q rest ih =>
    have first : Leads maps numbers s (s.timeOut q) :=
      (s.withdraw_leads rfl (by decide) (fun h line => absurd line (off h q List.mem_cons_self))
        fun h => cells h q List.mem_cons_self).trans (.of_quiet (State.notify_quiet _ _))
    refine first.trans (ih _ (fun h p on => ?_) fun h p on => cells h p (List.mem_cons_of_mem _ on))
    have cell : (s.timeOut q).re.cell p.cell = if p.cell ∈ [q.cell] then .concealed .unproven else s.re.cell p.cell :=
      s.withdrawAll_cell [q.cell] (.concealed .unproven) p.cell
    rw [cell]
    split
    · decide
    · exact off h p (List.mem_cons_of_mem _ on)

theorem State.raiseAges_leads (s : State) : Leads maps numbers s s.raiseAges := by
  have raised := s.mapProvings_leads (maps := maps) (numbers := numbers)
    (f := fun p => { p with age := p.age + 1 }) fun _ => ⟨rfl, rfl, rfl⟩
  refine raised.trans fun start => ?_
  have pending : maps → ∀ p ∈ (s.setProvings (s.re.provings.map fun p => { p with age := p.age + 1 })).re.provings,
      s.re.cell p.cell = .pendingSpare p.phase p.channel := fun h => (start.agree h).2.1
  refine State.timeOuts_leads _ _ (fun h p on => ?_) (fun h p on => ?_) start
  · rw [State.setProvings_cell, pending h p (List.mem_of_mem_filter on)]
    exact nofun
  · refine (start.range h).cell_lt ?_
    rw [State.setProvings_cell, pending (start.order h) p (List.mem_of_mem_filter on)]
    exact nofun

theorem State.repairFrame_leads (s : State) : Leads maps numbers s s.repairFrame :=
  (s.lowerDues_leads.trans (State.raiseAges_leads _)).trans (State.reconsider_leads _)

/-! ## The requests (R85, R107 to R113, R122, R123) -/

theorem State.takeSpare_leads (s : State) {n k : Nat} (spares : (s.re.cell n).mayBeSpared = true)
    (alive : s.re.die n ≠ .dead) (free : (s.re.channel k).state = .free) (group : groupOfChannel k = groupOf n)
    (cell : n < 9216) : Leads maps numbers s (s.takeSpare n k) := by
  have bare : (s.re.cell n).channel = none := by
    cases state : s.re.cell n <;> simp [state, CellState.mayBeSpared] at spares <;> rfl
  have off : s.re.cell n ≠ .concealed .line := fun line => by rw [line] at spares; cases spares
  have proves := s.prove_leads (maps := maps) (numbers := numbers) (fun _ => free) (fun _ => bare) (fun _ => off)
    (fun _ => alive) (fun _ => cell) fun _ => group
  unfold State.takeSpare
  dsimp only
  split
  · exact proves.trans (State.reconsider_leads _)
  · exact (proves.trans (State.judgeLimits_leads _ fun _ => cell)).trans (State.reconsider_leads _)

/-- A cell of a line that is released becomes HEALTHY (R123). -/
theorem State.returnCell_leads (s : State) {n : Nat} (was : maps → s.re.cell n = .concealed .line)
    (off : maps → ∀ l, (s.re.line l).state = .held → n ∉ lineCells l) (cell : numbers → n < 9216) :
    Leads maps numbers s (s.setCell n .healthy (s.re.die n)) := by
  intro start
  have touches : Touches numbers s (s.setCell n .healthy (s.re.die n)) := s.setCell_touches _ cell rfl
  have dies : ∀ m, (s.setCell n .healthy (s.re.die n)).re.die m = s.re.die m := fun m => by
    rw [State.setCell_die]
    split
    · rename_i here
      rw [here]
    · rfl
  have cells : ∀ m, m ≠ n → (s.setCell n .healthy (s.re.die n)).re.cell m = s.re.cell m :=
    fun m apart => by rw [State.setCell_cell, if_neg (Ne.symm apart)]
  have own : (s.setCell n .healthy (s.re.die n)).re.cell n = .healthy := by rw [State.setCell_cell, if_pos rfl]
  have unlisted : maps → ∀ e ∈ s.re.suspects, e.unit.cell ≠ n := fun h e on here => by
    have stands : s.re.entryAgrees e.unit := (start.agree h).2.2.1 e on
    exact stands.serves.off (here ▸ was h)
  refine ⟨fun h => ?_, fun h T law => ?_, touches⟩
  · have agree := start.agree h
    refine agree.of_same_claim n cells (fun m _ => dies m) (fun l => State.setCell_line_state _ _ _ _ _) (by simp)
      (fun l held on => absurd on (off h l held)) (fun _ => by rw [own]; rfl) (by rw [own, was h]; rfl)
      (fun e listed => ?_) fun p listed => ?_
    · rw [State.setCell_re_suspects] at listed
      exact .inl ⟨unlisted h e listed, agree.2.2.1 e listed⟩
    · rw [State.setCell_re_provings] at listed
      have stands : s.re.provingAgrees p := agree.2.1 p listed
      exact .inl ⟨stands.apart (by rw [was h]; rfl), stands⟩
  · exact law.of_unit ⟨.primary, n⟩ (fun _ => true) touches.live.1 (by simp)
      (RepairEngine.doubts_of_cell n cells dies)
      (by simp [RepairEngine.isCondemned, RepairEngine.isSuspected, own]) (fun _ _ => rfl)
      fun e on _ same => unlisted h e on (by rw [same])

theorem State.returnCells_leads (cells : List Nat) (s : State) (once : cells.Nodup)
    (was : maps → ∀ n ∈ cells, s.re.cell n = .concealed .line)
    (off : maps → ∀ n ∈ cells, ∀ l, (s.re.line l).state = .held → n ∉ lineCells l) (range : ∀ n ∈ cells, n < 9216) :
    Leads maps numbers s (cells.foldl (fun t n => t.setCell n .healthy (t.re.die n)) s) := by
  induction cells generalizing s with
  | nil => exact .refl s
  | cons m rest ih =>
    obtain ⟨fresh, once⟩ := List.nodup_cons.1 once
    refine (s.returnCell_leads (fun h => was h m List.mem_cons_self) (fun h => off h m List.mem_cons_self)
      fun _ => range m List.mem_cons_self).trans (ih _ once (fun h n on => ?_) (fun h n on l held => ?_)
        fun n on => range n (List.mem_cons_of_mem _ on))
    · have apart : m ≠ n := fun same => fresh (same ▸ on)
      rw [State.setCell_cell, if_neg apart]
      exact was h n (List.mem_cons_of_mem _ on)
    · rw [State.setCell_line_state] at held
      exact off h n (List.mem_cons_of_mem _ on) l held

/-- A cell of the wall lies on its own two lines only, whatever number is asked (R7). -/
theorem line_of_mem_lineCells {l n : Nat} (cell : n < 9216) (on : n ∈ lineCells l) : l = cLineOf n ∨ l = rLineOf n := by
  refine (mem_lineCells l n ?_ cell).1 on
  by_contra past
  have high : ¬l < 192 := by omega
  unfold lineCells cellAt at on
  rw [if_neg high] at on
  obtain ⟨i, _, rfl⟩ := List.mem_map.1 on
  omega

/-- A cell of line `l` lies on `l` and on the line that crosses it there. -/
theorem line_of_crossing {l j n : Nat} (line : l < 240) (on : n ∈ lineCells l) (other : n ∈ lineCells j) :
    j = l ∨ j = otherLineOf l n := by
  have cell := lineCells_lt line on
  have low := cLineOf_lt n
  have high := (rLineOf_lt cell).1
  unfold otherLineOf
  rcases line_of_mem_lineCells cell on with here | here <;> rcases line_of_mem_lineCells cell other with there | there <;>
    split <;> omega

theorem State.recounts_leads (lines : List Nat) (s : State) (known : ∀ l ∈ lines, l < 240) :
    Leads maps numbers s (lines.foldl State.recount s) := by
  induction lines generalizing s with
  | nil => exact .refl s
  | cons l rest ih =>
    refine Leads.trans (fun start => ?_) (ih _ fun j on => known j (List.mem_cons_of_mem _ on))
    have recounted : s.recount l = s.changeLine l
        ⟨(s.re.line l).state, (lineCells l).countP fun n => (s.re.cell n).counted, (s.re.line l).undone⟩ :=
      State.setLine_eq_changeLine s l rfl
    rw [recounted]
    exact s.changeLine_leads (fun _ => known l List.mem_cons_self) (fun _ => .inr rfl)
      (fun h held n on => (start.agree h).2.2.2.1 l held n on) start

theorem crossing_lt {l j : Nat} (crosses : j ∈ crossing l) : j < 240 := by
  unfold crossing at crosses
  split at crosses
  · obtain ⟨i, small, rfl⟩ := List.mem_map.1 crosses
    have := List.mem_range.1 small
    omega
  · have := List.mem_range.1 crosses
    omega

/-- A line is released (R123). -/
theorem State.release_leads (s : State) {l : Nat} (line : l < 240) (held : (s.re.line l).state = .held) :
    Leads maps numbers s (s.release l) := by
  intro start
  have opened := s.changeLine_leads (maps := maps) (numbers := numbers) (l := l) (v := ⟨.normal, (s.re.line l).tally, 0⟩)
    (fun _ => line) (fun _ => .inl rfl) (fun _ => nofun)
  have states : ∀ j, ((s.changeLine l ⟨.normal, (s.re.line l).tally, 0⟩).re.line j).state =
      if l = j then .normal else (s.re.line j).state := fun j => by
    rw [State.changeLine_line]
    split <;> rfl
  have freed : ∀ n ∈ s.releasedCells l, n ∈ lineCells l ∧ (s.re.line (otherLineOf l n)).state = .normal := fun n on =>
    ⟨(List.mem_filter.1 on).1, of_decide_eq_true (List.mem_filter.1 on).2⟩
  have returned := State.returnCells_leads (maps := maps) (numbers := numbers) (s.releasedCells l)
    (s.changeLine l ⟨.normal, (s.re.line l).tally, 0⟩) ((lineCells_nodup l).filter _)
    (fun h n on => by
      rw [State.changeLine_re, State.setLine_cell]
      exact (start.agree h).2.2.2.1 l held n (freed n on).1)
    (fun h n on j isHeld there => by
      rw [states] at isHeld
      split at isHeld
      · cases isHeld
      · rename_i apart
        rcases line_of_crossing line (freed n on).1 there with same | same
        · exact apart same.symm
        · rw [same, (freed n on).2] at isHeld
          cases isHeld)
    fun n on => lineCells_lt line (freed n on).1
  refine (((opened.trans returned).trans (.of_quiet (State.clearClaim_quiet _ _))).trans
    (State.recounts_leads (l :: crossing l) _ fun j on => ?_)) start
  rcases List.mem_cons.1 on with same | crosses
  · rw [same]
    exact line
  · exact crossing_lt crosses

/-- A DEAD die is UNTRIED again (R111). -/
theorem State.reviveDie_leads (s : State) {n : Nat} (dead : s.re.die n = .dead) (cell : n < 9216) :
    Leads maps numbers s (s.setCell n (s.re.cell n) .untried) := by
  intro start
  have touches : Touches numbers s (s.setCell n (s.re.cell n) .untried) :=
    .single (.cell s n _ _ (fun _ => cell) fun h k named => (start.range h).2.2.2.2.1 n k named)
  have cells : ∀ m, (s.setCell n (s.re.cell n) .untried).re.cell m = s.re.cell m := fun m => by
    rw [State.setCell_cell]
    split
    · rename_i here
      rw [here]
    · rfl
  have dies : ∀ m, m ≠ n → (s.setCell n (s.re.cell n) .untried).re.die m = s.re.die m :=
    fun m apart => by rw [State.setCell_die, if_neg (Ne.symm apart)]
  have own : (s.setCell n (s.re.cell n) .untried).re.die n = .untried := by rw [State.setCell_die, if_pos rfl]
  have spareless : maps → ∀ e ∈ s.re.suspects, e.unit ≠ ⟨.spare, n⟩ := fun h e on same => by
    have stands : s.re.entryAgrees e.unit := (start.agree h).2.2.1 e on
    rw [same] at stands
    rcases stands.1 with state | state <;> rw [show s.re.die n = _ from state] at dead <;> cases dead
  refine ⟨fun h => ?_, fun h T law => ?_, touches⟩
  · have agree := start.agree h
    refine agree.of_same_claim n (fun m _ => cells m) dies (fun l => State.setCell_line_state _ _ _ _ _) (by simp)
      (fun l held on => (cells n).trans (agree.2.2.2.1 l held n on)) (fun died => by rw [own] at died; cases died)
      (by rw [cells]) (fun e listed => ?_) fun p listed => .inr ?_
    · rw [State.setCell_re_suspects] at listed
      have stands : s.re.entryAgrees e.unit := agree.2.2.1 e listed
      by_cases here : e.unit.cell = n
      · right
        obtain ⟨⟨side, m⟩, _⟩ := e
        change m = n at here
        subst here
        cases side with
        | primary =>
          unfold RepairEngine.entryAgrees at stands ⊢
          dsimp only at stands ⊢
          rw [cells]
          exact stands
        | spare => exact absurd rfl (spareless h _ listed)
      · exact .inl ⟨here, stands⟩
    · rw [State.setCell_re_provings] at listed
      exact (cells _).trans (agree.2.1 p listed)
  · refine law.of_unit ⟨.spare, n⟩ (fun _ => true) touches.live.1 (by simp) (fun v other => ?_)
      (by simp [RepairEngine.isCondemned, RepairEngine.isSuspected, own]) (fun _ _ => rfl) fun e on _ => spareless h e on
    obtain ⟨side, m⟩ := v
    unfold RepairEngine.isCondemned RepairEngine.isSuspected
    cases side with
    | primary =>
      dsimp only
      rw [cells]
      exact ⟨.rfl, .rfl⟩
    | spare =>
      dsimp only
      rw [dies m fun here => other (by rw [here])]
      exact ⟨.rfl, .rfl⟩

/-- A FAILED channel is FREE again (R112). -/
theorem State.restoreChannel_leads (s : State) {k : Nat} (failed : (s.re.channel k).state = .failed) (channel : k < 768) :
    Leads maps numbers s (s.setChannel k ⟨.free, 0⟩) := by
  intro start
  have touches : Touches numbers s (s.setChannel k ⟨.free, 0⟩) := .single (.channel s k _ fun _ => channel)
  refine ⟨fun h => ?_, fun _ _ => State.lawfulBut.congr touches.live.1 (by simp) (by simp) (by simp), touches⟩
  obtain ⟨channels, provings, suspects, lines, dead⟩ := start.agree h
  refine ⟨fun n j => ?_, fun p on => ?_, fun e on => ?_, fun l held n on => ?_, fun n died => ?_⟩
  · rw [State.setChannel_cell, State.setChannel_channel]
    split
    · rename_i here
      subst here
      have unclaimed := channels n k
      rw [failed] at unclaimed
      simpa using unclaimed
    · exact channels n j
  · rw [State.setChannel_re_provings] at on
    rw [State.setChannel_cell]
    exact provings p on
  · rw [State.setChannel_re_suspects] at on
    simp only [State.setChannel_cell, State.setChannel_die]
    exact suspects e on
  · rw [State.setChannel_line] at held
    rw [State.setChannel_cell]
    exact lines l held n on
  · rw [State.setChannel_die] at died
    rw [State.setChannel_cell]
    exact dead n died

theorem State.setBudget_leads (s : State) (v : Nat) : Leads maps numbers s (s.setBudget v) := fun start =>
  ⟨start.agree, fun _ _ => State.lawfulBut.congr rfl rfl (fun _ => rfl) fun _ => rfl,
    .single (.lists s s.re.suspects s.re.provings v)⟩

end

end Sys2Proof.Machine

end

section
/-! PROOFS. O5: a new CONFIRM THRESHOLD. -/

namespace Sys2Proof.Machine

section

variable {maps numbers : Prop}

/-! ## A new CONFIRM THRESHOLD (R82) -/

/-- A judgement of the limits lists no entry. -/
theorem State.judgeLimits_suspects {s : State} {n : Nat} {e : Entry} (on : e ∈ (s.judgeLimits n).re.suspects) :
    e ∈ s.re.suspects := by
  have held : ∀ (t : State) (l : Nat), e ∈ (t.hold l).re.suspects → e ∈ t.re.suspects := fun t l on => by
    rw [State.hold_suspects] at on
    exact List.mem_of_mem_filter on
  unfold State.judgeLimits at on
  dsimp only at on
  split at on <;> split at on
  · exact held _ _ (held _ _ on)
  · exact held _ _ on
  · exact held _ _ on
  · exact on

theorem State.condemn_suspects {s : State} {u : UnitId} {kind : FaultKind} {e : Entry}
    (on : e ∈ (s.condemn u kind).re.suspects) : e ∈ s.re.suspects := by
  unfold State.condemn at on
  dsimp only at on
  split at on
  · have before := State.judgeLimits_suspects on
    rwa [State.notify_re, State.setUnit_suspects] at before
  · rwa [State.notify_re, State.setUnit_suspects] at on

/-- A unit that has no entry is not waiting to be condemned. -/
theorem State.lawfulBut.of_unlisted {s : State} {T : UnitId → Prop} {u : UnitId}
    (unlisted : ∀ e ∈ s.re.suspects, e.unit ≠ u) (law : s.lawfulBut T) : s.lawfulBut fun v => T v ∧ v ≠ u := by
  obtain ⟨threshold, once, entries, doubted⟩ := law
  refine ⟨threshold, once, fun e on => ?_, doubted⟩
  obtain ⟨bounds, marked, condemned⟩ := entries e on
  exact ⟨bounds, marked, fun equal => (condemned equal).imp id fun waits => ⟨waits, unlisted e on⟩⟩

theorem State.condemn_eq (s : State) (u : UnitId) (kind : FaultKind) :
    s.condemn u kind = (s.confirm u id).announce u kind := by
  have same : s.changeEntry u id = s := by
    unfold State.changeEntry State.setSuspects
    simp only [id_eq, ite_self, List.map_id']
    rfl
  have confirmed := s.changeEntry_condemn u id kind
  rw [same] at confirmed
  exact confirmed

/-- What the condemnations of a SET keep of the state in which they begin: the maps, and of the law all but the units `T`
that they leave. -/
theorem State.condemnAll_keeps (fresh : List Entry) (s : State) (start : Sound maps numbers s) :
    (maps → (fresh.foldl (fun t e => if (t.re.entry e.unit).isSome then t.condemn e.unit e.kind else t) s).re.consistent) ∧
      Touches numbers s (fresh.foldl (fun t e => if (t.re.entry e.unit).isSome then t.condemn e.unit e.kind else t) s) ∧
      (maps → (∀ e ∈ s.re.suspects, e.unit ∈ fresh.map (·.unit) → e.evidence = s.setting 13) →
        s.lawfulBut (· ∈ fresh.map (·.unit)) →
        (fresh.foldl (fun t e => if (t.re.entry e.unit).isSome then t.condemn e.unit e.kind else t) s).lawfulBut
          fun _ => False) := by
  induction fresh generalizing s with
  | nil => exact ⟨start.agree, .refl, fun _ _ law => law.mono fun u waits => by cases waits⟩
  | cons e rest ih =>
    rw [List.foldl_cons]
    split
    · rename_i found
      have on : ∃ x ∈ s.re.suspects, x.unit = e.unit := by
        obtain ⟨x, isOn, same⟩ := List.find?_isSome.1 found
        exact ⟨x, isOn, of_decide_eq_true same⟩
      have listed : maps → s.re.entryAgrees e.unit := fun h => by
        obtain ⟨x, isOn, same⟩ := on
        exact same ▸ (start.agree h).2.2.1 x isOn
      have cell : numbers → e.unit.cell < 9216 := fun h => (start.range h).listed_lt (listed (start.order h))
      have confirmed : Touches numbers s (s.confirm e.unit id) := s.confirm_touches cell start.range
      have next : Sound maps numbers (s.confirm e.unit id) :=
        ⟨start.order, fun h => State.confirm_consistent (fun _ => rfl) (listed h) (start.agree h),
          fun h => confirmed.inRange h (start.range h)⟩
      have judged := (s.confirm e.unit id).announce_leads (maps := maps) e.kind cell
      rw [← State.condemn_eq] at judged
      have touches : Touches numbers s (s.condemn e.unit e.kind) := confirmed.trans (judged next).touches
      obtain ⟨agree, steps, law⟩ := ih _ (judged.sound next)
      refine ⟨agree, touches.trans steps, fun h reached lawful => law h (fun x isOn waits => ?_) ?_⟩
      · rw [State.setting_congr touches.live.1]
        exact reached x (State.condemn_suspects isOn) (List.mem_cons_of_mem _ waits)
      · refine (judged next).law h _ ((State.confirm_law (f := id) (fun _ => rfl) on (fun x isOn same => ?_) lawful).mono
          fun v waits => (List.mem_cons.1 waits.1).resolve_left waits.2)
        exact reached x isOn (same ▸ List.mem_cons_self)
    · rename_i absent
      have unlisted : ∀ x ∈ s.re.suspects, x.unit ≠ e.unit := fun x isOn same =>
        absent (List.find?_isSome.2 ⟨x, isOn, decide_eq_true same⟩)
      obtain ⟨agree, steps, law⟩ := ih s start
      exact ⟨agree, steps, fun h reached lawful => law h
        (fun x isOn waits => reached x isOn (List.mem_cons_of_mem _ waits))
        ((lawful.of_unlisted unlisted).mono fun v waits => (List.mem_cons.1 waits.1).resolve_left waits.2)⟩

/-- The law of the list under the threshold `old`, of a state in which the live value may be another already. -/
def State.lawfulUnder (s : State) (old : Nat) : Prop :=
  (s.re.suspects.map (·.unit)).Nodup ∧
  (∀ e ∈ s.re.suspects, 1 ≤ e.evidence ∧ e.evidence ≤ old ∧ (s.re.isCondemned e.unit ↔ e.evidence = old)) ∧
  ∀ u, s.re.isSuspected u ∨ s.re.isCondemned u → ∃ e ∈ s.re.suspects, e.unit = u

/-- The adjusted list still has one entry for every unit in doubt. -/
theorem State.setSuspects_lawfulBut {s : State} {f : Entry → Entry} {T : UnitId → Prop} {old : Nat}
    (threshold : 2 ≤ s.setting 13) (units : ∀ e, (f e).unit = e.unit) (law : s.lawfulUnder old)
    (entries : ∀ e ∈ s.re.suspects, 1 ≤ e.evidence → e.evidence ≤ old →
      (1 ≤ (f e).evidence ∧ (f e).evidence ≤ s.setting 13) ∧ (e.evidence = old → (f e).evidence = s.setting 13) ∧
        ((f e).evidence = s.setting 13 → e.evidence = old ∨ T e.unit)) :
    (s.setSuspects (s.re.suspects.map f)).lawfulBut T := by
  obtain ⟨once, bounds, doubted⟩ := law
  refine ⟨threshold, ?_, fun e on => ?_, fun u inDoubt => ?_⟩
  · rw [State.setSuspects_suspects, List.map_map]
    rwa [show (fun e : Entry => e.unit) ∘ f = fun e => e.unit from funext units]
  · obtain ⟨e, was, rfl⟩ := List.mem_map.1 on
    obtain ⟨low, high, marked⟩ := bounds e was
    obtain ⟨range, reaches, condemned⟩ := entries e was low high
    rw [units]
    exact ⟨range, fun mark => reaches (marked.1 mark), fun equal => (condemned equal).imp marked.2 id⟩
  · obtain ⟨e, on, unit⟩ := doubted u inDoubt
    exact ⟨f e, List.mem_map_of_mem on, (units e).trans unit⟩

theorem State.setSuspects_sound {s : State} {f : Entry → Entry} (units : ∀ e, (f e).unit = e.unit)
    (start : Sound maps numbers s) : Sound maps numbers (s.setSuspects (s.re.suspects.map f)) := by
  refine ⟨start.order, fun h => ?_, start.range⟩
  obtain ⟨channels, provings, suspects, lines, dead⟩ := start.agree h
  refine ⟨channels, provings, fun e on => ?_, lines, dead⟩
  obtain ⟨e, was, rfl⟩ := List.mem_map.1 on
  rw [units]
  exact suspects e was

/-- A new CONFIRM THRESHOLD, live already, keeps the maps, and takes the law from the threshold before to the new one. -/
theorem State.newThreshold_keeps (s : State) (old : Nat) (start : Sound maps numbers s) :
    (maps → (s.newThreshold old (s.setting 13)).re.consistent) ∧ Touches numbers s (s.newThreshold old (s.setting 13)) ∧
      (maps → 2 ≤ s.setting 13 → s.lawfulUnder old → (s.newThreshold old (s.setting 13)).lawfulBut fun _ => False) := by
  unfold State.newThreshold
  split
  · rename_i lower
    dsimp only
    obtain ⟨agree, steps, law⟩ := State.condemnAll_keeps
      (s.re.suspects.filter fun e => decide (s.setting 13 ≤ e.evidence) && decide (e.evidence ≠ old))
      (s.setSuspects (s.re.suspects.map fun e => { e with evidence := min e.evidence (s.setting 13) }))
      (State.setSuspects_sound (fun _ => rfl) start)
    refine ⟨agree, (s.setSuspects_touches _).trans steps, fun h threshold lawful => law h (fun e on waits => ?_) ?_⟩
    · obtain ⟨e, was, rfl⟩ := List.mem_map.1 on
      obtain ⟨x, fresh, same⟩ := List.mem_map.1 waits
      obtain ⟨listed, high⟩ := List.mem_filter.1 fresh
      rw [Bool.and_eq_true] at high
      rw [List.inj_on_of_nodup_map lawful.1 listed was same] at high
      exact min_eq_right (of_decide_eq_true high.1)
    · refine State.setSuspects_lawfulBut threshold (fun _ => rfl) lawful fun e on low high => ⟨?_, fun equal => ?_,
        fun equal => ?_⟩
      · dsimp only
        omega
      · dsimp only
        omega
      · by_cases marked : e.evidence = old
        · exact .inl marked
        · have reached : s.setting 13 ≤ e.evidence := min_eq_right_iff.1 equal
          exact .inr (List.mem_map.2 ⟨e, List.mem_filter.2 ⟨on, by simp [reached, marked]⟩, rfl⟩)
  · rename_i higher
    have units : ∀ e : Entry, (if e.evidence = old then { e with evidence := s.setting 13 } else e).unit = e.unit :=
      fun e => by split <;> rfl
    refine ⟨(State.setSuspects_sound units start).agree, s.setSuspects_touches _, fun _ threshold lawful =>
      State.setSuspects_lawfulBut threshold units lawful fun e on low high => ?_⟩
    split
    · rename_i marked
      dsimp only
      omega
    · rename_i unmarked
      exact ⟨by omega, fun marked => absurd marked unmarked, fun equal => absurd equal (by omega)⟩

end

end Sys2Proof.Machine

end

section
/-! PROOFS. O5: what every step upholds, and the frame start. -/

namespace Sys2Proof.Machine

/-! ## What every step upholds of the maps, the numbers, the counts, the settings, the list and the routes -/

/-- The step from `s` to `t` keeps each of the invariants about the maps of the Repair Engine. -/
structure Upholds (s t : State) : Prop where
  agree : s.re.consistent → t.re.consistent
  range : s.re.consistent → s.inRange → t.inRange
  tallied : s.re.consistent → s.inRange → s.re.tallied → t.re.tallied
  counted : s.re.consistent → s.inRange → s.liveCounted → t.liveCounted
  settings : s.settingsInRange → t.settingsInRange
  law : s.re.consistent → s.settingsInRange → s.suspectsLawful → t.suspectsLawful
  routes : s.routesLaw → t.routesLaw

/-- CONFIRM THRESHOLD is at least 2 (section 10.9). -/
theorem State.settingsInRange.threshold {s : State} (inside : s.settingsInRange) : 2 ≤ s.setting 13 := by
  have bounds := (inside.1 13 (by decide)).1
  unfold Config.settingInRange at bounds
  rw [Bool.and_eq_true] at bounds
  exact of_decide_eq_true bounds.1

theorem State.settingsInRange_congr {s t : State} (live : t.live = s.live) (stored : t.stored = s.stored)
    (inside : s.settingsInRange) : t.settingsInRange := by
  unfold State.settingsInRange State.setting State.storedSetting at inside ⊢
  rw [live, stored]
  exact inside

namespace Upholds

variable {s t u : State}

theorem refl (s : State) : Upholds s s := ⟨id, fun _ => id, fun _ _ => id, fun _ _ => id, id, fun _ _ => id, id⟩

theorem trans (first : Upholds s t) (second : Upholds t u) : Upholds s u where
  agree := second.agree ∘ first.agree
  range agree range := second.range (first.agree agree) (first.range agree range)
  tallied agree range := second.tallied (first.agree agree) (first.range agree range) ∘ first.tallied agree range
  counted agree range := second.counted (first.agree agree) (first.range agree range) ∘ first.counted agree range
  settings := second.settings ∘ first.settings
  law agree inside := second.law (first.agree agree) (first.settings inside) ∘ first.law agree inside
  routes := second.routes ∘ first.routes

/-- An event of the Repair Engine. -/
theorem of_leads (leads : ∀ maps numbers, Leads maps numbers s t) : Upholds s t := by
  have bare : Led False False s t := leads _ _ ⟨id, False.elim, False.elim⟩
  have mapped : s.re.consistent → Led True False s t := fun agree =>
    leads _ _ ⟨fun _ => trivial, fun _ => agree, False.elim⟩
  have ranged : s.re.consistent → s.inRange → Touches True s t := fun agree range =>
    (leads True True ⟨id, fun _ => agree, fun _ => range⟩).touches
  refine ⟨fun agree => (mapped agree).agree trivial, fun agree range => (ranged agree range).inRange trivial range,
    fun agree range => (ranged agree range).tallied trivial, fun agree range => (ranged agree range).liveCounted trivial,
    State.settingsInRange_congr bare.touches.live.1 bare.touches.live.2, fun agree inside lawful => ?_,
    bare.touches.routesLaw⟩
  have threshold : t.setting 13 = s.setting 13 := State.setting_congr bare.touches.live.1 13
  rw [State.suspectsLawful_iff (threshold ▸ inside.threshold)]
  exact (mapped agree).law trivial _ ((State.suspectsLawful_iff inside.threshold).1 lawful)

theorem of_quiet (quiet : Quiet s t) : Upholds s t := of_leads fun _ _ => .of_quiet quiet

theorem ite {c : Prop} [Decidable c] (yes : c → Upholds s t) (no : ¬c → Upholds s u) :
    Upholds s (if c then t else u) := by
  split
  · exact yes ‹_›
  · exact no ‹_›

theorem foldl {β : Type} (op : State → β → State) (upholds : ∀ s item, Upholds s (op s item)) (items : List β) (s : State) :
    Upholds s (items.foldl op s) := by
  induction items generalizing s with
  | nil => exact refl s
  | cons item rest ih => exact (upholds s item).trans (ih _)

/-- A reset leaves every invariant true. -/
theorem of_reset (repair : t.re = RepairEngine.reset) (sense : t.su = SenseUnit.reset) (live : t.live = [])
    (stored : t.stored = []) (images : t.rj.liveImages = 0) (startUp : t.pp.startUp = true)
    (pending : t.pp.pendingRoutes = []) : Upholds s t where
  agree _ := repair ▸ RepairEngine.reset_consistent
  range _ _ := State.inRange_of_reset repair stored sense
  tallied _ _ _ := repair ▸ RepairEngine.reset_tallied
  counted _ _ _ := State.liveCounted_of_reset repair stored images
  settings _ := State.settingsInRange_of_reset live stored
  law _ _ _ := State.suspectsLawful_of_reset repair
  routes _ := ⟨pending ▸ Table.wf_nil _, fun started => by rw [startUp] at started; cases started⟩

end Upholds

/-! ## The frame start (R26, R31, R35, R153) -/

theorem State.resetBlocks_upholds (s : State) (phase : StartPhase) (bank0 bank1 : Bank) :
    Upholds s (s.resetBlocks phase bank0 bank1) := .of_reset rfl rfl rfl rfl rfl rfl rfl

theorem State.resetPoint_upholds (s : State) : Upholds s s.resetPoint := .of_reset rfl rfl rfl rfl rfl rfl rfl

theorem State.newFrame_quiet (s : State) (complete : Bool) : Quiet s (s.newFrame complete) := by
  obtain ⟨active, pending, startUp, _⟩ := s.newFrame_routes complete
  exact ⟨rfl, rfl, rfl, rfl, active, pending, startUp, id⟩

/-- What leaves the Pixel Path, the Sense Unit, the Repair Engine, the settings and the live image count alone is quiet. -/
theorem Quiet.of_same {s t : State} (live : t.live = s.live) (stored : t.stored = s.stored) (pp : t.pp = s.pp)
    (su : t.su = s.su) (re : t.re = s.re) (images : t.rj.liveImages = s.rj.liveImages) : Quiet s t :=
  ⟨re, live, stored, images, by rw [pp], by rw [pp], by rw [pp], fun ranged => su ▸ ranged⟩

theorem State.sample_quiet (s : State) (x : Int) : Quiet s (s.sample x) := by
  obtain ⟨_, live, stored, pp, su, re, rj⟩ := s.sample_frame x
  exact .of_same live stored pp su re (by rw [rj])

/-- The end of a survey keeps the sweep where it is; a measurement in flight keeps its unit (R66, R70). -/
theorem State.endSurvey_quiet (s : State) (o : SurveyOutcome) : Quiet s (s.endSurvey o) := by
  obtain ⟨_, live, stored, pp, re, rj⟩ := s.endSurvey_frame o
  refine ⟨re, live, stored, by rw [rj], by rw [pp], by rw [pp], by rw [pp], fun ranged => ?_⟩
  unfold State.endSurvey
  split
  · exact ranged
  · exact ⟨ranged.1, (s.sense_quiet Measurement.leaveSurvey s.su.baselines fun _ => rfl).sense ranged |>.2⟩

theorem State.senseFrame_quiet (s : State) : Quiet s s.senseFrame := by
  have first : Quiet s (s.withSu { s.su with status := s.su.statusAt s.cm.temp, sweepCount := 0 }) :=
    ⟨rfl, rfl, rfl, rfl, rfl, rfl, rfl, id⟩
  unfold State.senseFrame
  dsimp only
  split
  · exact first.trans (State.endSurvey_quiet _ _)
  · exact first

/-- The routes that a frame start sets follow the cells (R31, R35). -/
theorem State.applyRoutes_routesLaw (s : State) (law : s.routesLaw) : s.applyRoutes.routesLaw := by
  obtain ⟨_, _, _, _, re, _, emptied, _⟩ := s.applyRoutes_frame
  refine ⟨emptied ▸ Table.wf_nil _, fun started n cell => ?_⟩
  have none : s.applyRoutes.pp.pendingRoute n = none := by
    unfold PixelPath.pendingRoute
    rw [emptied, Table.read_nil]
  rw [none, Option.getD_none, re]
  cases run : s.operating && s.pp.startUp with
  | true =>
    rw [Bool.and_eq_true] at run
    exact (State.applyRoutes_startUp run.1 run.2).2 n cell
  | false =>
    unfold State.applyRoutes at started ⊢
    rw [if_neg (by simp [run])] at started ⊢
    exact (PixelPath.applyPending_read s.pp.pendingRoutes s.pp.active law.1 n).trans (law.2 started n cell)

theorem State.applyRoutes_upholds (s : State) : Upholds s s.applyRoutes := by
  obtain ⟨_, live, stored, su, re, rj, _, _⟩ := s.applyRoutes_frame
  -- All but the routes is as it was: read the invariants of a state that differs from `s` in nothing they speak of.
  have same : Quiet s (s.applyRoutes.withPp s.pp) := .of_same live stored rfl su re (by rw [State.withPp_rj, rj])
  have kept := Upholds.of_quiet same
  exact ⟨kept.agree, kept.range, kept.tallied, kept.counted, kept.settings, kept.law, s.applyRoutes_routesLaw⟩

theorem State.latchScale_quiet (s : State) : Quiet s s.latchScale := ⟨rfl, rfl, rfl, rfl, rfl, rfl, rfl, id⟩

theorem State.repairFrame_upholds (s : State) : Upholds s s.repairFrame := .of_leads fun _ _ => s.repairFrame_leads

theorem State.frameStart_upholds (s : State) (sensor : Int) (complete : Bool) :
    Upholds s (s.frameStart sensor complete) := by
  unfold State.frameStart
  refine .ite (fun _ => s.resetPoint_upholds) fun _ => ?_
  have before := ((s.newFrame_quiet complete).trans (State.sample_quiet _ sensor)).trans (State.senseFrame_quiet _)
  exact (((Upholds.of_quiet before).trans (State.repairFrame_upholds _)).trans (State.applyRoutes_upholds _)).trans
    (.of_quiet (State.latchScale_quiet _))

theorem State.tick_quiet (s : State) (elapsed : Nat) : Quiet s (s.tick elapsed) := ⟨rfl, rfl, rfl, rfl, rfl, rfl, rfl, id⟩
theorem State.reach_quiet (s : State) (time : Nat) : Quiet s (s.reach time) := ⟨rfl, rfl, rfl, rfl, rfl, rfl, rfl, id⟩

theorem State.settleTimer_upholds (s : State) (wasLive : Bool) (sensor : Int) :
    Upholds s (s.settleTimer wasLive sensor) := .ite (fun _ => s.frameStart_upholds _ _) fun _ => .refl s

theorem State.settleFreeRun_upholds (s before : State) (sensor : Int) : Upholds s (s.settleFreeRun before sensor) :=
  .ite (fun _ => s.frameStart_upholds _ _) fun _ => .refl s

theorem State.timerExpiry_upholds (s : State) (sensor : Int) : Upholds s (s.timerExpiry sensor) :=
  (Upholds.of_quiet (s.reach_quiet _)).trans (State.frameStart_upholds _ _ _)

end Sys2Proof.Machine

end

section
/-! PROOFS. O5: the journal's work and the row gaps. -/

namespace Sys2Proof.Machine

/-! ## The journal's work (R130 to R139) -/

section

variable {s : State}

theorem State.withRj_quiet (s : State) {j : Journal} (images : j.liveImages = s.rj.liveImages) : Quiet s (s.withRj j) :=
  .of_same rfl rfl rfl rfl rfl images

theorem State.withRj_upholds (s : State) {j : Journal} (images : j.liveImages = s.rj.liveImages) :
    Upholds s (s.withRj j) := .of_quiet (s.withRj_quiet images)

/-- What is upheld from a change of the journal on is upheld from the state before it. -/
theorem Upholds.from_rj {s t : State} {j : Journal} (rest : Upholds (s.withRj j) t)
    (images : j.liveImages = s.rj.liveImages) : Upholds s t := (s.withRj_upholds images).trans rest

theorem State.notify_upholds (s : State) (d : Detail) : Upholds s (s.notify d) := .of_quiet (s.notify_quiet d)

theorem State.owe_upholds (s : State) (n : Nat) : Upholds s (s.owe n) := s.withRj_upholds rfl

@[simp] theorem Journal.setBank_liveImages (j : Journal) (i : BankId) (b : Bank) :
    (j.setBank i b).liveImages = j.liveImages := by
  cases i <;> rfl

@[simp] theorem Journal.useSlot_liveImages (j : Journal) (x : Slot) : (j.useSlot x).liveImages = j.liveImages := by
  unfold Journal.useSlot
  split <;> simp

@[simp] theorem Journal.beginErase_liveImages (j : Journal) : j.beginErase.liveImages = j.liveImages := by
  simp [Journal.beginErase]

@[simp] theorem Journal.eraseDone_liveImages (j : Journal) : j.eraseDone.liveImages = j.liveImages := by
  simp [Journal.eraseDone]

@[simp] theorem Journal.afterMark_liveImages (j : Journal) (old : Option BankId) :
    (j.afterMark old).liveImages = j.liveImages := by
  cases old <;> simp [Journal.afterMark]

theorem State.bindRecordings_upholds (s : State) : Upholds s s.bindRecordings :=
  .of_leads fun _ _ => s.bindRecordings_leads

theorem State.reconsider_upholds (s : State) : Upholds s s.reconsider := .of_leads fun _ _ => s.reconsider_leads

theorem State.report_upholds (s : State) (w : RecordWrite) : Upholds s (s.report w) :=
  .of_leads fun _ _ => s.report_leads w

/-- What a state upholds goes on to its reconsideration. -/
theorem Upholds.reconsider {t : State} (before : Upholds s t) : Upholds s t.reconsider :=
  before.trans t.reconsider_upholds

theorem State.noteUnable_upholds (s : State) : Upholds s s.noteUnable := s.withRj_upholds rfl

theorem State.stopIfDue_upholds (s : State) : Upholds s s.stopIfDue :=
  .ite (fun _ => s.withRj_upholds rfl) fun _ => .refl s

theorem State.endUnmarked_upholds (s : State) : Upholds s s.endUnmarked :=
  .from_rj (.foldl _ State.owe_upholds _ _) rfl

theorem State.enterFull_upholds (s : State) : Upholds s s.enterFull :=
  .from_rj (((State.notify_upholds _ _).trans (State.bindRecordings_upholds _)).trans (State.noteUnable_upholds _)) rfl

theorem State.enterFaulted_upholds (s : State) : Upholds s s.enterFaulted :=
  .from_rj (((State.notify_upholds _ _).trans (State.bindRecordings_upholds _)).trans (State.noteUnable_upholds _)) rfl

theorem State.abandonRecord_upholds (s : State) : Upholds s s.abandonRecord := by
  unfold State.abandonRecord
  split
  · exact .from_rj (State.owe_upholds _ _) (Journal.useSlot_liveImages _ _)
  · exact .refl s

theorem State.endCompaction_upholds (s : State) : Upholds s s.endCompaction := by
  unfold State.endCompaction
  split
  · exact s.endUnmarked_upholds
  all_goals exact .refl s

theorem State.failOperation_upholds (s : State) : Upholds s s.failOperation :=
  ((s.abandonRecord_upholds.trans (State.endCompaction_upholds _)).trans (State.enterFaulted_upholds _)).reconsider

theorem State.holdCompaction_upholds (s : State) : Upholds s s.holdCompaction :=
  s.endUnmarked_upholds.trans (State.withRj_upholds _ rfl)

theorem State.walkOver_upholds (s : State) (start stop : Nat) : Upholds s (s.walkOver start stop) := s.withRj_upholds rfl

theorem State.overflow_upholds (s : State) : Upholds s s.overflow :=
  (s.endUnmarked_upholds.trans (.foldl _ State.owe_upholds _ _)).trans (State.enterFull_upholds _)

theorem State.walkFrom_upholds (s : State) (start : Nat) : Upholds s (s.walkFrom start) := by
  unfold State.walkFrom
  split
  · refine (s.walkOver_upholds _ _).trans (.ite (fun _ => ?_) fun _ => State.overflow_upholds _)
    exact State.withRj_upholds _ rfl
  · exact (s.walkOver_upholds _ _).trans (State.withRj_upholds _ rfl)

theorem State.startCompaction_upholds (s : State) : Upholds s s.startCompaction :=
  .ite (fun _ => s.enterFull_upholds) fun _ => s.withRj_upholds (Journal.beginErase_liveImages _)

theorem State.takeHead_upholds (s : State) : Upholds s s.takeHead := by
  unfold State.takeHead
  split
  · exact .refl s
  · exact s.withRj_upholds rfl

theorem State.endWrite_upholds (s : State) : Upholds s s.endWrite :=
  .from_rj ((State.stopIfDue_upholds _).trans (State.noteUnable_upholds _)).reconsider rfl

theorem State.recordWritten_upholds (s : State) (w : RecordWrite) : Upholds s (s.recordWritten w) := by
  refine .ite (fun _ => ?_) fun _ => (s.report_upholds w).trans (State.endWrite_upholds _)
  have kept : Upholds s (s.withRj { s.rj with heldReports := s.rj.heldReports ++ [w] }) := s.withRj_upholds rfl
  exact (kept.trans (.ite (fun _ => State.holdCompaction_upholds _) fun _ => State.walkFrom_upholds _ _)).reconsider

theorem State.lastSlotFailed_upholds (s : State) (w : RecordWrite) : Upholds s (s.lastSlotFailed w) := by
  have owed : Upholds s ((s.withRj { s.rj with record := none }).owe w.subject) :=
    .from_rj (State.owe_upholds _ _) rfl
  exact owed.trans (.ite (fun _ => ((State.overflow_upholds _).trans (State.stopIfDue_upholds _)).reconsider)
    fun _ => State.endWrite_upholds _)

theorem State.secondFailure_upholds (s : State) (w : RecordWrite) : Upholds s (s.secondFailure w) := by
  have off : Upholds s (s.withRj { s.rj with record := none }) := s.withRj_upholds rfl
  exact (((off.trans (State.endCompaction_upholds _)).trans (State.owe_upholds _ _)).trans
    (State.enterFaulted_upholds _)).reconsider

theorem State.recordEnd_upholds (s : State) (w : RecordWrite) (verified : Bool) :
    Upholds s (s.recordEnd w verified) := by
  refine .ite (fun _ => ?_) fun _ => ?_
  · have used : Upholds s (s.withRj { s.rj.useSlot (.complete w.subject w.image) with failures := 0, record := none }) :=
      s.withRj_upholds (Journal.useSlot_liveImages _ _)
    exact used.trans (State.recordWritten_upholds _ w)
  · have torn : Upholds s (s.withRj (s.rj.useSlot .torn)) := s.withRj_upholds (Journal.useSlot_liveImages _ _)
    refine torn.trans (.ite (fun _ => ?_) fun _ => State.secondFailure_upholds _ w)
    have again : ∀ t : State, Upholds t (t.withRj { t.rj with failures := 1, due := t.rj.becomesDue }) :=
      fun t => t.withRj_upholds rfl
    exact (again _).trans (.ite (fun _ => .refl _) fun _ => State.lastSlotFailed_upholds _ w)

theorem State.newBankErased_upholds (s : State) : Upholds s s.newBankErased := by
  have erased : Upholds s (s.withRj s.rj.eraseDone) := s.withRj_upholds (Journal.eraseDone_liveImages _)
  exact erased.trans (.ite (fun _ => State.holdCompaction_upholds _) fun _ => State.withRj_upholds _ rfl)

theorem State.oldBankErased_upholds (s : State) : Upholds s s.oldBankErased := by
  have erased : Upholds s (s.withRj s.rj.eraseDone) := s.withRj_upholds (Journal.eraseDone_liveImages _)
  refine erased.trans (.ite (fun _ => State.withRj_upholds _ rfl) fun _ => ?_)
  refine .ite (fun _ => State.stopIfDue_upholds _) fun _ => ?_
  exact .ite (fun _ => (State.startCompaction_upholds _).reconsider) fun _ => State.withRj_upholds _ rfl

theorem State.eraseEnd_upholds (s : State) (erased : Bool) : Upholds s (s.eraseEnd erased) :=
  .ite (fun _ => .ite (fun _ => s.newBankErased_upholds) fun _ => s.oldBankErased_upholds)
    fun _ => s.failOperation_upholds

theorem State.headerWritten_upholds (s : State) : Upholds s s.headerWritten := by
  have written : Upholds s (s.withRj { s.rj.setBank s.rj.newBank
      ⟨s.rj.nextGeneration, false, (s.rj.bank s.rj.newBank).slots⟩ with operation := none }) :=
    s.withRj_upholds (Journal.setBank_liveImages _ _ _)
  refine written.trans (.ite (fun _ => State.holdCompaction_upholds _) fun _ => ?_)
  have snapshot : ∀ t : State, Upholds t (t.withRj { t.rj with writer := .compacting .snapshot }) :=
    fun t => t.withRj_upholds rfl
  exact ((snapshot _).trans (State.walkFrom_upholds _ _)).reconsider

theorem State.markWritten_upholds (s : State) : Upholds s s.markWritten := by
  have marked : Upholds s (s.withRj { s.rj.setBank s.rj.newBank { s.rj.bank s.rj.newBank with complete := true } with
      active := some s.rj.newBank, heldReports := [], walkTaken := [], walk := 0, unrecorded := false }) :=
    s.withRj_upholds (Journal.setBank_liveImages _ _ _)
  have reported := (marked.trans (.foldl _ State.report_upholds s.rj.heldReports _)).trans
    (State.notify_upholds _ (.journal .compacted))
  exact ((reported.trans (State.withRj_upholds _ (Journal.afterMark_liveImages _ s.rj.active))).trans
    (State.stopIfDue_upholds _)).reconsider

theorem State.stopWriter_upholds (s : State) : Upholds s s.stopWriter :=
  .from_rj (State.stopIfDue_upholds _) rfl

theorem State.resume_upholds (s : State) : Upholds s s.resume := by
  unfold State.resume
  split
  · have full : Upholds s (s.withRj { s.rj with writer := .full }) := s.withRj_upholds rfl
    exact ((full.trans (State.bindRecordings_upholds _)).trans (State.noteUnable_upholds _)).reconsider
  · refine .ite (fun _ => s.startCompaction_upholds.reconsider) fun _ => ?_
    exact .ite (fun _ => s.takeHead_upholds) fun _ => s.withRj_upholds rfl
  all_goals exact .refl s

end

/-! ## Row gaps (R28, R40, R42, R58) -/

/-- A step that changes only the Sense Unit, and leaves it at cells of the wall when the maps agree and the numbers were in
range. -/
theorem Upholds.of_sense {s t : State} (same : Quiet s (t.withSu s.su))
    (sense : s.re.consistent → s.inRange → t.su.ranged) : Upholds s t := by
  have kept := Upholds.of_quiet same
  refine ⟨kept.agree, fun agree range => ?_, kept.tallied, kept.counted, kept.settings, kept.law, kept.routes⟩
  obtain ⟨repair, stored, _⟩ := (State.inRange_iff _).1 (kept.range agree range)
  exact (State.inRange_iff t).2 ⟨repair, stored, sense agree range⟩

theorem State.withSu_upholds (s : State) {v : SenseUnit} (sense : s.re.consistent → s.inRange → v.ranged) :
    Upholds s (s.withSu v) := .of_sense (.refl s) sense

/-- A grant to a unit of the wall, or to the reference load (R40). -/
theorem State.grant_upholds (s : State) (index : Nat) (g : Grant) (surveyed wraps : Bool)
    (unit : s.re.consistent → s.inRange → ∀ u purpose channel, g = .unit u purpose channel → u.cell < 9216) :
    Upholds s (s.grant index g surveyed wraps) := by
  refine s.withSu_upholds fun agree range => ⟨range.2.2.2.2.2.1, fun m v purpose channel flight granted => ?_⟩
  cases flight
  exact unit agree range v purpose channel granted

/-- What only counts, learns or remembers results stays at the same cells. -/
theorem State.withSu_quiet (s : State) {v : SenseUnit} (flight : v.inFlight = s.su.inFlight)
    (cursor : v.sweepCursor = s.su.sweepCursor) : Quiet s (s.withSu v) := by
  refine ⟨rfl, rfl, rfl, rfl, rfl, rfl, rfl, fun ranged => ?_⟩
  unfold SenseUnit.ranged at ranged ⊢
  rw [State.withSu_su, flight, cursor]
  exact ranged

theorem State.setSurvey_quiet (s : State) (v : Option Survey) : Quiet s (s.setSurvey v) := s.withSu_quiet rfl rfl

theorem State.endSurvey_upholds (s : State) (o : SurveyOutcome) : Upholds s (s.endSurvey o) :=
  .of_quiet (s.endSurvey_quiet o)

theorem State.wrapRow_quiet (s : State) (row : Nat) : Quiet s (s.wrapRow row) := by
  unfold State.wrapRow
  split
  · exact .refl s
  · dsimp only
    split
    · split
      · exact (s.setSurvey_quiet _).trans (State.endSurvey_quiet _ _)
      · exact s.setSurvey_quiet _
    · exact s.setSurvey_quiet _

/-- What is found lies in the range that was searched. -/
theorem findFrom_range {test : Nat → Bool} {start count n : Nat} (found : findFrom test start count = some n) :
    start ≤ n ∧ n < start + count := by
  induction count generalizing start with
  | zero => cases found
  | succ count ih =>
    unfold findFrom at found
    split at found
    · cases found
      omega
    · have later := ih found
      omega

theorem RepairEngine.servingUnit_cell {r : RepairEngine} {n : Nat} {u : UnitId} {channel : Option Nat}
    (serves : r.servingUnit n = some (u, channel)) : u.cell = n := by
  unfold RepairEngine.servingUnit at serves
  split at serves
  · cases serves
    rfl
  · split at serves
    · cases serves
      rfl
    · cases serves
  all_goals cases serves

theorem State.surveyGap_upholds (s : State) (index : Nat) {row : Nat} (wall : row < 48) (v : Survey) :
    Upholds s (s.surveyGap index row v) := by
  refine .ite (fun _ => .refl s) fun _ => ?_
  split
  · exact .of_quiet (s.wrapRow_quiet row)
  · rename_i q found
    have bound := findFrom_range found
    split
    · exact .refl s
    · rename_i u channel serves
      refine (Upholds.of_quiet (s.setSurvey_quiet _)).trans (State.grant_upholds _ _ _ _ _ fun _ range w purpose channel granted => ?_)
      cases granted
      rw [RepairEngine.servingUnit_cell serves]
      omega

theorem State.sweepNext_lt {s : State} {n : Nat} (cursor : s.su.sweepCursor < 9216) (found : s.sweepNext = some n) :
    n < 9216 := by
  unfold State.sweepNext Config.cells at found
  rcases Option.or_eq_some_iff.1 found with ahead | ⟨_, behind⟩
  · have := findFrom_range ahead
    omega
  · have := findFrom_range behind
    omega

theorem State.sweepGap_upholds (s : State) (index row : Nat) : Upholds s (s.sweepGap index row) := by
  unfold State.sweepGap
  split
  · exact .refl s
  · rename_i n next
    refine .ite (fun _ => ?_) fun _ => .refl s
    split
    · exact .refl s
    · rename_i u channel serves
      refine .of_sense (.refl s) fun _ range => ⟨Nat.mod_lt _ (Nat.zero_lt_succ 9215), fun m v purpose ch flight granted => ?_⟩
      cases flight
      cases granted
      rw [RepairEngine.servingUnit_cell serves]
      exact State.sweepNext_lt range.2.2.2.2.2.1 next

theorem State.arbitrate_upholds (s : State) (index : Nat) {row : Nat} (wall : row < 48) :
    Upholds s (s.arbitrate index row) := by
  refine .ite (fun _ => s.grant_upholds _ _ _ _ fun _ _ _ _ _ => nofun) fun _ => ?_
  split
  · rename_i p claim
    refine s.grant_upholds _ _ _ _ fun agree range u purpose channel granted => ?_
    cases granted
    refine range.cell_lt ?_
    rw [agree.2.1 p (List.mem_of_find?_eq_some claim)]
    exact nofun
  · split
    · rename_i e claim
      refine s.grant_upholds _ _ _ _ fun agree range u purpose channel granted => ?_
      cases granted
      exact range.listed_lt (agree.2.2.1 e (List.mem_of_find?_eq_some claim))
    · split
      · exact s.surveyGap_upholds index wall _
      · exact s.sweepGap_upholds index row

theorem State.openGap_upholds (s : State) : Upholds s s.openGap := by
  have opened : Upholds s (s.withPp { s.pp with nextGap := s.pp.nextGap + 1, gap := some ⟨s.pp.nextGap, s.pp.frame⟩ }) :=
    .of_quiet ⟨rfl, rfl, rfl, rfl, rfl, rfl, rfl, id⟩
  unfold State.openGap
  dsimp only
  split
  · exact opened
  · refine .ite (fun _ => ?_) fun _ => opened
    exact opened.trans (State.grant_upholds _ _ _ _ _ fun _ _ _ _ _ => nofun)
  · exact opened.trans (State.arbitrate_upholds _ _ (Nat.mod_lt _ (by decide)))

theorem SenseUnit.countVerdict_range (u : SenseUnit) (cls : VerdictClass) (comp : Nat) :
    (u.countVerdict cls comp).inFlight = u.inFlight ∧ (u.countVerdict cls comp).sweepCursor = u.sweepCursor := by
  unfold SenseUnit.countVerdict
  split <;> exact ⟨rfl, rfl⟩

theorem SenseUnit.learn_range (u : SenseUnit) (unit : UnitId) (cls : VerdictClass) (comp : Nat) (drop : Bool) :
    (u.learn unit cls comp drop).inFlight = u.inFlight ∧ (u.learn unit cls comp drop).sweepCursor = u.sweepCursor := by
  unfold SenseUnit.learn
  split
  · split <;> exact ⟨rfl, rfl⟩
  · exact ⟨rfl, rfl⟩

theorem State.tallySurvey_quiet (s : State) (m : Measurement) (cls : VerdictClass) : Quiet s (s.tallySurvey m cls) := by
  unfold State.tallySurvey
  split
  · split
    · dsimp only
      split
      · exact (s.setSurvey_quiet _).trans (State.wrapRow_quiet _ _)
      · exact s.setSurvey_quiet _
    · exact .refl s
  · exact .refl s

/-- What is upheld from a change of the Sense Unit on that leaves the sweep and the measurement in flight. -/
theorem Upholds.from_su {s t : State} {v : SenseUnit} (rest : Upholds (s.withSu v) t)
    (flight : v.inFlight = s.su.inFlight) (cursor : v.sweepCursor = s.su.sweepCursor) : Upholds s t :=
  (Upholds.of_quiet (s.withSu_quiet flight cursor)).trans rest

theorem State.referenceRuns_upholds (s : State) (good : Bool) : Upholds s (s.referenceRuns good) := by
  unfold State.referenceRuns
  split
  · exact .from_su (.refl _) rfl rfl
  · refine .ite (fun _ => .from_su (.refl _) rfl rfl) fun _ => ?_
    exact .from_su ((State.notify_upholds _ _).trans (State.endSurvey_upholds _ _)) rfl rfl
  · exact .from_su (.refl _) rfl rfl
  · refine .ite (fun _ => .from_su (.refl _) rfl rfl) fun _ => ?_
    exact .from_su (State.notify_upholds _ _) rfl rfl

/-- The end of a gap granted to a unit: the verdict is about the unit in flight. -/
theorem State.endUnitGap_leads {maps numbers : Prop} (s : State) (m : Measurement) {u : UnitId} (purpose : Purpose)
    (channel : Option Nat) (raw : Nat) (cell : numbers → u.cell < 9216) :
    Leads maps numbers s (s.endUnitGap m u purpose channel raw) := by
  have counted : Quiet s (s.withSu ((s.su.countVerdict (s.verdict m u purpose channel raw).cls
      (s.verdict m u purpose channel raw).compensated).learn u (s.verdict m u purpose channel raw).cls
      (s.verdict m u purpose channel raw).compensated m.dropUpdate)) :=
    s.withSu_quiet (((SenseUnit.learn_range _ _ _ _ _).1).trans (SenseUnit.countVerdict_range _ _ _).1)
      (((SenseUnit.learn_range _ _ _ _ _).2).trans (SenseUnit.countVerdict_range _ _ _).2)
  exact (Leads.of_quiet (counted.trans (State.tallySurvey_quiet _ m _))).trans
    (State.handVerdict_leads _ (s.verdict m u purpose channel raw) cell)

theorem State.endReferenceGap_upholds (s : State) (raw : Nat) : Upholds s (s.endReferenceGap raw) :=
  .from_su (State.referenceRuns_upholds _ _) rfl rfl

theorem State.endGap_upholds (s : State) (ticks : Nat) (regulatedFirst : Bool) :
    Upholds s (s.endGap ticks regulatedFirst) := by
  have ended : Quiet s ((s.withPp { s.pp with gap := none }).withSu { s.su with inFlight := none }) :=
    ⟨rfl, rfl, rfl, rfl, rfl, rfl, rfl, fun ranged => ⟨ranged.1, fun _ _ _ _ => nofun⟩⟩
  unfold State.endGap
  dsimp only
  split
  · exact .of_quiet ended
  · rename_i m flight
    split
    · exact (Upholds.of_quiet ended).trans (State.endReferenceGap_upholds _ _)
    · rename_i u purpose channel granted
      exact .of_leads fun _ numbers start => ((Leads.of_quiet ended).trans (State.endUnitGap_leads _ m purpose channel _
        fun h => (start.range h).2.2.2.2.2.2 m u purpose channel flight granted)) start

end Sys2Proof.Machine

end

section
/-! PROOFS. O5: the chain, the supply and the requests. -/

namespace Sys2Proof.Machine

/-! ## The chain (R20 to R25, R155 to R163) -/

theorem State.withCi_quiet (s : State) (ci : ChainInterface) : Quiet s (s.withCi ci) := .of_same rfl rfl rfl rfl rfl rfl

theorem State.withClk_quiet (s : State) (clk : Clock) : Quiet s (s.withClk clk) := .of_same rfl rfl rfl rfl rfl rfl

theorem State.withCm_quiet (s : State) (cm : ConditionMonitor) : Quiet s (s.withCm cm) := .of_same rfl rfl rfl rfl rfl rfl

/-- A change of the Pixel Path that leaves the routes and START-UP. -/
theorem State.withPp_quiet (s : State) {pp : PixelPath} (active : pp.active = s.pp.active)
    (routes : pp.pendingRoutes = s.pp.pendingRoutes) (startUp : pp.startUp = s.pp.startUp) : Quiet s (s.withPp pp) :=
  ⟨rfl, rfl, rfl, rfl, active, routes, startUp, id⟩

theorem State.setDirection_quiet (s : State) (p : Port) (d : DirectionState) : Quiet s (s.setDirection p d) := by
  cases p <;> exact s.withCi_quiet _

theorem State.setPort_quiet (s : State) (p : Port) (m : PortMonitor) : Quiet s (s.setPort p m) := by
  cases p <;> exact s.withCi_quiet _

theorem State.send_quiet (s : State) (lane : Port) (bytes : List Byte) : Quiet s (s.send lane bytes) :=
  s.setDirection_quiet _ _

theorem State.discardCapture_quiet (s : State) : Quiet s s.discardCapture := s.withPp_quiet rfl rfl rfl

theorem Quiet.ite {s t u : State} {c : Prop} [Decidable c] (yes : Quiet s t) (no : Quiet s u) :
    Quiet s (if c then t else u) := by
  split
  · exact yes
  · exact no

theorem State.noteCadence_quiet (s : State) (lane : Port) (old new : Nat) : Quiet s (s.noteCadence lane old new) :=
  .ite ((s.setPort_quiet _ _).trans (State.notify_quiet _ _)) (.refl s)

theorem State.monitorHead_quiet (s : State) (lane : Port) : Quiet s (s.monitorHead lane) := by
  unfold State.monitorHead
  dsimp only
  split
  · exact (s.setPort_quiet _ _).trans (State.noteCadence_quiet _ _ _ _)
  · exact s.setPort_quiet _ _
  · exact s.setPort_quiet _ _

theorem State.changeFeed_quiet (s : State) (new : Option Port) (cause : FeedCause) : Quiet s (s.changeFeed new cause) := by
  have changed : ∀ ci, Quiet s (s.discardCapture.withCi ci) := fun ci => s.discardCapture_quiet.trans (State.withCi_quiet _ ci)
  unfold State.changeFeed
  exact .ite (changed _) ((changed _).trans (State.notify_quiet _ _))

theorem State.leaveNone_quiet (s : State) (lane : Port) : Quiet s (s.leaveNone lane) :=
  (s.withClk_quiet { s.clk with free := s.clk.free + 1 }).trans (State.changeFeed_quiet _ _ _)

theorem State.countReturn_quiet (s : State) (lane : Port) : Quiet s (s.countReturn lane) :=
  .ite (s.withCi_quiet _) (s.changeFeed_quiet _ _)

theorem State.selectOnHead_quiet (s : State) (lane : Port) : Quiet s (s.selectOnHead lane) := by
  unfold State.selectOnHead
  split
  · exact s.leaveNone_quiet lane
  · exact .ite (s.changeFeed_quiet _ _) (s.withCi_quiet _)
  · exact .ite (s.countReturn_quiet lane) (.refl s)

theorem State.selectOnLoss_quiet (s : State) (lane : Port) : Quiet s (s.selectOnLoss lane) := by
  have first : Quiet s (if lane = s.preferredPort then s.withCi { s.ci with returnCount := 0 } else s) :=
    .ite (s.withCi_quiet _) (.refl s)
  unfold State.selectOnLoss
  dsimp only
  refine .ite (.ite ?_ ?_) (.ite ?_ first)
  · exact (first.trans (State.discardCapture_quiet _)).trans (State.withCi_quiet _ _)
  · exact first.trans (State.changeFeed_quiet _ _ _)
  · exact first.trans (State.changeFeed_quiet _ _ _)

theorem State.headArrives_upholds (s : State) (lane : Port) (r : HeadRecord) (sensor : Int) :
    Upholds s (s.headArrives lane r sensor) := by
  have heard : Quiet s (((s.forwardHead lane r).monitorHead lane).selectOnHead lane) :=
    ((s.setDirection_quiet _ _).trans (State.monitorHead_quiet _ lane)).trans (State.selectOnHead_quiet _ lane)
  have settled := (Upholds.of_quiet heard).trans (State.settleTimer_upholds _ s.feedLive sensor)
  exact .ite (fun _ => settled.trans (.of_quiet (State.withPp_quiet _ rfl rfl rfl))) fun _ => settled

theorem State.tailArrives_upholds (s : State) (lane : Port) (r : TailRecord) (sensor : Int) :
    Upholds s (s.tailArrives lane r sensor) := by
  have sent : Upholds s (s.forwardTail lane r) := .of_quiet (s.setDirection_quiet _ _)
  have closed : ∀ t : State, Upholds t t.closeCapture := fun t => .of_quiet (t.withPp_quiet rfl rfl rfl)
  refine .ite (fun _ => sent.trans (.ite (fun _ => ?_) fun _ => closed _)) fun _ => sent
  exact (closed _).trans (State.frameStart_upholds _ _ _)

theorem State.losePort_upholds (s : State) (lane : Port) (sensor : Int) : Upholds s (s.losePort lane sensor) := by
  have lost : ∀ t : State, ∀ m, Quiet t ((t.setPort lane m).selectOnLoss lane) := fun t m =>
    (t.setPort_quiet lane m).trans (State.selectOnLoss_quiet _ lane)
  exact (Upholds.of_quiet ((s.reach_quiet _).trans (lost _ _))).trans (State.settleTimer_upholds _ s.feedLive sensor)

theorem PixelPath.takePixel_routes (pp : PixelPath) (row x : Nat) (p : Pixel) :
    (pp.takePixel row x p).active = pp.active ∧ (pp.takePixel row x p).pendingRoutes = pp.pendingRoutes ∧
      (pp.takePixel row x p).startUp = pp.startUp ∧ (pp.takePixel row x p).gap = pp.gap := by
  unfold PixelPath.takePixel
  split
  · exact ⟨rfl, rfl, rfl, rfl⟩
  · split <;> exact ⟨rfl, rfl, rfl, rfl⟩

theorem PixelPath.takePixels_routes (row : Nat) (pixels : List Pixel) (x : Nat) (pp : PixelPath) :
    (pp.takePixels row x pixels).active = pp.active ∧ (pp.takePixels row x pixels).pendingRoutes = pp.pendingRoutes ∧
      (pp.takePixels row x pixels).startUp = pp.startUp ∧ (pp.takePixels row x pixels).gap = pp.gap := by
  induction pixels generalizing x pp with
  | nil => exact ⟨rfl, rfl, rfl, rfl⟩
  | cons p rest ih =>
    obtain ⟨active, pending, startUp, gap⟩ := ih (x + 1) (pp.takePixel row x p)
    obtain ⟨active', pending', startUp', gap'⟩ := pp.takePixel_routes row x p
    exact ⟨active.trans active', pending.trans pending', startUp.trans startUp', gap.trans gap'⟩

theorem PixelPath.takeLine_routes (pp : PixelPath) (r : LineRecord) :
    (pp.takeLine r).active = pp.active ∧ (pp.takeLine r).pendingRoutes = pp.pendingRoutes ∧
      (pp.takeLine r).startUp = pp.startUp ∧ (pp.takeLine r).gap = pp.gap := by
  unfold PixelPath.takeLine
  split
  · split
    · exact PixelPath.takePixels_routes _ _ _ _
    · exact ⟨rfl, rfl, rfl, rfl⟩
  · exact ⟨rfl, rfl, rfl, rfl⟩

theorem State.takeLine_quiet (s : State) (lane : Port) (r : LineRecord) :
    Quiet s (let s1 := s.send lane (LineRecord.bytes r)
      if LineRecord.inRange r && decide (s.ci.feed = some lane) then s1.withPp (s1.pp.takeLine r) else s1) := by
  have sent := s.send_quiet lane (LineRecord.bytes r)
  obtain ⟨active, pending, startUp, _⟩ := (s.send lane (LineRecord.bytes r)).pp.takeLine_routes r
  exact .ite (sent.trans (State.withPp_quiet _ active pending startUp)) sent

theorem State.placeReply_quiet (s : State) (lane : Port) (reply : Reply) (rest : List Reply) :
    Quiet s (s.placeReply lane reply rest) :=
  (s.setDirection_quiet _ _).trans (.ite (State.withClk_quiet _ _) (.refl _))

/-! ## The supply, the pin and the derate countdown (R149 to R152) -/

theorem State.notifyConditions_quiet (s : State) : Quiet s s.notifyConditions := s.notify_quiet _

theorem State.noteSupply_quiet (s : State) : Quiet s s.noteSupply := .ite s.notifyConditions_quiet (.refl s)

theorem State.beginSettle_quiet (s : State) : Quiet s s.beginSettle := .ite (.refl s) (s.withClk_quiet _)

theorem State.powerUp_quiet (s : State) : Quiet s s.powerUp :=
  ((s.withCm_quiet _).trans (State.withClk_quiet _ _)).trans (State.beginSettle_quiet _)

theorem State.resetScale_quiet (s : State) : Quiet s s.resetScale := .ite (.refl s) (s.withPp_quiet rfl rfl rfl)

theorem State.supplyGood_quiet (s : State) : Quiet s s.supplyGood := by
  have good : Quiet s ((s.setSupply .good).withRj { (s.setSupply .good).rj with goodSince := (s.setSupply .good).clk.now }) :=
    (s.withCm_quiet _).trans (State.withRj_quiet _ rfl)
  exact (good.trans (State.resetScale_quiet _)).trans (State.noteSupply_quiet _)

theorem State.supplyLow_upholds (s : State) : Upholds s s.supplyLow := by
  have low : Quiet s (s.setSupply .low) := s.withCm_quiet _
  have dimmed : ∀ t : State, Quiet t (t.withPp { t.pp with scaleDerate := 40 }) := fun t => t.withPp_quiet rfl rfl rfl
  have noted := Upholds.of_quiet ((low.trans (dimmed _)).trans (State.noteSupply_quiet _))
  exact .ite (fun _ => noted.trans (State.stopWriter_upholds _)) fun _ => noted

theorem State.stopPart_upholds (s : State) (cut : Cut) : Upholds s (s.stopPart cut) := s.resetBlocks_upholds _ _ _

theorem State.expireCountdown_quiet (s : State) : Quiet s s.expireCountdown := by
  have expired : ∀ cm, Quiet s (s.withCm cm) := s.withCm_quiet
  unfold State.expireCountdown
  exact .ite (expired _) ((expired _).trans (State.notifyConditions_quiet _))

/-! ## Requests (R163, R164) -/

/-- A request changes what its block changes, beside the chain. -/
theorem State.request_upholds (s : State) (r : Request) (kind : Byte) {op : State → State × Answer}
    (own : ∀ t : State, Upholds t (op t).1) : Upholds s (s.request r kind op) := by
  have decided : ∀ t : State, Upholds t (t.decideRequest r kind op).1 := fun t => by
    unfold State.decideRequest
    repeat' split
    · exact .refl t
    · exact .refl t
    · exact .refl t
    · exact own t
  have considered : ∀ t : State, Quiet t (t.consider r.lane) := fun t => t.setDirection_quiet _ _
  have sent := s.send_quiet r.lane (Request.bytes r kind)
  unfold State.request
  refine .ite (fun _ => .refl s) fun _ => ?_
  refine .ite (fun _ => .of_quiet sent) fun _ => ?_
  refine .ite (fun _ => .of_quiet (sent.trans (considered _))) fun _ => ?_
  refine .ite (fun _ => .of_quiet ((sent.trans (considered _)).trans (State.setDirection_quiet _ _ _))) fun _ => ?_
  refine (Upholds.of_quiet (sent.trans (considered _))).trans (.ite (fun _ => decided _) fun _ => ?_)
  exact (decided _).trans (.of_quiet (State.setDirection_quiet _ _ _))

/-- An operation that only reports. -/
theorem State.emptyBody_upholds (s : State) (body : List Byte) {op : State → State × Answer} (own : Upholds s (op s).1) :
    Upholds s (s.emptyBody body op).1 := by
  unfold State.emptyBody
  split
  · exact own
  · exact .refl s

section

variable (s : State) (body : List Byte)

theorem spareOp_upholds : Upholds s (spareOp body s).1 := by
  unfold spareOp
  split
  · exact .refl s
  · rename_i n named _
    split
    · exact .refl s
    · rename_i ranged
      split
      · exact .refl s
      · rename_i spares
        split
        · exact .refl s
        · rename_i alive
          split
          · exact .refl s
          · rename_i k chosen
            split
            · exact .refl s
            · have inside : n < 9216 ∧ (named = allOnes2 ∨ named < 768 ∧ groupOfChannel named = groupOf n) := by
                have range : spareInRange n named = true := by simpa using ranged
                unfold spareInRange at range
                rw [Bool.and_eq_true, Bool.or_eq_true, Bool.and_eq_true] at range
                exact ⟨of_decide_eq_true range.1,
                  range.2.imp of_decide_eq_true fun own => ⟨of_decide_eq_true own.1, of_decide_eq_true own.2⟩⟩
              have free : (s.re.channel k).state = .free ∧ groupOfChannel k = groupOf n := by
                unfold State.spareChannel at chosen
                split at chosen
                · exact RepairEngine.choose_some chosen
                · rename_i own
                  split at chosen
                  · rename_i isFree
                    cases chosen
                    exact ⟨of_decide_eq_true isFree, (inside.2.resolve_left own).2⟩
                  · cases chosen
              exact .of_leads fun _ _ => s.takeSpare_leads (by simpa using spares) alive free.1 free.2 inside.1

/-- RESTORE and CONCEAL: a cell of the wall that is not CONCEALED(LINE) is withdrawn. -/
theorem State.withdraw_upholds {n : Nat} {c : CellState} (cell : n < 9216) (bare : c.channel = none)
    (clear : c ≠ .suspect ∧ c ≠ .condemned) (off : s.re.cell n ≠ .concealed .line) : Upholds s (s.withdraw n c) :=
  .of_leads fun _ _ => s.withdraw_leads bare clear (fun _ line => absurd line off) fun _ => cell

theorem restoreOp_upholds : Upholds s (restoreOp body s).1 := by
  unfold restoreOp
  split
  · exact .refl s
  · split
    · exact .refl s
    · rename_i past
      split
      · exact .refl s
      · rename_i n _ restores
        have off : s.re.cell n ≠ .concealed .line := fun line => by
          rw [line] at restores
          exact restores rfl
        exact ((s.withdraw_upholds (not_le.1 past) rfl (by decide) off).trans
          (.of_quiet (State.clearClaim_quiet _ _))).reconsider

theorem concealOp_upholds : Upholds s (concealOp body s).1 := by
  unfold concealOp
  split
  · exact .refl s
  · split
    · exact .refl s
    · rename_i past
      split
      · exact .refl s
      · rename_i n _ conceals
        have off : s.re.cell n ≠ .concealed .line := fun line => by
          rw [line] at conceals
          exact conceals rfl
        exact (s.withdraw_upholds (not_le.1 past) rfl (by decide) off).reconsider

theorem forgiveOp_upholds : Upholds s (forgiveOp body s).1 := by
  unfold forgiveOp
  split
  · exact .refl s
  · rename_i u _
    split
    · exact .refl s
    · split
      · exact .refl s
      · rename_i listed
        refine Upholds.reconsider (.of_leads fun maps _ start => s.giveBack_leads (fun h => ?_) start)
        have found : (s.re.entry u).isSome := by simpa [Option.isSome_iff_ne_none] using listed
        obtain ⟨e, on, same⟩ := List.find?_isSome.1 found
        exact of_decide_eq_true same ▸ (start.agree h).2.2.1 e on

theorem reviveDieOp_upholds : Upholds s (reviveDieOp body s).1 := by
  unfold reviveDieOp
  split
  · exact .refl s
  · split
    · exact .refl s
    · rename_i past
      split
      · exact .refl s
      · rename_i dead
        have revived : Upholds s _ := .of_leads fun _ _ => s.reviveDie_leads (not_not.1 dead) (not_le.1 past)
        exact (revived.trans (.of_quiet (State.clearClaim_quiet _ _))).reconsider

theorem restoreChannelOp_upholds : Upholds s (restoreChannelOp body s).1 := by
  unfold restoreChannelOp
  split
  · exact .refl s
  · split
    · exact .refl s
    · rename_i past
      split
      · exact .refl s
      · rename_i failed
        exact Upholds.reconsider (.of_leads fun _ _ => s.restoreChannel_leads (not_not.1 failed) (not_le.1 past))

theorem holdLineOp_upholds : Upholds s (holdLineOp body s).1 := by
  unfold holdLineOp
  split
  · exact .refl s
  · split
    · exact .refl s
    · rename_i past
      split
      · exact .refl s
      · exact Upholds.reconsider (.of_leads fun _ _ => s.hold_leads fun _ => not_le.1 past)

theorem releaseLineOp_upholds : Upholds s (releaseLineOp body s).1 := by
  unfold releaseLineOp
  split
  · exact .refl s
  · split
    · exact .refl s
    · rename_i past
      split
      · exact .refl s
      · rename_i l _ opened
        have held : (s.re.line l).state = .held := by
          cases state : (s.re.line l).state with
          | normal => exact absurd state opened
          | held => rfl
        exact Upholds.reconsider (.of_leads fun _ _ => s.release_leads (not_le.1 past) held)

theorem setBudgetOp_upholds : Upholds s (setBudgetOp body s).1 := by
  unfold setBudgetOp
  split
  · exact .refl s
  · split
    · exact s.reconsider_upholds
    · split
      · exact .refl s
      · exact Upholds.reconsider (.of_leads fun _ _ => s.setBudget_leads _)

theorem startSurveyOp_upholds : Upholds s (startSurveyOp body s).1 := by
  unfold startSurveyOp
  repeat' split
  all_goals first
    | exact .refl s
    | exact .of_quiet (s.setSurvey_quiet _)

theorem stopSurveyOp_upholds : Upholds s (stopSurveyOp body s).1 := by
  refine s.emptyBody_upholds body ?_
  split
  · exact s.endSurvey_upholds _
  · exact .refl s

theorem readSenseOp_upholds : Upholds s (readSenseOp body s).1 := by
  unfold readSenseOp
  split
  · exact .refl s
  · exact .refl s
  · exact .of_quiet (s.withSu_quiet rfl rfl)
  · exact .refl s

theorem clearBaselinesOp_upholds : Upholds s (clearBaselinesOp body s).1 := by
  refine s.emptyBody_upholds body (.of_quiet (s.sense_quiet Measurement.dropped [] fun m => ?_))
  unfold Measurement.dropped
  split <;> rfl

theorem compactOp_upholds : Upholds s (compactOp body s).1 := by
  refine s.emptyBody_upholds body ?_
  split
  · exact s.withRj_upholds rfl
  · exact s.withRj_upholds rfl
  · exact s.withRj_upholds rfl
  all_goals exact .refl s

theorem clearOp_upholds : Upholds s (clearOp body s).1 := by
  have noted : ∀ (t : State) k n, Quiet t (t.setNotice k n) := fun _ _ _ => .of_same rfl rfl rfl rfl rfl rfl
  have cleared : ∀ (t : State) (p : Nat × Nat), Upholds t (t.clearKind p.1 p.2) := fun t p =>
    .of_quiet (.ite (.ite ((noted t _ _).trans (State.withCi_quiet _ _)) (noted t _ _)) (.ite (noted t _ _) (.refl t)))
  unfold clearOp
  split
  · exact .refl s
  · split
    · exact .refl s
    · exact .foldl _ cleared _ s

theorem resetOp_upholds (r : Request) : Upholds s (resetOp r s).1 := by
  refine s.emptyBody_upholds r.body ?_
  split
  · exact .refl s
  · exact .of_quiet (s.withClk_quiet _)

end

end Sys2Proof.Machine

end

section
/-! PROOFS. O5: the settings. -/

namespace Sys2Proof.Machine

/-! ## Settings (R82, R118, R143, R150, R166, R167) -/

/-- What a changed setting leaves, and what it reads as after (R143). -/
theorem State.changeSetting_frame (s : State) (n v : Nat) (persist : Bool) :
    (s.changeSetting n v persist).re = s.re ∧ (s.changeSetting n v persist).su = s.su ∧
      (s.changeSetting n v persist).pp = s.pp := by
  cases persist with
  | false => exact ⟨rfl, rfl, rfl⟩
  | true => exact ⟨State.imageChanged_re _ _ _ _, State.imageChanged_su _ _ _ _, State.imageChanged_pp _ _ _ _⟩

theorem State.changeSetting_setting (s : State) (n v : Nat) (persist : Bool) (j : Nat) :
    (s.changeSetting n v persist).setting j = if n = j then v else s.setting j := by
  have live : (s.changeSetting n v persist).live = Table.write Config.settingDefault s.live n v := by
    cases persist with
    | false => rfl
    | true => exact State.imageChanged_live _ _ _ _
  unfold State.setting
  rw [live]
  exact Table.read_write _ _ _ _ _

theorem State.changeSetting_storedSetting (s : State) (n v : Nat) (persist : Bool) (j : Nat) :
    (s.changeSetting n v persist).storedSetting j = if persist = true ∧ n = j then v else s.storedSetting j := by
  cases persist with
  | false => simp [State.changeSetting, State.setLive, State.storedSetting]
  | true =>
    have stored : (s.changeSetting n v true).stored = Table.write Config.settingDefault s.stored n v :=
      State.imageChanged_stored _ _ _ _
    unfold State.storedSetting
    rw [stored]
    simpa using Table.read_write Config.settingDefault s.stored n j v

theorem State.imageOf_of_setting (s : State) (n : Nat) : s.imageOf (settingSubject n) = .value (s.storedSetting n) := by
  have past : ¬19440 + n < 9216 ∧ ¬19440 + n < 18432 ∧ ¬19440 + n < 19200 ∧ ¬19440 + n < 19440 := by omega
  unfold State.imageOf settingSubject
  rw [if_neg past.1, if_neg past.2.1, if_neg past.2.2.1, if_neg past.2.2.2, Nat.add_sub_cancel_left]

theorem State.changeSetting_liveCounted {s : State} {n : Nat} (known : n < 43) (v : Nat) (persist : Bool)
    (counted : s.liveCounted) : (s.changeSetting n v persist).liveCounted := by
  have subject : settingSubject n < 19483 := by unfold settingSubject; omega
  have re := (s.changeSetting_frame n v persist).1
  refine State.liveCounted_of_subject subject (fun m off => ?_) ?_ counted
  · refine State.imageOf_congr m (fun _ => by rw [re]) (fun _ _ _ => by rw [re]) (fun _ _ _ => by rw [re])
      (fun _ _ _ => by rw [re]) fun i here => ?_
    have apart : ¬(persist = true ∧ n = i) := fun h => off (h.2 ▸ here)
    rw [State.changeSetting_storedSetting, if_neg apart]
  · rw [State.imageOf_of_setting, State.imageOf_of_setting, State.changeSetting_storedSetting]
    cases persist with
    | false =>
      simp only [Bool.false_eq_true, false_and, if_false, if_true]
      rfl
    | true =>
      simp only [and_self, if_true]
      exact State.imageChanged_liveImages _ _ _ _

/-- The values that SET and ASSIGN_ID accept keep the settings in range and the thermal limits apart (R150, R167). -/
theorem State.changeSetting_settingsInRange {s : State} {n v : Nat} {persist : Bool} (may : s.mayTakeValue n v persist = true)
    (inside : s.settingsInRange) : (s.changeSetting n v persist).settingsInRange := by
  obtain ⟨values, live, stored⟩ := inside
  unfold State.mayTakeValue at may
  rw [Bool.and_eq_true, Bool.and_eq_true, Bool.or_eq_true] at may
  obtain ⟨⟨range, limits⟩, limitsStored⟩ := may
  have apart : ∀ {warm hot : Nat}, limitsAgree n v warm hot = true → warm + 5 ≤ hot →
      (if n = 20 then v else warm) + 5 ≤ if n = 21 then v else hot := fun agree before => by
    unfold limitsAgree Setting.warmLimit Setting.hotLimit at agree
    by_cases warm : n = 20
    · subst warm
      simpa using agree
    · by_cases hot : n = 21
      · subst hot
        simpa using agree
      · simpa [warm, hot] using before
  refine ⟨fun i known => ?_, ?_, ?_⟩
  · rw [State.changeSetting_setting, State.changeSetting_storedSetting]
    have before := values i known
    constructor
    · split
      · rename_i here
        exact here ▸ range
      · exact before.1
    · split
      · rename_i here
        exact here.2 ▸ range
      · exact before.2
  · rw [State.changeSetting_setting, State.changeSetting_setting]
    exact apart limits live
  · rw [State.changeSetting_storedSetting, State.changeSetting_storedSetting]
    cases persist with
    | false => simpa using stored
    | true =>
      simp only [true_and]
      exact apart (limitsStored.resolve_left (by simp)) stored

/-- All but the law of the list is upheld by a change of a setting; the law too when it is not CONFIRM THRESHOLD. -/
theorem State.changeSetting_upholds {s : State} {n v : Nat} {persist : Bool} (known : n < 43) (other : n ≠ 13)
    (may : s.mayTakeValue n v persist = true) : Upholds s (s.changeSetting n v persist) where
  agree agree := (s.changeSetting_frame n v persist).1 ▸ agree
  range _ range := by
    obtain ⟨re, su, _⟩ := s.changeSetting_frame n v persist
    obtain ⟨repair, stored, sense⟩ := (State.inRange_iff s).1 range
    refine (State.inRange_iff _).2 ⟨re ▸ repair, fun i past => ?_, su ▸ sense⟩
    have off : n ≠ i := by omega
    rw [State.changeSetting_storedSetting, if_neg fun h => off h.2, stored i past]
  tallied _ _ tallied := (s.changeSetting_frame n v persist).1 ▸ tallied
  counted _ _ := State.changeSetting_liveCounted known v persist
  settings := State.changeSetting_settingsInRange may
  law _ _ lawful := by
    unfold State.suspectsLawful
    rw [(s.changeSetting_frame n v persist).1, State.changeSetting_setting, if_neg other]
    exact lawful
  routes law := by
    obtain ⟨re, _, pp⟩ := s.changeSetting_frame n v persist
    exact State.routesLaw_congr (fun _ => by rw [re]) (fun _ => by rw [re]) (by rw [pp]) (by rw [pp]) (by rw [pp]) law

/-- SET of CONFIRM THRESHOLD: the law goes from the threshold before to the new one (R82). -/
theorem State.setThreshold_upholds {s : State} {v : Nat} {persist : Bool} (may : s.mayTakeValue 13 v persist = true) :
    Upholds s ((s.changeSetting 13 v persist).newThreshold (s.setting 13) v) := by
  obtain ⟨re, su, pp⟩ := s.changeSetting_frame 13 v persist
  have now : (s.changeSetting 13 v persist).setting 13 = v := by rw [State.changeSetting_setting, if_pos rfl]
  have range : s.inRange → (s.changeSetting 13 v persist).inRange := fun range => by
    obtain ⟨repair, stored, sense⟩ := (State.inRange_iff s).1 range
    refine (State.inRange_iff _).2 ⟨re ▸ repair, fun i past => ?_, su ▸ sense⟩
    have off : 13 ≠ i := by omega
    rw [State.changeSetting_storedSetting, if_neg fun h => off h.2, stored i past]
  have keeps : ∀ maps numbers, Sound maps numbers (s.changeSetting 13 v persist) → _ := fun maps numbers =>
    (s.changeSetting 13 v persist).newThreshold_keeps (maps := maps) (numbers := numbers) (s.setting 13)
  rw [now] at keeps
  have bare := (keeps False False ⟨id, False.elim, False.elim⟩).2.1
  have mapped := fun agree : s.re.consistent => keeps True False ⟨fun _ => trivial, fun _ => re ▸ agree, False.elim⟩
  have ranged := fun (agree : s.re.consistent) (inRange : s.inRange) =>
    (keeps True True ⟨id, fun _ => re ▸ agree, fun _ => range inRange⟩).2.1
  refine ⟨fun agree => (mapped agree).1 trivial, fun agree inRange => (ranged agree inRange).inRange trivial (range inRange),
    fun agree inRange tallied => (ranged agree inRange).tallied trivial (re ▸ tallied),
    fun agree inRange counted => (ranged agree inRange).liveCounted trivial
      (State.changeSetting_liveCounted (by decide) v persist counted),
    fun inside => State.settingsInRange_congr bare.live.1 bare.live.2 (State.changeSetting_settingsInRange may inside),
    fun agree inside lawful => ?_, fun law => bare.routesLaw ?_⟩
  · have threshold : 2 ≤ (s.changeSetting 13 v persist).setting 13 :=
      (State.changeSetting_settingsInRange may inside).threshold
    have under : (s.changeSetting 13 v persist).lawfulUnder (s.setting 13) := by
      unfold State.lawfulUnder
      rw [re]
      exact lawful
    rw [State.suspectsLawful_iff (by rw [State.setting_congr bare.live.1]; exact threshold)]
    exact (mapped agree).2.2 trivial (now ▸ threshold) under
  · exact State.routesLaw_congr (fun _ => by rw [re]) (fun _ => by rw [re]) (by rw [pp]) (by rw [pp]) (by rw [pp]) law

theorem cLines_lt : ∀ l ∈ cLines, l < 240 := fun l on => by
  have := List.mem_range.1 on
  omega

theorem rLines_lt : ∀ l ∈ rLines, l < 240 := fun l on => by
  obtain ⟨i, small, rfl⟩ := List.mem_map.1 on
  have := List.mem_range.1 small
  omega

theorem State.newLimit_upholds (s : State) {lines : List Nat} (known : ∀ l ∈ lines, l < 240) :
    Upholds s (s.newLimit lines) := .of_leads fun _ _ => s.newLimit_leads known

/-- What a new live value does beside a new CONFIRM THRESHOLD. -/
theorem State.settingEffect_upholds (s : State) {n : Nat} (other : n ≠ 13) (old v : Nat) :
    Upholds s (s.settingEffect n old v) := by
  refine .ite (fun threshold => absurd threshold other) fun _ => ?_
  refine .ite (fun _ => .ite (fun _ => (s.newLimit_upholds cLines_lt).reconsider) fun _ => .refl s) fun _ => ?_
  refine .ite (fun _ => .ite (fun _ => (s.newLimit_upholds rLines_lt).reconsider) fun _ => .refl s) fun _ => ?_
  refine .ite (fun _ => s.reconsider_upholds) fun _ => ?_
  exact .ite (fun _ => .of_quiet (s.withCi_quiet _)) fun _ => .refl s

theorem setOp_upholds (s : State) (body : List Byte) : Upholds s (setOp body s).1 := by
  unfold setOp
  split
  · exact .refl s
  · rename_i n v persist _
    split
    · exact .refl s
    · rename_i known
      split
      · exact .refl s
      · split
        · exact .refl s
        · rename_i accepted
          have may : s.mayTakeValue n v (decide (persist = 1)) = true := by
            cases value : s.mayTakeValue n v (decide (persist = 1)) with
            | true => rfl
            | false => exact absurd (by rw [value]; rfl) accepted
          by_cases threshold : n = 13
          · subst threshold
            exact (State.setThreshold_upholds may).reconsider
          · exact (State.changeSetting_upholds (not_le.1 known) threshold may).trans
              (State.settingEffect_upholds _ threshold _ _)

theorem assignIdOp_upholds (s : State) (body : List Byte) : Upholds s (assignIdOp body s).1 := by
  unfold assignIdOp
  split
  · exact .refl s
  · split
    · exact .refl s
    · rename_i v _ accepted
      have range : Config.settingInRange 23 v = true := by
        unfold Config.settingInRange
        rw [Bool.and_eq_true]
        exact ⟨decide_eq_true (Nat.zero_le _), decide_eq_true (not_lt.1 fun high => accepted (.inr high))⟩
      have may : s.mayTakeValue 23 v true = true := by
        unfold State.mayTakeValue
        rw [range]
        rfl
      exact State.changeSetting_upholds (by decide) (by decide) may

end Sys2Proof.Machine

end

section
/-! PROOFS. O5: what replay has read. -/

namespace Sys2Proof.Machine

/-! ## What replay has read (R141) -/

/-- A table built from the values of some numbers reads as those values there, and as the default elsewhere. -/
theorem Table.read_build {α : Type} [DecidableEq α] (d : Nat → α) (numbers : List Nat) (f : Nat → α) (k : Nat) :
    Table.read d (Table.build d numbers f) k = if k ∈ numbers then f k else d k := by
  have generally : ∀ t : Table α, Table.read d (numbers.foldl (fun t n => Table.write d t n (f n)) t) k =
      if k ∈ numbers then f k else Table.read d t k := by
    induction numbers with
    | nil => intro t; simp
    | cons n rest ih =>
      intro t
      rw [List.foldl_cons, ih, Table.read_write]
      by_cases here : n = k
      · simp [here]
      · simp [here, Ne.symm here]
  exact generally []

/-- A number that reads as something else than its default is listed. -/
theorem Table.listed_of_read {α : Type} {d : Nat → α} {t : Table α} {k : Nat} (changed : Table.read d t k ≠ d k) :
    ∃ e ∈ t, e.1 = k := by
  by_contra unlisted
  exact changed (Table.read_of_not_mem fun e on same => unlisted ⟨e, on, same⟩)

/-- The images that replay has set fit their subjects, and no two of them come from one slot; those set so far come from the
slots below `slot`. -/
structure Replayed.Sorted (r : Replayed) (slot : Nat) : Prop where
  fits : ∀ n, Replayed.image r n ≠ factoryImage n → imageFits n (Replayed.image r n) = true
  below : ∀ n, Replayed.image r n ≠ factoryImage n → Replayed.slot r n < slot
  once : ∀ n m, Replayed.image r n ≠ factoryImage n → Replayed.image r m ≠ factoryImage m →
    Replayed.slot r n = Replayed.slot r m → n = m

theorem Replayed.read_write (r : Replayed) (subject : Nat) (image : Image) (slot n : Nat) :
    Replayed.image (Table.write (fun n => (factoryImage n, 0)) r subject (image, slot)) n =
        (if subject = n then image else Replayed.image r n) ∧
      Replayed.slot (Table.write (fun n => (factoryImage n, 0)) r subject (image, slot)) n =
        if subject = n then slot else Replayed.slot r n := by
  unfold Replayed.image Replayed.slot
  rw [Table.read_write]
  split <;> exact ⟨rfl, rfl⟩

theorem Replayed.Sorted.mono {r : Replayed} {slot later : Nat} (sorted : r.Sorted slot) (order : slot ≤ later) :
    r.Sorted later := ⟨sorted.fits, fun n set => (sorted.below n set).trans_le order, sorted.once⟩

theorem Replayed.Sorted.apply {r : Replayed} {slot : Nat} (sorted : r.Sorted slot) (x : Slot) :
    (Replayed.apply r x slot).Sorted (slot + 1) := by
  have skipped := sorted.mono (Nat.le_succ slot)
  unfold Replayed.apply
  cases x with
  | torn => exact skipped
  | marked subject image check =>
    dsimp only
    split
    · rename_i good
      have read := Replayed.read_write r subject image slot
      refine ⟨fun n set => ?_, fun n set => ?_, fun n m set set' same => ?_⟩
      · rw [(read n).1] at set ⊢
        split at set
        · rename_i here
          rw [if_pos here, ← here]
          exact good.2
        · rename_i apart
          rw [if_neg apart]
          exact sorted.fits n set
      · rw [(read n).1] at set
        rw [(read n).2]
        split at set
        · rename_i here
          rw [if_pos here]
          exact Nat.lt_succ_self slot
        · rename_i apart
          rw [if_neg apart]
          exact skipped.below n set
      · rw [(read n).1] at set
        rw [(read m).1] at set'
        rw [(read n).2, (read m).2] at same
        by_cases here : subject = n <;> by_cases there : subject = m
        · exact here.symm.trans there
        · rw [if_neg there] at set' same
          rw [if_pos here] at same
          exact absurd same (sorted.below m set').ne'
        · rw [if_neg here] at set same
          rw [if_pos there] at same
          exact absurd same (sorted.below n set).ne
        · rw [if_neg here] at set same
          rw [if_neg there] at set' same
          exact sorted.once n m set set' same
    · exact skipped

theorem Replayed.Sorted.applyAll {r : Replayed} (slots : List Slot) {slot : Nat} (sorted : r.Sorted slot) :
    ∃ last, (r.applyAll slot slots).Sorted last := by
  induction slots generalizing r slot with
  | nil => exact ⟨slot, sorted⟩
  | cons x rest ih => exact ih (sorted.apply x)

/-- What a replay of the active bank has read (R141). -/
theorem Journal.replay_sorted (j : Journal) : ∃ last, j.replay.Sorted last :=
  Replayed.Sorted.applyAll (r := []) (slot := 0) j.activeSlots
    ⟨fun _ set => absurd rfl set, fun _ set => absurd rfl set, fun _ _ set => absurd rfl set⟩

/-! ## What reconciliation makes of it (R142) -/

theorem factoryImage_of_cell {n : Nat} (cell : n < 9216) : factoryImage n = .healthy := if_pos cell

theorem factoryImage_of_die {n : Nat} (cell : n < 9216) : factoryImage (dieSubject n) = .usable := by
  have past : ¬9216 + n < 9216 := by omega
  have die : 9216 + n < 18432 := by omega
  unfold factoryImage dieSubject
  rw [if_neg past, if_pos die]

theorem factoryImage_of_channel {k : Nat} (channel : k < 768) : factoryImage (channelSubject k) = .free := by
  have past : ¬18432 + k < 9216 ∧ ¬18432 + k < 18432 := by omega
  have here : 18432 + k < 19200 := by omega
  unfold factoryImage channelSubject
  rw [if_neg past.1, if_neg past.2, if_pos here]

theorem factoryImage_of_line {l : Nat} (line : l < 240) : factoryImage (lineSubject l) = .normal := by
  have past : ¬19200 + l < 9216 ∧ ¬19200 + l < 18432 ∧ ¬19200 + l < 19200 := by omega
  have here : 19200 + l < 19440 := by omega
  unfold factoryImage lineSubject
  rw [if_neg past.1, if_neg past.2.1, if_neg past.2.2, if_pos here]

/-- The numbers of a kind that replay has set: every one whose image is not the factory image, and only numbers of the
kind. -/
theorem Replayed.numbers_lt {r : Replayed} {first count n : Nat} (on : n ∈ r.numbers first count) : n < count := by
  obtain ⟨e, listed, rfl⟩ := List.mem_map.1 on
  have range := (List.mem_filter.1 listed).2
  rw [Bool.and_eq_true] at range
  have low := of_decide_eq_true range.1
  have high := of_decide_eq_true range.2
  omega

theorem Replayed.mem_numbers {r : Replayed} {first count n : Nat} (kind : n < count)
    (set : Replayed.image r (first + n) ≠ factoryImage (first + n)) : n ∈ r.numbers first count := by
  obtain ⟨e, listed, subject⟩ := Table.listed_of_read (d := fun k => (factoryImage k, 0)) (t := r) (k := first + n)
    fun same => set (congrArg Prod.fst same)
  refine List.mem_map.2 ⟨e, List.mem_filter.2 ⟨listed, ?_⟩, by omega⟩
  have low : first ≤ e.1 := by omega
  have high : e.1 < first + count := by omega
  rw [decide_eq_true low, decide_eq_true high]
  rfl

theorem Replayed.mem_cells {r : Replayed} {n : Nat} (cell : n < 9216) (set : Replayed.image r n ≠ .healthy) :
    n ∈ Replayed.cells r :=
  Replayed.mem_numbers (first := 0) cell (by rw [Nat.zero_add, factoryImage_of_cell cell]; exact set)

theorem Replayed.cells_lt {r : Replayed} {n : Nat} (on : n ∈ Replayed.cells r) : n < 9216 := Replayed.numbers_lt on

theorem Replayed.mem_heldLines {r : Replayed} (l : Nat) :
    l ∈ Replayed.heldLines r ↔ l < 240 ∧ Replayed.held r l = true := by
  constructor
  · intro on
    obtain ⟨listed, held⟩ := List.mem_filter.1 on
    exact ⟨Replayed.numbers_lt listed, held⟩
  · rintro ⟨line, held⟩
    refine List.mem_filter.2 ⟨Replayed.mem_numbers line ?_, held⟩
    have image : Replayed.image r (19200 + l) = .held := of_decide_eq_true held
    rw [image, show factoryImage (19200 + l) = .normal from factoryImage_of_line line]
    exact nofun

section

variable {r : Replayed} {last : Nat} (sorted : r.Sorted last)
include sorted

/-- A SPARED record names a channel of its cell's group (R12, R141). -/
theorem Replayed.Sorted.spared {n c : Nat} (cell : n < 9216) (image : Replayed.image r n = .spared c) :
    c < 768 ∧ groupOfChannel c = groupOf n := by
  have fits := sorted.fits n (by rw [image, factoryImage_of_cell cell]; exact nofun)
  unfold imageFits at fits
  rw [if_pos cell, image] at fits
  dsimp only at fits
  rw [Bool.and_eq_true] at fits
  exact ⟨of_decide_eq_true fits.1, of_decide_eq_true fits.2⟩

/-- No record of a cell has the reason LINE (R141). -/
theorem Replayed.Sorted.concealed {n : Nat} (cell : n < 9216) : Replayed.image r n ≠ .concealed .line := fun image => by
  have fits := sorted.fits n (by rw [image, factoryImage_of_cell cell]; exact nofun)
  unfold imageFits at fits
  rw [if_pos cell, image] at fits
  cases fits

/-- One cell at most is still SPARED on a channel: an earlier record of it is overtaken (R142, step 1). -/
theorem Replayed.Sorted.alone {n m c : Nat} (cell : n < 9216) (cell' : m < 9216)
    (spared : Replayed.firstState r n = .spared c) (spared' : Replayed.firstState r m = .spared c) : n = m := by
  have own : ∀ {j : Nat}, Replayed.firstState r j = .spared c →
      Replayed.image r j = .spared c ∧ Replayed.overtaken r j c = false := fun {j} state => by
    unfold Replayed.firstState at state
    split at state
    · rename_i c' image
      split at state
      · cases state
      · rename_i free
        cases state
        exact ⟨image, Bool.eq_false_iff.2 fun h => free (.inr (.inr h))⟩
    all_goals cases state
  obtain ⟨image, first⟩ := own spared
  obtain ⟨image', first'⟩ := own spared'
  have overtakes : ∀ {i j : Nat}, j < 9216 → Replayed.image r j = .spared c → Replayed.overtaken r i c = false →
      Replayed.slot r j ≤ Replayed.slot r i := fun {i j} inside record not => by
    by_contra later
    have listed : j ∈ Replayed.cells r := Replayed.mem_cells inside (by rw [record]; exact nofun)
    have found : Replayed.overtaken r i c = true := List.any_eq_true.2 ⟨j, listed, by
      rw [decide_eq_true record, decide_eq_true (not_le.1 later)]
      rfl⟩
    rw [found] at not
    cases not
  refine sorted.once n m ?_ ?_ (le_antisymm (overtakes cell image first') (overtakes cell' image' first))
  · rw [image, factoryImage_of_cell cell]
    exact nofun
  · rw [image', factoryImage_of_cell cell']
    exact nofun

end

end Sys2Proof.Machine

end

section
/-! PROOFS. O5: the tables after reconciliation. -/

namespace Sys2Proof.Machine

/-! ## The tables after reconciliation (R142) -/

/-- A cell whose two lines are NORMAL and whose image is the factory image is HEALTHY. -/
theorem Replayed.cellState_of_factory {r : Replayed} {n : Nat} (image : Replayed.image r n = .healthy)
    (open' : Replayed.held r (cLineOf n) = false ∧ Replayed.held r (rLineOf n) = false) :
    Replayed.cellState r n = .healthy := by
  unfold Replayed.cellState
  rw [open'.1, open'.2]
  unfold Replayed.firstState
  rw [image]
  rfl

/-- The states that reconciliation gives a cell (R142). -/
theorem Replayed.cellState_cases (r : Replayed) (n : Nat) :
    Replayed.cellState r n = .healthy ∨ (∃ reason, Replayed.cellState r n = .concealed reason) ∨
      ∃ c, Replayed.cellState r n = .spared c ∧ Replayed.firstState r n = .spared c := by
  unfold Replayed.cellState
  split
  · exact .inr (.inl ⟨_, rfl⟩)
  · unfold Replayed.firstState
    split
    · split
      · exact .inr (.inl ⟨_, rfl⟩)
      · exact .inr (.inr ⟨_, rfl, rfl⟩)
    · exact .inr (.inl ⟨_, rfl⟩)
    all_goals exact .inl rfl

/-- A cell that reconciliation leaves SPARED has a SPARED record in force, on a channel and with a die that work. -/
theorem Replayed.firstState_spared {r : Replayed} {n c : Nat} (state : Replayed.firstState r n = .spared c) :
    Replayed.image r n = .spared c ∧ Replayed.image r (dieSubject n) ≠ .dead := by
  unfold Replayed.firstState at state
  split at state
  · rename_i c' image
    split at state
    · cases state
    · rename_i free
      cases state
      exact ⟨image, fun dead => free (.inr (.inl dead))⟩
  all_goals cases state

theorem Replayed.cellState_spared {r : Replayed} {n c : Nat} (state : Replayed.cellState r n = .spared c) :
    Replayed.firstState r n = .spared c := by
  rcases r.cellState_cases n with healthy | ⟨reason, concealed⟩ | ⟨c', spared, first⟩
  · rw [healthy] at state
    cases state
  · rw [concealed] at state
    cases state
  · rw [spared] at state
    cases state
    exact first

theorem Replayed.cellState_channel {r : Replayed} {n c : Nat} (named : (Replayed.cellState r n).channel = some c) :
    Replayed.cellState r n = .spared c := by
  rcases r.cellState_cases n with state | ⟨reason, state⟩ | ⟨c', state, _⟩ <;> rw [state] at named ⊢ <;> cases named
  rfl

/-- The cells that have to be listed are those of the wall that replay has set or that lie on a HELD line. -/
theorem Replayed.mem_listedCells {r : Replayed} {n : Nat}
    (on : n ∈ Replayed.cells r ++ (Replayed.heldLines r).flatMap lineCells) : n < 9216 := by
  rcases List.mem_append.1 on with set | held
  · exact Replayed.cells_lt set
  · obtain ⟨l, line, crosses⟩ := List.mem_flatMap.1 held
    exact lineCells_lt ((Replayed.mem_heldLines l).1 line).1 crosses

theorem Replayed.tables_cell (r : Replayed) (budget n : Nat) :
    (Replayed.tables r budget).cell n = if n < 9216 then Replayed.cellState r n else .healthy := by
  refine (Table.read_build _ _ _ n).trans ?_
  split
  · rename_i listed
    rw [if_pos (Replayed.mem_listedCells listed)]
  · rename_i unlisted
    split
    · rename_i cell
      have low := cLineOf_lt n
      have high := (rLineOf_lt cell).2
      have set : Replayed.image r n = .healthy := by
        by_contra changed
        exact unlisted (List.mem_append_left _ (Replayed.mem_cells cell changed))
      have closed : ∀ l, l < 240 → n ∈ lineCells l → Replayed.held r l = false := fun l line on => by
        by_contra held
        exact unlisted (List.mem_append_right _ (List.mem_flatMap.2
          ⟨l, (Replayed.mem_heldLines l).2 ⟨line, Bool.eq_true_of_not_eq_false held⟩, on⟩))
      have lines : cLineOf n < 240 := by omega
      exact (Replayed.cellState_of_factory set
        ⟨closed _ lines ((mem_lineCells _ n lines cell).2 (.inl rfl)),
          closed _ high ((mem_lineCells _ n high cell).2 (.inr rfl))⟩).symm
    · rfl

theorem Replayed.tables_die (r : Replayed) (budget n : Nat) :
    (Replayed.tables r budget).die n = if n < 9216 then Replayed.dieState r n else .untried := by
  refine (Table.read_build _ _ _ n).trans ?_
  split
  · rename_i listed
    rw [if_pos]
    rcases List.mem_append.1 listed with on | on
    · exact Replayed.cells_lt on
    · exact Replayed.numbers_lt on
  · rename_i unlisted
    split
    · rename_i cell
      have usable : Replayed.image r (dieSubject n) ≠ .dead := fun dead =>
        unlisted (List.mem_append_right _ (Replayed.mem_numbers cell (by
          rw [show 9216 + n = dieSubject n from rfl, dead, factoryImage_of_die cell]
          exact nofun)))
      have bare : ∀ c, Replayed.cellState r n ≠ .spared c := fun c state => by
        have image := (Replayed.firstState_spared (Replayed.cellState_spared state)).1
        exact unlisted (List.mem_append_left _ (Replayed.mem_cells cell (by rw [image]; exact nofun)))
      unfold Replayed.dieState
      rw [if_neg usable]
      split
      · rename_i c state
        exact absurd state (bare c)
      all_goals rfl
    · rfl

theorem Replayed.tables_line (r : Replayed) (budget l : Nat) :
    (Replayed.tables r budget).line l =
      if l < 240 ∧ Replayed.held r l = true then ⟨.held, 0, 0⟩ else ⟨.normal, 0, 0⟩ := by
  refine (Table.read_build _ _ _ l).trans ?_
  simp only [Replayed.mem_heldLines]

theorem Replayed.boundCell_state {r : Replayed} {c n : Nat} (bound : Replayed.boundCell r c = some n) :
    n < 9216 ∧ Replayed.cellState r n = .spared c :=
  ⟨Replayed.cells_lt (List.mem_of_find?_eq_some bound),
    of_decide_eq_true (List.find?_some (p := fun n => decide (Replayed.cellState r n = .spared c)) bound)⟩

section

variable {r : Replayed} {last : Nat} (sorted : r.Sorted last)
include sorted

/-- The cell that a channel is bound to is the cell of the wall that reconciliation leaves SPARED on it. -/
theorem Replayed.Sorted.boundCell_iff (c n : Nat) :
    Replayed.boundCell r c = some n ↔ n < 9216 ∧ Replayed.cellState r n = .spared c := by
  have listed : ∀ {m}, m < 9216 → Replayed.cellState r m = .spared c → m ∈ Replayed.cells r := fun {m} cell state => by
    have image := (Replayed.firstState_spared (Replayed.cellState_spared state)).1
    exact Replayed.mem_cells cell (by rw [image]; exact nofun)
  constructor
  · exact Replayed.boundCell_state
  · rintro ⟨cell, state⟩
    cases found : Replayed.boundCell r c with
    | none => exact absurd (decide_eq_true state) (List.find?_eq_none.1 found n (listed cell state))
    | some m =>
      obtain ⟨inside, first⟩ := Replayed.boundCell_state found
      rw [sorted.alone inside cell (Replayed.cellState_spared first) (Replayed.cellState_spared state)]

theorem Replayed.Sorted.tables_channel (budget c : Nat) :
    (Replayed.tables r budget).channel c = if c < 768 then ⟨Replayed.channelState r c, 0⟩ else ⟨.free, 0⟩ := by
  refine (Table.read_build _ _ _ c).trans ?_
  have bound : ∀ {n}, n < 9216 → Replayed.cellState r n = .spared c → c < 768 ∧ c ∈ Replayed.channels r :=
    fun {n} cell state => by
      have image := (Replayed.firstState_spared (Replayed.cellState_spared state)).1
      refine ⟨(sorted.spared cell image).1, List.mem_append_right _ (List.mem_filterMap.2 ⟨n, ?_, by rw [state]; rfl⟩)⟩
      exact Replayed.mem_cells cell (by rw [image]; exact nofun)
  split
  · rename_i listed
    rw [if_pos]
    rcases List.mem_append.1 listed with on | on
    · exact Replayed.numbers_lt on
    · obtain ⟨n, set, named⟩ := List.mem_filterMap.1 on
      exact (bound (Replayed.cells_lt set) (Replayed.cellState_channel named)).1
  · rename_i unlisted
    split
    · rename_i channel
      have none : Replayed.boundCell r c = none := by
        cases found : Replayed.boundCell r c with
        | none => rfl
        | some n =>
          obtain ⟨cell, state⟩ := (sorted.boundCell_iff c n).1 found
          exact absurd (bound cell state).2 unlisted
      have works : Replayed.image r (channelSubject c) ≠ .failed := fun failed =>
        unlisted (List.mem_append_left _ (Replayed.mem_numbers channel (by
          rw [show 18432 + c = channelSubject c from rfl, failed, factoryImage_of_channel channel]
          exact nofun)))
      unfold Replayed.channelState
      rw [none]
      dsimp only
      rw [if_neg works]
    · rfl

theorem Replayed.Sorted.channel_bound (budget c n : Nat) :
    ((Replayed.tables r budget).channel c).state = .bound n ↔ n < 9216 ∧ Replayed.cellState r n = .spared c := by
  rw [← sorted.boundCell_iff, sorted.tables_channel]
  constructor
  · intro state
    split at state
    · unfold Replayed.channelState at state
      split at state
      · rename_i m found
        cases state
        exact found
      · split at state <;> cases state
    · cases state
  · intro found
    obtain ⟨cell, state⟩ := (sorted.boundCell_iff c n).1 found
    have channel := (sorted.spared cell (Replayed.firstState_spared (Replayed.cellState_spared state)).1).1
    rw [if_pos channel]
    unfold Replayed.channelState
    rw [found]

theorem Replayed.Sorted.channel_other (budget c n : Nat) :
    ((Replayed.tables r budget).channel c).state ≠ .proving n ∧
      ((Replayed.tables r budget).channel c).state ≠ .recording n := by
  rw [sorted.tables_channel]
  split
  · unfold Replayed.channelState
    split
    · exact ⟨nofun, nofun⟩
    · split <;> exact ⟨nofun, nofun⟩
  · exact ⟨nofun, nofun⟩

/-- The reconciled maps agree. -/
theorem Replayed.Sorted.consistent (budget : Nat) : (Replayed.tables r budget).consistent := by
  have pending : ∀ n phase k, (Replayed.tables r budget).cell n ≠ .pendingSpare phase k := fun n phase k state => by
    rw [Replayed.tables_cell] at state
    split at state
    · rcases r.cellState_cases n with own | ⟨reason, own⟩ | ⟨c, own, _⟩ <;> rw [own] at state <;> cases state
    · cases state
  refine ⟨fun n k => ⟨?_, ?_, ?_⟩, nofun, nofun, fun l held n on => ?_, fun n dead => ?_⟩
  · exact iff_of_false (pending n _ k) (sorted.channel_other budget k n).1
  · exact iff_of_false (pending n _ k) (sorted.channel_other budget k n).2
  · rw [sorted.channel_bound, Replayed.tables_cell]
    split
    · rename_i cell
      exact ⟨fun state => ⟨cell, state⟩, And.right⟩
    · rename_i past
      exact iff_of_false nofun fun h => past h.1
  · rw [Replayed.tables_line] at held
    split at held
    · rename_i line
      have cell := lineCells_lt line.1 on
      rw [Replayed.tables_cell, if_pos cell]
      unfold Replayed.cellState
      rcases (mem_lineCells l n line.1 cell).1 on with here | here <;> rw [← here, line.2] <;> simp
    · cases held
  · rw [Replayed.tables_die] at dead
    split at dead
    · rename_i cell
      rw [Replayed.tables_cell, if_pos cell]
      rcases r.cellState_cases n with own | ⟨reason, own⟩ | ⟨c, own, first⟩
      · rw [own]
        rfl
      · rw [own]
        rfl
      · unfold Replayed.dieState at dead
        rw [if_neg (Replayed.firstState_spared first).2, own] at dead
        cases dead
    · cases dead

theorem Replayed.Sorted.ranged (budget : Nat) : (Replayed.tables r budget).ranged := by
  refine ⟨fun n past => ?_, fun k past => ?_, fun l past => ?_, fun n k named => ?_⟩
  · rw [Replayed.tables_cell, Replayed.tables_die, if_neg (not_lt.2 past), if_neg (not_lt.2 past)]
    exact ⟨rfl, rfl⟩
  · rw [sorted.tables_channel, if_neg (not_lt.2 past)]
  · rw [Replayed.tables_line, if_neg fun h => (not_lt.2 past) h.1]
  · rw [Replayed.tables_cell] at named
    split at named
    · rename_i cell
      have first := Replayed.cellState_spared (Replayed.cellState_channel named)
      exact (sorted.spared cell (Replayed.firstState_spared first).1).2
    · cases named

end

/-- No unit is in doubt after reconciliation. -/
theorem Replayed.tables_clear (r : Replayed) (budget : Nat) (u : UnitId) :
    ¬(Replayed.tables r budget).isSuspected u ∧ ¬(Replayed.tables r budget).isCondemned u := by
  obtain ⟨side, n⟩ := u
  unfold RepairEngine.isSuspected RepairEngine.isCondemned
  cases side with
  | primary =>
    dsimp only
    rw [Replayed.tables_cell]
    split
    · rcases r.cellState_cases n with own | ⟨reason, own⟩ | ⟨c, own, _⟩ <;> rw [own] <;> exact ⟨nofun, nofun⟩
    · exact ⟨nofun, nofun⟩
  | spare =>
    dsimp only
    rw [Replayed.tables_die]
    split
    · unfold Replayed.dieState
      split
      · exact ⟨nofun, nofun⟩
      · split <;> exact ⟨nofun, nofun⟩
    · exact ⟨nofun, nofun⟩

end Sys2Proof.Machine

end

section
/-! PROOFS. O5: the tallies and the live image count after reconciliation. -/

namespace Sys2Proof.Machine

/-! ## The tallies and the live image count after reconciliation (R116, R127, R142) -/

/-- A counted cell of the table adds one to the tallies of both of its lines. -/
def State.tallyEntry (t : State) (e : Nat × CellState) : State :=
  if e.2.counted then (t.moveTally (cLineOf e.1) true).moveTally (rLineOf e.1) true else t

theorem State.computeTallies_eq (s : State) : s.computeTallies = s.re.cells.foldl State.tallyEntry s := rfl

theorem State.tallyEntry_frame (t : State) (e : Nat × CellState) :
    t.tallyEntry e = t.withRe { t.re with lines := (t.tallyEntry e).re.lines } := by
  unfold State.tallyEntry
  split <;> rfl

theorem State.tallyEntry_line (t : State) (e : Nat × CellState) (l : Nat) :
    (t.tallyEntry e).re.line l = { t.re.line l with
      tally := (t.re.line l).tally + if e.2.counted ∧ (l = cLineOf e.1 ∨ l = rLineOf e.1) then 1 else 0 } := by
  have apart := cLineOf_ne_rLineOf e.1
  unfold State.tallyEntry
  cases e.2.counted with
  | false => simp
  | true =>
    simp only [if_true, true_and, State.moveTally_line]
    by_cases atC : l = cLineOf e.1
    · subst atC
      simp [apart.symm]
    · by_cases atR : l = rLineOf e.1
      · subst atR
        simp [apart]
      · simp [atC, atR, Ne.symm atC, Ne.symm atR]

/-- The tallies after a list of entries: each line's own, with one for each counted entry on it. -/
theorem State.tallyEntries (entries : List (Nat × CellState)) (t : State) :
    (entries.foldl State.tallyEntry t) = t.withRe { t.re with lines := (entries.foldl State.tallyEntry t).re.lines } ∧
      ∀ l, (entries.foldl State.tallyEntry t).re.line l = { t.re.line l with
        tally := (t.re.line l).tally + entries.countP fun e => e.2.counted && decide (l = cLineOf e.1 ∨ l = rLineOf e.1) } := by
  induction entries generalizing t with
  | nil => exact ⟨rfl, fun l => rfl⟩
  | cons e rest ih =>
    obtain ⟨frame, lines⟩ := ih (t.tallyEntry e)
    refine ⟨?_, fun l => ?_⟩
    · rw [List.foldl_cons]
      refine frame.trans ?_
      generalize (rest.foldl State.tallyEntry (t.tallyEntry e)).re.lines = counted
      rw [t.tallyEntry_frame e]
      rfl
    · rw [List.foldl_cons, lines l, State.tallyEntry_line, List.countP_cons]
      simp only [Bool.and_eq_true, decide_eq_true_eq]
      congr 1
      omega

theorem State.computeTallies_frame (s : State) :
    s.computeTallies = s.withRe { s.re with lines := s.computeTallies.re.lines } := (State.tallyEntries s.re.cells s).1

/-- In a canonical map the counted cells of a line are its counted entries. -/
theorem RepairEngine.countP_lineCells {r : RepairEngine} (canonical : Table.wf (fun _ => CellState.healthy) r.cells)
    (cells : ∀ n, 9216 ≤ n → r.cell n = .healthy) {l : Nat} (line : l < 240) :
    (lineCells l).countP (fun n => (r.cell n).counted) =
      r.cells.countP fun e => e.2.counted && decide (l = cLineOf e.1 ∨ l = rLineOf e.1) := by
  have same : ((lineCells l).filter fun n => (r.cell n).counted).Perm
      ((r.cells.filter fun e => e.2.counted && decide (l = cLineOf e.1 ∨ l = rLineOf e.1)).map (·.1)) := by
    refine (List.perm_ext_iff_of_nodup ((lineCells_nodup l).filter _) ?_).2 fun n => ?_
    · exact (List.pairwise_map.2 ((canonical.1.imp fun h => h.ne).filter _))
    · rw [List.mem_filter, List.mem_map]
      constructor
      · rintro ⟨on, counted⟩
        have cell := lineCells_lt line on
        have changed : r.cell n ≠ .healthy := fun healthy => by rw [healthy] at counted; cases counted
        obtain ⟨e, listed, here⟩ := Table.listed_of_read (d := fun _ => CellState.healthy) (t := r.cells) (k := n) changed
        have state : r.cell n = e.2 := here ▸ Table.read_of_mem canonical listed
        refine ⟨e, List.mem_filter.2 ⟨listed, ?_⟩, here⟩
        rw [← state, counted, here, decide_eq_true ((mem_lineCells l n line cell).1 on)]
        rfl
      · rintro ⟨e, listed, rfl⟩
        obtain ⟨listed, counted⟩ := List.mem_filter.1 listed
        rw [Bool.and_eq_true] at counted
        have cell : e.1 < 9216 := Table.listed_lt canonical cells e listed
        have state : r.cell e.1 = e.2 := Table.read_of_mem canonical listed
        exact ⟨(mem_lineCells l e.1 line cell).2 (of_decide_eq_true counted.2), state ▸ counted.1⟩
  rw [List.countP_eq_length_filter, same.length_eq, List.length_map, ← List.countP_eq_length_filter]

/-- The tallies computed from the cell map of lines that have none. -/
theorem State.computeTallies_tallied {s : State} (canonical : Table.wf (fun _ => CellState.healthy) s.re.cells)
    (cells : ∀ n, 9216 ≤ n → s.re.cell n = .healthy) (lines : ∀ l, (s.re.line l).tally = 0) :
    s.computeTallies.re.tallied := by
  intro l line
  have map : ∀ n, s.computeTallies.re.cell n = s.re.cell n := fun n => by rw [State.computeTallies_frame]; rfl
  simp only [map]
  rw [RepairEngine.countP_lineCells canonical cells line, State.computeTallies_eq, (State.tallyEntries s.re.cells s).2 l]
  dsimp only
  rw [lines, Nat.zero_add]

/-- The tables, the stored settings and the journal of a state, in a part whose other blocks are as a reset leaves them. -/
def State.countedAlone (s : State) : State := { State.reset with re := s.re, stored := s.stored, rj := s.rj }

/-- The live image count is read from the tables, the stored settings and the journal alone. -/
theorem State.countImages_liveCounted {s : State} (canonical : s.re.canonical) (stored : settingsCanonical s.stored)
    (ranged : s.re.ranged) (settings : ∀ i, 43 ≤ i → s.storedSetting i = Config.settingDefault i) :
    s.countImages.liveCounted := by
  have reset := State.reset.resetBlocks_canonical .settling Bank.erased Bank.erased
  have tables : s.countImages.countedAlone.tablesCanonical :=
    ⟨reset.1, reset.2.1, canonical, reset.2.2.2.1, stored, reset.2.2.2.2.2⟩
  have range : s.countImages.countedAlone.inRange :=
    (State.inRange_iff _).2 ⟨ranged, settings, Nat.zero_lt_succ _, fun _ _ _ _ => nofun⟩
  exact (State.liveCounted_iff tables range).2 rfl

/-! ## What the steps of an event leave of the Sense Unit and of START-UP -/

theorem Touch.frame {guarded : Prop} {s t : State} (step : Touch guarded s t) :
    (s.su.ranged → t.su.ranged) ∧ t.pp.startUp = s.pp.startUp := by
  cases step with
  | quiet quiet => exact ⟨quiet.sense, quiet.startUp⟩
  | cell n c d => exact ⟨fun ranged => by rwa [State.setCell_su], (s.setCell_paths n c d).2.1⟩
  | channel => exact ⟨fun ranged => by rwa [State.setChannel_su], by rw [State.setChannel_pp]⟩
  | line l v =>
    have su : (s.changeLine l v).su = s.su := State.imageChanged_su _ _ _ _
    have pp : (s.changeLine l v).pp = s.pp := State.imageChanged_pp _ _ _ _
    exact ⟨fun ranged => by rwa [su], by rw [pp]⟩
  | lists => exact ⟨id, rfl⟩

theorem Touches.frame {guarded : Prop} {s t : State} (steps : Touches guarded s t) :
    (s.su.ranged → t.su.ranged) ∧ t.pp.startUp = s.pp.startUp := by
  induction steps with
  | refl => exact ⟨id, rfl⟩
  | tail _ step ih => exact ⟨step.frame.1 ∘ ih.1, step.frame.2.trans ih.2⟩

end Sys2Proof.Machine

end

section
/-! PROOFS. O5: the end of start-up. -/

namespace Sys2Proof.Machine

/-! ## The settings after replay (R141) -/

theorem settingDefault_inRange : ∀ i < 43, Config.settingInRange i (Config.settingDefault i) = true := by decide

theorem Replayed.Sorted.value_inRange {r : Replayed} {last : Nat} (sorted : r.Sorted last) {i : Nat} (known : i < 43) :
    Config.settingInRange i (Replayed.value r i) = true := by
  unfold Replayed.value
  split
  · rename_i v image
    have past : ¬19440 + i < 9216 ∧ ¬19440 + i < 18432 ∧ ¬19440 + i < 19200 ∧ ¬19440 + i < 19440 := by omega
    have subject : 19440 + i < Config.subjects := Nat.add_lt_add_left known 19440
    by_cases set : Replayed.image r (settingSubject i) = factoryImage (settingSubject i)
    · rw [image] at set
      unfold factoryImage settingSubject at set
      rw [if_neg past.1, if_neg past.2.1, if_neg past.2.2.1, if_neg past.2.2.2, Nat.add_sub_cancel_left] at set
      rw [Image.value.inj set]
      exact settingDefault_inRange i known
    · have fits := sorted.fits _ set
      rw [image] at fits
      unfold imageFits settingSubject at fits
      rw [if_neg past.1, if_neg past.2.1, if_neg past.2.2.1, if_neg past.2.2.2, if_pos subject] at fits
      dsimp only at fits
      rwa [Nat.add_sub_cancel_left] at fits
  all_goals exact settingDefault_inRange i known

theorem Replayed.read_settings (r : Replayed) (i : Nat) :
    Table.read Config.settingDefault (Replayed.settings r) i =
      if i < 43 then Replayed.stored r i else Config.settingDefault i :=
  Table.read_ofFunction Config.settingDefault Config.settings (Replayed.stored r) i

theorem Replayed.Sorted.settings {r : Replayed} {last : Nat} (sorted : r.Sorted last) {s : State}
    (live : s.live = Replayed.settings r) (stored : s.stored = Replayed.settings r) : s.settingsInRange := by
  have limits : Replayed.stored r 20 + 5 ≤ Replayed.stored r 21 := by
    unfold Replayed.stored Setting.warmLimit Setting.hotLimit
    cases agree : Replayed.limitsAgree r with
    | true =>
      simp only [Bool.true_eq_false, and_false, if_false]
      exact of_decide_eq_true agree
    | false =>
      rw [if_pos ⟨.inl rfl, rfl⟩, if_pos ⟨.inr rfl, rfl⟩]
      decide
  have range : ∀ i < 43, Config.settingInRange i (Replayed.stored r i) = true := fun i known => by
    unfold Replayed.stored
    split
    · exact settingDefault_inRange i known
    · exact sorted.value_inRange known
  have reads : ∀ i < 43, s.setting i = Replayed.stored r i ∧ s.storedSetting i = Replayed.stored r i := fun i known => by
    unfold State.setting State.storedSetting
    rw [live, stored, Replayed.read_settings, if_pos known]
    exact ⟨rfl, rfl⟩
  refine ⟨fun i known => ?_, ?_, ?_⟩
  · rw [(reads i known).1, (reads i known).2]
    exact ⟨range i known, range i known⟩
  · rw [(reads 20 (by decide)).1, (reads 21 (by decide)).1]
    exact limits
  · rw [(reads 20 (by decide)).2, (reads 21 (by decide)).2]
    exact limits

/-! ## Reconciliation (R142) -/

section

variable (s : State) {r : Replayed} {last : Nat} (sorted : r.Sorted last)

theorem State.reconcile_frame (s : State) (r : Replayed) :
    (s.reconcile r).live = s.live ∧ (s.reconcile r).stored = s.stored ∧ (s.reconcile r).su = s.su ∧
      (s.reconcile r).pp = s.pp := by
  unfold State.reconcile State.countImages
  rw [State.computeTallies_frame]
  exact ⟨rfl, rfl, rfl, rfl⟩

/-- The maps after reconciliation are the reconciled tables, with their tallies. -/
theorem State.reconcile_re (s : State) (r : Replayed) :
    (s.reconcile r).re = (s.withRe (Replayed.tables r (s.setting Setting.budgetDefault))).computeTallies.re := rfl

theorem State.reconcile_maps (s : State) (r : Replayed) :
    (∀ n, (s.reconcile r).re.cell n = (Replayed.tables r (s.setting Setting.budgetDefault)).cell n) ∧
      (∀ n, (s.reconcile r).re.die n = (Replayed.tables r (s.setting Setting.budgetDefault)).die n) ∧
      (∀ k, (s.reconcile r).re.channel k = (Replayed.tables r (s.setting Setting.budgetDefault)).channel k) ∧
      (s.reconcile r).re.suspects = [] ∧ (s.reconcile r).re.provings = [] := by
  rw [State.reconcile_re, State.computeTallies_frame]
  exact ⟨fun _ => rfl, fun _ => rfl, fun _ => rfl, rfl, rfl⟩

theorem State.reconcile_line (s : State) (r : Replayed) (l : Nat) : ∃ tally, (s.reconcile r).re.line l =
    { (Replayed.tables r (s.setting Setting.budgetDefault)).line l with tally := tally } := by
  rw [State.reconcile_re, State.computeTallies_eq]
  exact ⟨_, (State.tallyEntries _ _).2 l⟩

include sorted

theorem State.reconcile_consistent : (s.reconcile r).re.consistent := by
  obtain ⟨cells, dies, channels, suspects, provings⟩ := s.reconcile_maps r
  obtain ⟨agree, _, _, held, dead⟩ := sorted.consistent (s.setting Setting.budgetDefault)
  refine ⟨fun n k => ?_, fun p on => ?_, fun e on => ?_, fun l isHeld n on => ?_, fun n died => ?_⟩
  · rw [cells, channels]
    exact agree n k
  · rw [provings] at on
    cases on
  · rw [suspects] at on
    cases on
  · obtain ⟨tally, line⟩ := s.reconcile_line r l
    rw [line] at isHeld
    rw [cells]
    exact held l isHeld n on
  · rw [dies] at died
    rw [cells]
    exact dead n died

theorem State.reconcile_ranged : (s.reconcile r).re.ranged := by
  obtain ⟨cells, dies, channels, _, _⟩ := s.reconcile_maps r
  refine RepairEngine.ranged_congr cells dies (fun k _ => channels k) (fun l past => ?_)
    (sorted.ranged (s.setting Setting.budgetDefault))
  -- No counted entry of the map lies past the last line.
  rw [State.reconcile_re, State.computeTallies_eq, (State.tallyEntries _ _).2 l]
  have none : ((s.withRe (Replayed.tables r (s.setting Setting.budgetDefault))).re.cells.countP fun e =>
      e.2.counted && decide (l = cLineOf e.1 ∨ l = rLineOf e.1)) = 0 := by
    refine List.countP_eq_zero.2 fun e listed counted => ?_
    have cell : e.1 < 9216 := Table.listed_lt (Replayed.tables_canonical r _).1
      (fun n past => (sorted.ranged (s.setting Setting.budgetDefault)).1 n past |>.1) e listed
    have low := cLineOf_lt e.1
    have high := rLineOf_lt cell
    rw [Bool.and_eq_true] at counted
    have on := of_decide_eq_true counted.2
    omega
  rw [none]
  rfl

theorem State.reconcile_tallied : (s.reconcile r).re.tallied := by
  refine State.computeTallies_tallied (s := s.withRe (Replayed.tables r (s.setting Setting.budgetDefault)))
    (Replayed.tables_canonical r _).1 (fun n past => (sorted.ranged (s.setting Setting.budgetDefault)).1 n past |>.1)
    fun l => ?_
  rw [State.withRe_re, Replayed.tables_line]
  split <;> rfl

theorem State.reconcile_liveCounted (canonical : settingsCanonical s.stored)
    (stored : ∀ i, 43 ≤ i → s.storedSetting i = Config.settingDefault i) : (s.reconcile r).liveCounted := by
  have frame := (s.withRe (Replayed.tables r (s.setting Setting.budgetDefault))).computeTallies_frame
  have tables := Replayed.tables_canonical r (s.setting Setting.budgetDefault)
  refine State.countImages_liveCounted ⟨?_, ?_, ?_, ?_⟩ ?_ (s.reconcile_ranged sorted) ?_
  · rw [frame]
    exact tables.1
  · rw [frame]
    exact tables.2.1
  · rw [frame]
    exact tables.2.2.1
  · have written : ∀ (entries : List (Nat × CellState)) (t : State),
        Table.wf (fun _ => (⟨.normal, 0, 0⟩ : Line)) t.re.lines →
        Table.wf (fun _ => (⟨.normal, 0, 0⟩ : Line)) (entries.foldl State.tallyEntry t).re.lines := fun entries t wf => by
      refine foldl_keeps (P := fun t : State => Table.wf (fun _ => (⟨.normal, 0, 0⟩ : Line)) t.re.lines) _
        (fun u e kept => ?_) entries wf
      unfold State.tallyEntry
      split
      · exact Table.wf_write _ _ (Table.wf_write _ _ kept)
      · exact kept
    exact written _ _ tables.2.2.2
  · rw [frame]
    exact canonical
  · rw [frame]
    exact stored

omit sorted in
theorem State.reconcile_lawful : (s.reconcile r).suspectsLawful := by
  obtain ⟨cells, dies, _, suspects, _⟩ := s.reconcile_maps r
  unfold State.suspectsLawful
  rw [suspects]
  refine ⟨List.nodup_nil, nofun, fun u inDoubt => ?_⟩
  rw [RepairEngine.isSuspected_congr (cells _) (dies _), RepairEngine.isCondemned_congr (cells _) (dies _)] at inDoubt
  obtain ⟨unsuspected, uncondemned⟩ := Replayed.tables_clear r (s.setting Setting.budgetDefault) u
  exact absurd inDoubt (by tauto)

end

/-! ## The end of start-up (R140 to R142, R146) -/

theorem SenseUnit.reset_ranged : SenseUnit.reset.ranged := ⟨Nat.zero_lt_succ _, fun _ _ _ _ => nofun⟩

/-- What a frame start leaves of the settings, the Sense Unit and, in a part that is not in operation, of START-UP. -/
theorem State.frameStart_frame (s : State) (sensor : Int) (complete : Bool) :
    ((s.frameStart sensor complete).live = s.live ∧ (s.frameStart sensor complete).stored = s.stored ∨
        (s.frameStart sensor complete).live = [] ∧ (s.frameStart sensor complete).stored = []) ∧
      (s.su.ranged → (s.frameStart sensor complete).su.ranged) ∧
      (s.operating = false → s.pp.startUp = true → (s.frameStart sensor complete).pp.startUp = true) := by
  by_cases due : s.clk.reset = .ready
  · have reset : s.frameStart sensor complete = s.resetPoint := if_pos due
    rw [reset]
    have sense : s.resetPoint.su = SenseUnit.reset := rfl
    exact ⟨.inr ⟨rfl, rfl⟩, fun _ => sense.symm.subst (motive := SenseUnit.ranged) SenseUnit.reset_ranged, fun _ _ => rfl⟩
  · rw [State.frameStart_eq sensor complete due]
    have before : Touches False s (s.beforeRoutes sensor complete) :=
      (Relation.ReflTransGen.single (.quiet (((s.newFrame_quiet complete).trans (State.sample_quiet _ sensor)).trans
        (State.senseFrame_quiet _)))).trans
        (State.repairFrame_leads (maps := False) _ ⟨id, False.elim, False.elim⟩).touches
    have clock : (s.beforeRoutes sensor complete).clk = s.clk := by
      have kept := (KeptSu.outside _).toKept.repairFrame
        (s := ((s.newFrame complete).sample sensor).senseFrame) rfl
      exact ((congrArg (fun x => x.2.1) kept).trans (State.senseFrame_frame _).1).trans (State.sample_frame _ _).1
    have kept := before.live
    have frame := before.frame
    generalize s.beforeRoutes sensor complete = b at clock kept frame
    obtain ⟨_, live, stored, su, _⟩ := b.applyRoutes_frame
    have latched := b.applyRoutes.latchScale_quiet
    refine ⟨.inl ⟨latched.live.trans (live.trans kept.1), latched.stored.trans (stored.trans kept.2)⟩,
      fun ranged => latched.sense (su ▸ frame.1 ranged), fun stands startUp => latched.startUp.trans ?_⟩
    have still : b.operating = false := by
      unfold State.operating at stands ⊢
      rw [clock, stands]
    unfold State.applyRoutes
    rw [if_neg (by simp [still])]
    exact frame.2.trans startUp

/-- The bank scan and the notes about damaged records leave everything but the journal and the notices. -/
theorem State.bankScan_quiet (s : State) : Quiet s s.bankScan := by
  have scanned : Quiet s (s.withRj { s.rj with active := s.rj.scan }) := s.withRj_quiet rfl
  exact .ite (scanned.trans (State.notify_quiet _ _)) (.ite (scanned.trans (State.notify_quiet _ _)) scanned)

theorem State.noteDamaged_quiet (s : State) : Quiet s s.noteDamaged := by
  have noted : ∀ (n : Nat) (t : State), Quiet t (Nat.repeat (fun t => t.notify (.journal .damagedRecord)) n t) := by
    intro n t
    induction n with
    | zero => exact .refl t
    | succ n ih => exact ih.trans (State.notify_quiet _ _)
  have counted : ∀ d, Quiet s (s.withRj { s.rj with damaged := d }) := fun d => s.withRj_quiet rfl
  exact (counted _).trans (noted _ _)

theorem State.bankScan_clk (s : State) : s.bankScan.clk = s.clk := by
  unfold State.bankScan
  dsimp only
  repeat' split
  all_goals rfl

theorem State.noteDamaged_clk (s : State) : s.noteDamaged.clk = s.clk := by
  have noted : ∀ (n : Nat) (t : State), (Nat.repeat (fun t => t.notify (.journal .damagedRecord)) n t).clk = t.clk := by
    intro n t
    induction n with
    | zero => rfl
    | succ n ih => exact ih
  exact noted _ _

theorem State.stopIfLow_upholds (s : State) : Upholds s s.stopIfLow :=
  .ite (fun _ => s.withRj_upholds rfl) fun _ => .refl s

theorem State.startWriter_upholds (s : State) : Upholds s s.startWriter := by
  unfold State.startWriter
  refine .ite (fun _ => s.enterFull_upholds.trans (State.stopIfLow_upholds _)) fun _ => ?_
  refine .ite (fun _ => .ite (fun _ => s.withRj_upholds rfl) fun _ => s.startCompaction_upholds) fun _ => ?_
  exact .from_rj (State.stopIfLow_upholds _) rfl

/-- The settings as replay and a frame start that the restored FREE-RUN PERIOD brings leave them: the replayed ones, or none
where that frame start was a reset point. -/
theorem State.settleFreeRun_frame (s before : State) (sensor : Int) :
    ((s.settleFreeRun before sensor).live = s.live ∧ (s.settleFreeRun before sensor).stored = s.stored ∨
        (s.settleFreeRun before sensor).live = [] ∧ (s.settleFreeRun before sensor).stored = []) ∧
      (s.su.ranged → (s.settleFreeRun before sensor).su.ranged) ∧
      (s.operating = false → s.pp.startUp = true → (s.settleFreeRun before sensor).pp.startUp = true) := by
  unfold State.settleFreeRun
  split
  · exact s.frameStart_frame sensor false
  · exact ⟨.inl ⟨rfl, rfl⟩, id, fun _ => id⟩

/-- The settings in force after replay, in range, canonical, and at their defaults past the last. -/
theorem Replayed.Sorted.restored {r : Replayed} {last : Nat} (sorted : r.Sorted last) {s : State}
    (restored : s.live = Replayed.settings r ∧ s.stored = Replayed.settings r ∨ s.live = [] ∧ s.stored = []) :
    s.settingsInRange ∧ settingsCanonical s.stored ∧ ∀ i, 43 ≤ i → s.storedSetting i = Config.settingDefault i := by
  unfold State.storedSetting
  rcases restored with ⟨live, stored⟩ | ⟨live, stored⟩
  · refine ⟨sorted.settings live stored, stored ▸ Replayed.settings_canonical r, fun i past => ?_⟩
    rw [stored, Replayed.read_settings, if_neg (Nat.not_lt.2 past)]
  · refine ⟨State.settingsInRange_of_reset live stored, stored ▸ Table.wf_nil _, fun i _ => ?_⟩
    rw [stored, Table.read_nil]

/-- What the end of start-up leaves, whatever it found. -/
theorem State.endReplay_keeps (s : State) (sensor : Int) :
    (s.endReplay sensor).re.consistent ∧ (s.su.ranged → (s.endReplay sensor).inRange) ∧
      (s.su.ranged → (s.endReplay sensor).re.tallied ∧ (s.endReplay sensor).liveCounted) ∧
      (s.endReplay sensor).settingsInRange ∧ (s.endReplay sensor).suspectsLawful ∧
      (s.operating = false → s.pp.startUp = true → Table.wf (fun _ => (none : Option Route)) s.pp.pendingRoutes →
        (s.endReplay sensor).routesFollow) := by
  have scanned : Quiet s s.bankScan.noteDamaged := s.bankScan_quiet.trans (State.noteDamaged_quiet _)
  have clock : s.bankScan.noteDamaged.clk = s.clk := (State.noteDamaged_clk _).trans s.bankScan_clk
  obtain ⟨last, sorted⟩ := s.bankScan.noteDamaged.rj.replay_sorted
  unfold State.endReplay
  dsimp only
  generalize s.bankScan.noteDamaged = s1 at scanned clock sorted
  generalize s1.rj.replay = r at sorted
  obtain ⟨settings, sense, startUp⟩ := (s1.restoreSettings r).settleFreeRun_frame s1 sensor
  have routes := ((s1.restoreSettings r).settleFreeRun_upholds s1 sensor).routes
  generalize (s1.restoreSettings r).settleFreeRun s1 sensor = v at settings sense startUp routes
  obtain ⟨inside, canonical, stored⟩ := sorted.restored settings
  obtain ⟨live', stored', su', pp'⟩ := v.reconcile_frame r
  have agree := v.reconcile_consistent sorted
  have ranged := v.reconcile_ranged sorted
  have tallied := v.reconcile_tallied sorted
  have counted := v.reconcile_liveCounted sorted canonical stored
  have lawful := v.reconcile_lawful (r := r)
  generalize v.reconcile r = w at live' stored' su' pp' agree ranged tallied counted lawful
  have inside' : w.settingsInRange := State.settingsInRange_congr live' stored' inside
  have stored'' : ∀ i, 43 ≤ i → w.storedSetting i = Config.settingDefault i := fun i past => by
    rw [State.storedSetting, stored']
    exact stored i past
  have upheld : Upholds w w.startWriter.run := w.startWriter_upholds.trans (.of_quiet (State.withClk_quiet _ _))
  have range : s.su.ranged → w.inRange := fun range =>
    (State.inRange_iff w).2 ⟨ranged, stored'', su' ▸ sense (scanned.sense range)⟩
  refine ⟨upheld.agree agree, upheld.range agree ∘ range, fun sensed => ?_, upheld.settings inside',
    upheld.law agree inside' lawful, fun stands blank posted => ?_⟩
  · exact ⟨upheld.tallied agree (range sensed) tallied, upheld.counted agree (range sensed) counted⟩
  · have still : (s1.restoreSettings r).operating = false := by
      unfold State.operating at stands ⊢
      exact (congrArg (fun c : Clock => decide (c.phase = .running)) clock).trans stands
    have blanked : w.pp.startUp = true := pp' ▸ startUp still (scanned.startUp.trans blank)
    have before : (s1.restoreSettings r).routesLaw :=
      ⟨(congrArg (Table.wf _) scanned.routes).mpr posted, fun started => by
        rw [show (s1.restoreSettings r).pp.startUp = true from scanned.startUp.trans blank] at started
        cases started⟩
    exact (upheld.routes ⟨pp' ▸ (routes before).1, fun started => by rw [blanked] at started; cases started⟩).2

end Sys2Proof.Machine

end

section
/-! PROOFS. O5: every command upholds the maps, the numbers and the counts. -/

namespace Sys2Proof.Machine

/-! ## Every command upholds the maps, the numbers, the counts, the settings, the list and the routes -/

/-- The branches of a command's conditional. -/
theorem Upholds.when {s t : State} {c : Prop} [Decidable c] (step : c → Upholds s t) : Upholds s (if c then t else s) :=
  .ite step fun _ => .refl s

theorem State.request_upholds_of_read (s : State) (r : Request) (kind : Byte) {op : State → State × Answer}
    (read : ∀ t, (op t).1 = t) : Upholds s (s.request r kind op) :=
  s.request_upholds r kind fun t => (read t).symm ▸ .refl t

theorem State.setSupply_quiet (s : State) (v : Supply) : Quiet s (s.setSupply v) := s.withCm_quiet _

/-- What a supply failure and the reset pin do to the clock after they have stopped the part. -/
theorem State.stopped_upholds (s : State) (cut : Cut) (clk : Clock) : Upholds s ((s.stopPart cut).withClk clk) :=
  (s.stopPart_upholds cut).trans (.of_quiet (State.withClk_quiet _ _))

theorem State.beginScanning_quiet (s : State) : Quiet s s.beginScanning :=
  (s.withClk_quiet _).trans (State.withPp_quiet _ rfl rfl rfl)

theorem State.voidInterval_quiet (s : State) (lane : Port) : Quiet s (s.voidInterval lane) := s.setPort_quiet lane _

theorem Upholds.ticked {s t : State} {elapsed : Nat} (rest : Upholds (s.tick elapsed) t) : Upholds s t :=
  (Upholds.of_quiet (s.tick_quiet elapsed)).trans rest

theorem Upholds.reached {s t : State} {time : Nat} (rest : Upholds (s.reach time) t) : Upholds s t :=
  (Upholds.of_quiet (s.reach_quiet time)).trans rest

/-- Every command upholds the invariants step by step, but the end of start-up, which makes the tables anew. -/
theorem exec_upholds (c : Instr) {s t : State} (done : exec c s = .next t) :
    Upholds s t ∨ ∃ m, c = .replayEnd m ∧ s.clk.phase = .starting ∧ t = (s.tick m.elapsed).endReplay m.sensor := by
  by_cases ends : ∃ m, c = .replayEnd m
  · obtain ⟨m, rfl⟩ := ends
    have taken := Host.Outcome.next.inj (done : execReplayEnd m s = .next t)
    by_cases starting : s.clk.phase = .starting
    · exact .inr ⟨m, rfl, starting, taken.symm.trans (if_pos starting)⟩
    · exact .inl ((if_neg starting).symm.trans taken ▸ .of_quiet (s.tick_quiet _))
  refine .inl ?_
  cases c <;> simp only [exec] at done <;> injection done with done <;> subst done
  case replayEnd m => exact absurd ⟨m, rfl⟩ ends
  case frameHead lane r m =>
    exact .ite (fun _ => .ticked (State.headArrives_upholds _ _ _ _)) fun _ => .of_quiet (s.tick_quiet _)
  case line lane r => exact .when fun _ => .of_quiet (s.takeLine_quiet lane r)
  case replySlot lane r =>
    refine .when fun _ => ?_
    split
    · exact .of_quiet (.ite (s.placeReply_quiet lane _ _) (s.send_quiet _ _))
    · exact .of_quiet (s.send_quiet _ _)
  case frameTail lane r m =>
    exact .ite (fun _ => .ticked (State.tailArrives_upholds _ _ _ _)) fun _ => .of_quiet (s.tick_quiet _)
  case recordBadCheck lane bytes =>
    exact .when fun _ => .of_quiet (.ite (s.send_quiet _ _) ((s.send_quiet _ _).trans (State.voidInterval_quiet _ _)))
  case frameTimerExpiry x => exact .when fun _ => s.timerExpiry_upholds x
  case stale x => exact .when fun _ => s.timerExpiry_upholds x
  case provingTimeout x => exact .when fun _ => s.timerExpiry_upholds x
  case rowGapOpen => exact .when fun _ => s.openGap_upholds
  case rowGapEnd ticks first => exact .when fun _ => s.endGap_upholds ticks first
  case portLossWatchdog lane x => exact .when fun _ => s.losePort_upholds lane x
  case feedReturn r m =>
    exact .ite (fun _ => .ticked (State.headArrives_upholds _ _ _ _)) fun _ => .of_quiet (s.tick_quiet _)
  case unknownKind r kind => exact .ite (fun _ => .refl s) fun _ => s.request_upholds_of_read r kind fun _ => rfl
  case identify r => exact s.request_upholds_of_read r _ (identifyOp_state r.body)
  case assignId r => exact s.request_upholds r _ fun t => assignIdOp_upholds t r.body
  case set r m =>
    exact .ticked ((State.request_upholds _ r _ fun t => setOp_upholds t r.body).trans (State.settleFreeRun_upholds _ _ _))
  case get r => exact s.request_upholds_of_read r _ (getOp_state r.body)
  case reset r => exact s.request_upholds r _ fun t => resetOp_upholds t r
  case readCell r => exact s.request_upholds_of_read r _ (readCellOp_state r.body)
  case readGroup r => exact s.request_upholds_of_read r _ (readGroupOp_state r.body)
  case readLine r => exact s.request_upholds_of_read r _ (readLineOp_state r.body)
  case readSuspects r => exact s.request_upholds_of_read r _ (readSuspectsOp_state r.body)
  case spare r => exact s.request_upholds r _ fun t => spareOp_upholds t r.body
  case restore r => exact s.request_upholds r _ fun t => restoreOp_upholds t r.body
  case conceal r => exact s.request_upholds r _ fun t => concealOp_upholds t r.body
  case forgive r => exact s.request_upholds r _ fun t => forgiveOp_upholds t r.body
  case reviveDie r => exact s.request_upholds r _ fun t => reviveDieOp_upholds t r.body
  case restoreChannel r => exact s.request_upholds r _ fun t => restoreChannelOp_upholds t r.body
  case holdLine r => exact s.request_upholds r _ fun t => holdLineOp_upholds t r.body
  case releaseLine r => exact s.request_upholds r _ fun t => releaseLineOp_upholds t r.body
  case setBudget r => exact s.request_upholds r _ fun t => setBudgetOp_upholds t r.body
  case startSurvey r => exact s.request_upholds r _ fun t => startSurveyOp_upholds t r.body
  case stopSurvey r => exact s.request_upholds r _ fun t => stopSurveyOp_upholds t r.body
  case readSense r => exact s.request_upholds r _ fun t => readSenseOp_upholds t r.body
  case clearBaselines r => exact s.request_upholds r _ fun t => clearBaselinesOp_upholds t r.body
  case compact r => exact s.request_upholds r _ fun t => compactOp_upholds t r.body
  case readJournal r => exact s.request_upholds_of_read r _ (readJournalOp_state r.body)
  case collect r => exact s.request_upholds_of_read r _ (collectOp_state r.body)
  case clear r => exact s.request_upholds r _ fun t => clearOp_upholds t r.body
  case readFeed r => exact s.request_upholds_of_read r _ (readFeedOp_state r.body)
  case recordWriteStart => exact .when fun _ => s.takeHead_upholds
  case recordWriteEnd verified =>
    refine .when fun _ => ?_
    split
    · exact s.recordEnd_upholds _ verified
    · exact .refl s
  case compactionStart => exact .when fun _ => s.startCompaction_upholds.reconsider
  case bankEraseEnd erased => exact .when fun _ => s.eraseEnd_upholds erased
  case headerWriteEnd written =>
    exact .when fun _ => .ite (fun _ => s.headerWritten_upholds) fun _ => s.failOperation_upholds
  case completeMarkWriteEnd written =>
    exact .when fun _ => .ite (fun _ => s.markWritten_upholds) fun _ => s.failOperation_upholds
  case supplyLow =>
    exact .ite (fun _ => .when fun _ => .of_quiet (s.setSupply_quiet _)) fun _ => .when fun _ => s.supplyLow_upholds
  case supplyGood elapsed =>
    exact .ticked (.when fun _ => .ite (fun _ => .of_quiet (State.powerUp_quiet _)) fun _ => .of_quiet (State.supplyGood_quiet _))
  case writerResume => exact .when fun _ => .reached (State.resume_upholds _)
  case supplyFail cut =>
    exact .ite (fun _ => .of_quiet (s.setSupply_quiet _)) fun _ =>
      (Upholds.of_quiet (s.setSupply_quiet _)).trans (State.stopped_upholds _ cut _)
  case powerUp elapsed => exact .ticked (.when fun _ => .of_quiet (State.powerUp_quiet _))
  case resetPinAssert cut =>
    refine .ite (fun _ => .refl s) fun _ => ?_
    exact (Upholds.ite (fun _ => .refl s) fun _ => s.stopPart_upholds cut).trans (.of_quiet (State.withClk_quiet _ _))
  case resetPinRelease elapsed =>
    exact .ticked (.when fun _ => .of_quiet ((State.withClk_quiet _ _).trans (State.beginSettle_quiet _)))
  case oscillatorSettle => exact .when fun _ => .reached (.of_quiet (State.beginScanning_quiet _))
  case resetPoint => exact .when fun _ => .reached (State.resetPoint_upholds _)
  case derateCountdownExpiry =>
    split
    · exact .reached (.of_quiet (State.expireCountdown_quiet _))
    · exact .refl s

/-- What the end of start-up makes of the invariants: it makes them true, from a Sense Unit in range and from a part at
rest, whatever the tables were. -/
theorem endReplay_of_rest {s : State} (m : Moment) (starting : s.clk.phase = .starting) :
    ((s.tick m.elapsed).endReplay m.sensor).re.consistent ∧ (s.inRange → ((s.tick m.elapsed).endReplay m.sensor).inRange) ∧
      (s.inRange → ((s.tick m.elapsed).endReplay m.sensor).re.tallied) ∧
      (s.inRange → ((s.tick m.elapsed).endReplay m.sensor).liveCounted) ∧
      ((s.tick m.elapsed).endReplay m.sensor).settingsInRange ∧ ((s.tick m.elapsed).endReplay m.sensor).suspectsLawful ∧
      (s.pp.canonical → s.restsUntilOperation → ((s.tick m.elapsed).endReplay m.sensor).routesFollow) := by
  obtain ⟨agree, range, counts, settings, lawful, routes⟩ := (s.tick m.elapsed).endReplay_keeps m.sensor
  have stands : s.operating = false := by
    unfold State.operating
    rw [starting]
    rfl
  refine ⟨agree, fun within => range ?_, fun within => (counts ?_).1, fun within => (counts ?_).2, settings, lawful,
    fun canonical rests => ?_⟩
  any_goals exact ((State.inRange_iff s).1 within).2.2
  obtain ⟨_, _, _, _, _, startUp, _⟩ := rests stands
  exact routes stands startUp canonical.2.1

end Sys2Proof.Machine

end

section
/-! PROOFS. O5: the work that goes with each state of the writer. -/

namespace Sys2Proof.Machine

/-! ## The writer's work (R130 to R139) -/

/-- The clock, and what is in progress beside the writer's state. -/
def State.posture (s : State) : Clock × Writer × Option RecordWrite × Option Operation :=
  (s.clk, s.rj.writer, s.rj.record, s.rj.operation)

/-- The work that goes with a writer's state, where no header is written: all that `Journal.orderly` asks of a journal but
the erased bank under a header write. -/
def Writer.takes (record : Option RecordWrite) (operation : Option Operation) : Writer → Prop
  | .compacting .erase => record = none ∧ operation = some .erase
  | .compacting .snapshot => operation = none
  | .compacting .finish => record = none ∧ operation = some .mark
  | .erasingOld => operation = some .erase
  | .writing | .full => operation = none
  | .idle | .held _ | .faulted => record = none ∧ operation = none

/-- The clock is as given, and the journal's work is that of its writer state. -/
def State.orderedAt (clk : Clock) (s : State) : Prop := s.clk = clk ∧ s.rj.orderly

theorem Journal.orderly_of_takes {j : Journal} (work : j.writer.takes j.record j.operation) : j.orderly := by
  unfold Journal.orderly
  unfold Writer.takes at work
  split <;> rename_i writer <;> rw [writer] at work
  case h_1 => exact ⟨work.1, .inl work.2⟩
  all_goals exact work

theorem State.orderedAt.of_posture {s : State} {clk : Clock} {w : Writer} {record : Option RecordWrite}
    {operation : Option Operation} (posture : s.posture = (clk, w, record, operation))
    (work : w.takes record operation) : s.orderedAt clk := by
  unfold State.posture at posture
  simp only [Prod.mk.injEq] at posture
  obtain ⟨clock, rfl, rfl, rfl⟩ := posture
  exact ⟨clock, Journal.orderly_of_takes work⟩

/-- A change of the owed list leaves the writer's work. -/
theorem RjStep.work {a b : Journal} (step : RjStep a b) :
    b.writer = a.writer ∧ b.record = a.record ∧ b.operation = a.operation ∧ (a.orderly → b.orderly) := by
  obtain ⟨_, _, same⟩ := step
  rw [same]
  exact ⟨rfl, rfl, rfl, id⟩

theorem KeptSu.posture (x : Clock × Writer × Option RecordWrite × Option Operation) : KeptSu fun t => t.posture = x where
  inFlight := fun _ _ h => h
  su := fun _ _ _ h => h
  post := fun _ _ _ h => h
  re := fun _ _ _ h => h
  rj := fun s v step h => by
    obtain ⟨writer, record, operation, _⟩ := step.work
    unfold State.posture at h ⊢
    rwa [State.withRj_rj, writer, record, operation]
  notify := fun _ _ h => h
  enlist := fun _ _ _ h => h
  full := Or.inr fun _ _ h => h

theorem KeptSu.orderedAt (clk : Clock) : KeptSu (State.orderedAt clk) where
  inFlight := fun _ _ h => h
  su := fun _ _ _ h => h
  post := fun _ _ _ h => h
  re := fun _ _ _ h => h
  rj := fun _ _ step h => ⟨h.1, step.work.2.2.2 h.2⟩
  notify := fun _ _ h => h
  enlist := fun _ _ _ h => h
  full := Or.inr fun _ _ h => h

section

variable {s : State} {clk : Clock}

theorem State.orderedAt.reconsider (ordered : s.orderedAt clk) : s.reconsider.orderedAt clk :=
  (KeptSu.orderedAt clk).reconsider ordered

theorem State.orderedAt.noteUnable (ordered : s.orderedAt clk) : s.noteUnable.orderedAt clk :=
  (KeptSu.orderedAt clk).setUnrecorded _ ordered

/-- A writer with nothing in progress stops in HELD or FAULTED. -/
theorem Writer.stopped_takes (w : Writer) : w.stopped.takes none none := by
  cases w <;> exact ⟨rfl, rfl⟩

theorem State.orderedAt.stopIfDue (ordered : s.orderedAt clk) : s.stopIfDue.orderedAt clk := by
  unfold State.stopIfDue
  split
  · rename_i free
    simp only [Bool.and_eq_true, Option.isNone_iff_eq_none] at free
    refine ⟨ordered.1, Journal.orderly_of_takes ?_⟩
    rw [State.withRj_rj]
    dsimp only
    rw [free.1.2, free.2]
    exact Writer.stopped_takes _
  · exact ordered

/-! ### How a compaction ends without its mark, FULL and FAULTED -/

theorem State.owe_posture (s : State) (n : Nat) : (s.owe n).posture = s.posture := rfl

theorem State.oweAll_posture (subjects : List Nat) (s : State) : (subjects.foldl State.owe s).posture = s.posture :=
  foldl_keeps (P := fun t : State => t.posture = s.posture) _ (fun t n kept => (t.owe_posture n).trans kept) subjects rfl

theorem State.endUnmarked_posture (s : State) : s.endUnmarked.posture = (s.clk, s.rj.writer, s.rj.record, none) :=
  State.oweAll_posture _ _

theorem State.enterFull_posture (s : State) : s.enterFull.posture = (s.clk, .full, s.rj.record, s.rj.operation) := by
  have K := KeptSu.posture (s.clk, .full, s.rj.record, s.rj.operation)
  exact K.setUnrecorded _ (K.bindRecordings (K.notify _ _ rfl))

theorem State.enterFaulted_posture (s : State) : s.enterFaulted.posture = (s.clk, .faulted, s.rj.record, none) := by
  have K := KeptSu.posture (s.clk, .faulted, s.rj.record, none)
  exact K.setUnrecorded _ (K.bindRecordings (K.notify _ _ rfl))

theorem Journal.useSlot_work (j : Journal) (x : Slot) : (j.useSlot x).writer = j.writer ∧
    (j.useSlot x).record = j.record ∧ (j.useSlot x).operation = j.operation := by
  unfold Journal.useSlot
  split
  · rename_i i _
    cases i <;> exact ⟨rfl, rfl, rfl⟩
  · exact ⟨rfl, rfl, rfl⟩

theorem Journal.setBank_work (j : Journal) (i : BankId) (b : Bank) : (j.setBank i b).writer = j.writer ∧
    (j.setBank i b).record = j.record ∧ (j.setBank i b).operation = j.operation := by
  cases i <;> exact ⟨rfl, rfl, rfl⟩

theorem State.abandonRecord_record (s : State) : s.abandonRecord.clk = s.clk ∧ s.abandonRecord.rj.record = none := by
  unfold State.abandonRecord
  split
  · exact ⟨rfl, rfl⟩
  · exact ⟨rfl, ‹_›⟩

theorem State.endCompaction_record (s : State) :
    s.endCompaction.clk = s.clk ∧ s.endCompaction.rj.record = s.rj.record := by
  have ended := s.endUnmarked_posture
  unfold State.posture at ended
  simp only [Prod.mk.injEq] at ended
  unfold State.endCompaction
  split
  · exact ⟨ended.1, ended.2.2.1⟩
  all_goals exact ⟨rfl, rfl⟩

/-- A FAULTED writer has nothing in progress once the record write is off the books. -/
theorem State.enterFaulted_ordered (clock : s.clk = clk) (record : s.rj.record = none) :
    s.enterFaulted.orderedAt clk := by
  have posture := s.enterFaulted_posture
  rw [clock, record] at posture
  exact .of_posture posture ⟨rfl, rfl⟩

theorem State.failOperation_ordered (s : State) : s.failOperation.orderedAt s.clk := by
  obtain ⟨clock, record⟩ := s.abandonRecord_record
  obtain ⟨clock', record'⟩ := s.abandonRecord.endCompaction_record
  exact (State.enterFaulted_ordered (clock'.trans clock) (record'.trans record)).reconsider

theorem State.holdCompaction_ordered (record : s.rj.record = none) : s.holdCompaction.orderedAt s.clk := by
  have ended := s.endUnmarked_posture
  unfold State.posture at ended
  simp only [Prod.mk.injEq] at ended
  obtain ⟨clock, _, kept, operation⟩ := ended
  exact ⟨clock, kept.trans record, operation⟩

theorem State.overflow_posture (s : State) : s.overflow.posture = (s.clk, .full, s.rj.record, none) := by
  have ended := s.endUnmarked_posture
  have owed := (State.oweAll_posture s.endUnmarked.nonFactory s.endUnmarked).trans ended
  have full := (s.endUnmarked.nonFactory.foldl State.owe s.endUnmarked).enterFull_posture
  unfold State.posture at owed
  simp only [Prod.mk.injEq] at owed
  obtain ⟨clock, _, record, operation⟩ := owed
  rwa [clock, record, operation] at full

/-! ### Compaction -/

theorem State.walkFrom_ordered (start : Nat) (writer : s.rj.writer = .compacting .snapshot)
    (record : s.rj.record = none) (operation : s.rj.operation = none) : (s.walkFrom start).orderedAt s.clk := by
  unfold State.walkFrom
  split
  · dsimp only
    split
    · refine ⟨rfl, Journal.orderly_of_takes ?_⟩
      simp only [State.walkOver, State.withRj_rj, writer]
      exact operation
    · exact .of_posture (State.overflow_posture _) rfl
  · refine ⟨rfl, Journal.orderly_of_takes ?_⟩
    simp only [State.walkOver, State.withRj_rj]
    exact ⟨record, rfl⟩

theorem State.startCompaction_ordered (record : s.rj.record = none) (operation : s.rj.operation = none) :
    s.startCompaction.orderedAt s.clk := by
  unfold State.startCompaction
  split
  · exact .of_posture (s.enterFull_posture) operation
  · refine .of_posture (w := .compacting .erase) (record := none) (operation := some .erase) ?_ ⟨rfl, rfl⟩
    have kept := (s.rj.setBank_work s.rj.erasing (s.rj.bank s.rj.erasing).clearHeader).2.1
    exact congrArg (fun r => (s.clk, Writer.compacting .erase, r, some Operation.erase)) (kept.trans record)

/-! ### Record writes -/

/-- A record write goes with a snapshot, the drain of ERASING-OLD, WRITING and FULL. -/
theorem Journal.orderly_record {j : Journal} (orderly : j.orderly) {w : RecordWrite} (record : j.record = some w) :
    j.writer = .compacting .snapshot ∧ j.operation = none ∨ j.writer = .erasingOld ∧ j.operation = some .erase ∨
      (j.writer = .writing ∨ j.writer = .full) ∧ j.operation = none := by
  unfold Journal.orderly at orderly
  rw [record] at orderly
  split at orderly <;> simp_all

theorem State.takeHead_ordered (orderly : s.rj.orderly) (able : s.rj.compacting = false) (working : s.rj.writer ≠ .faulted) :
    s.takeHead.orderedAt s.clk := by
  unfold State.takeHead
  split
  · exact ⟨rfl, orderly⟩
  · refine ⟨rfl, Journal.orderly_of_takes ?_⟩
    unfold Journal.orderly at orderly
    unfold Journal.compacting at able
    rw [State.withRj_rj]
    dsimp only
    cases writer : s.rj.writer <;> rw [writer] at orderly able
    case idle => exact orderly.2
    case writing => exact orderly
    case compacting => cases able
    case erasingOld => exact orderly
    case held => exact orderly.2
    case full => exact orderly
    case faulted => exact absurd writer working

theorem State.endWrite_ordered (orderly : s.rj.orderly) (record : s.rj.record = none) (outside : s.rj.compacting = false) :
    s.endWrite.orderedAt s.clk := by
  have written : (s.withRj { s.rj with due := s.rj.becomesDue, writer := s.rj.afterWrite }).orderedAt s.clk := by
    refine ⟨rfl, Journal.orderly_of_takes ?_⟩
    unfold Journal.orderly at orderly
    unfold Journal.compacting at outside
    have free : ∀ o, o = none → s.rj.free.takes none o := by
      rintro _ rfl
      unfold Journal.free
      split
      · exact ⟨rfl, rfl⟩
      · exact rfl
    rw [State.withRj_rj]
    dsimp only
    rw [record]
    unfold Journal.afterWrite
    cases writer : s.rj.writer <;> rw [writer] at orderly outside
    case idle => exact free _ orderly.2
    case writing => exact free _ orderly
    case compacting => cases outside
    case erasingOld => exact orderly
    case held => exact ⟨rfl, orderly.2⟩
    case full => exact orderly
    case faulted => exact ⟨rfl, orderly.2⟩
  exact written.stopIfDue.noteUnable.reconsider

end

end Sys2Proof.Machine

end

section
/-! PROOFS. O5: the ends of the writer's operations. -/

namespace Sys2Proof.Machine

section

variable {s : State} {clk : Clock}

/-! ## The ends of the writer's operations -/

/-- What writes records in a snapshot is a COMPACTING writer in step SNAPSHOT. -/
theorem Journal.compacting_record {j : Journal} (orderly : j.orderly) {w : RecordWrite} (record : j.record = some w)
    (compacting : j.compacting = true) : j.writer = .compacting .snapshot ∧ j.operation = none := by
  rcases Journal.orderly_record orderly record with snapshot | ⟨drains, _⟩ | ⟨writes | full, _⟩
  · exact snapshot
  all_goals simp_all [Journal.compacting]

theorem State.recordWritten_ordered (w : RecordWrite) (orderly : s.rj.orderly) (record : s.rj.record = none)
    (snapshot : s.rj.compacting = true → s.rj.writer = .compacting .snapshot ∧ s.rj.operation = none) :
    (s.recordWritten w).orderedAt s.clk := by
  unfold State.recordWritten
  split
  · rename_i compacting
    obtain ⟨writer, operation⟩ := snapshot compacting
    refine State.orderedAt.reconsider ?_
    split
    · exact State.holdCompaction_ordered (s := s.withRj _) record
    · exact State.walkFrom_ordered (s := s.withRj _) _ writer record operation
  · rename_i outside
    have reported := (KeptSu.posture s.posture).report w rfl
    have kept := (KeptSu.orderedAt s.clk).report w ⟨rfl, orderly⟩
    unfold State.posture at reported
    simp only [Prod.mk.injEq] at reported
    obtain ⟨clock, writer, record', _⟩ := reported
    have ended := State.endWrite_ordered kept.2 (record'.trans record) (by
      unfold Journal.compacting at outside ⊢
      rw [writer]
      simpa using outside)
    rwa [clock] at ended

/-- What a record write that goes on, or has been taken off the books, leaves of the work. -/
theorem Journal.orderly_of_same {j k : Journal} (orderly : j.orderly) {w : RecordWrite} (record : j.record = some w)
    (writer : k.writer = j.writer) (operation : k.operation = j.operation) : k.orderly := by
  refine Journal.orderly_of_takes ?_
  rw [writer, operation]
  rcases Journal.orderly_record orderly record with ⟨snapshot, none⟩ | ⟨drains, erase⟩ | ⟨writes | full, none⟩
  · rw [snapshot, none]
    exact rfl
  · rw [drains, erase]
    exact rfl
  · rw [writes, none]
    exact rfl
  · rw [full, none]
    exact rfl

theorem State.lastSlotFailed_ordered (w : RecordWrite) {v : RecordWrite} (orderly : s.rj.orderly)
    (record : s.rj.record = some v) : (s.lastSlotFailed w).orderedAt s.clk := by
  have kept : ((s.withRj { s.rj with record := none }).owe w.subject).rj.orderly :=
    Journal.orderly_of_same orderly record rfl rfl
  have begun : ((s.withRj { s.rj with record := none }).owe w.subject).clk = s.clk ∧
      ((s.withRj { s.rj with record := none }).owe w.subject).rj.record = none := ⟨rfl, rfl⟩
  unfold State.lastSlotFailed
  dsimp only
  generalize (s.withRj { s.rj with record := none }).owe w.subject = s1 at kept begun
  obtain ⟨clock, idle⟩ := begun
  rw [← clock]
  split
  · have full : s1.overflow.orderedAt s1.clk := .of_posture s1.overflow_posture rfl
    exact full.stopIfDue.reconsider
  · exact State.endWrite_ordered kept idle (Bool.eq_false_iff.2 ‹_›)

theorem State.secondFailure_ordered (s : State) (w : RecordWrite) : (s.secondFailure w).orderedAt s.clk := by
  obtain ⟨clock, record⟩ := (s.withRj { s.rj with record := none }).endCompaction_record
  exact (State.enterFaulted_ordered (s := (s.withRj { s.rj with record := none }).endCompaction.owe w.subject)
    clock record).reconsider

theorem State.recordEnd_ordered {w : RecordWrite} (verified : Bool) (orderly : s.rj.orderly)
    (record : s.rj.record = some w) : (s.recordEnd w verified).orderedAt s.clk := by
  unfold State.recordEnd
  split
  · obtain ⟨writer, _, operation⟩ := s.rj.useSlot_work (.complete w.subject w.image)
    refine State.recordWritten_ordered (s := s.withRj _) w (Journal.orderly_of_same orderly record writer operation) rfl
      fun compacting => ?_
    have snapshot : s.rj.compacting = true := by
      unfold Journal.compacting at compacting ⊢
      rwa [State.withRj_rj, writer] at compacting
    obtain ⟨step, none⟩ := Journal.compacting_record orderly record snapshot
    exact ⟨writer.trans step, operation.trans none⟩
  · obtain ⟨writer, kept, operation⟩ := s.rj.useSlot_work .torn
    dsimp only
    split
    · have again := Journal.orderly_of_same (k := { s.rj.useSlot .torn with
        failures := 1, due := (s.rj.useSlot .torn).becomesDue }) orderly record writer operation
      split
      · exact ⟨rfl, again⟩
      · exact State.lastSlotFailed_ordered (s := (s.withRj _).withRj _) w again (kept.trans record)
    · exact State.secondFailure_ordered (s.withRj _) w

/-! ### Erase, header and mark -/

/-- An erase goes with step ERASE and with ERASING-OLD, a header write with step ERASE, and a mark with step FINISH. -/
theorem Journal.orderly_operation {j : Journal} (orderly : j.orderly) {o : Operation} (operation : j.operation = some o) :
    j.writer = .compacting .erase ∧ j.record = none ∧ o ≠ .mark ∨ j.writer = .erasingOld ∧ o = .erase ∨
      j.writer = .compacting .finish ∧ j.record = none ∧ o = .mark := by
  unfold Journal.orderly at orderly
  rw [operation] at orderly
  split at orderly
  case h_1 writer =>
    refine .inl ⟨writer, orderly.1, ?_⟩
    rintro rfl
    rcases orderly.2 with same | ⟨same, _⟩ <;> cases same
  case h_2 => cases orderly
  case h_3 writer => exact .inr (.inr ⟨writer, orderly.1, Option.some.inj orderly.2⟩)
  case h_4 writer => exact .inr (.inl ⟨writer, Option.some.inj orderly⟩)
  all_goals simp_all

theorem Journal.setBank_same (j : Journal) (i : BankId) (b : Bank) : (j.setBank i b).bank i = b := by
  cases i <;> rfl

theorem Journal.eraseDone_work (j : Journal) : j.eraseDone.writer = j.writer ∧ j.eraseDone.record = j.record ∧
    j.eraseDone.operation = none ∧ j.eraseDone.bank j.eraseDone.newBank = Bank.erased := by
  obtain ⟨writer, record, _⟩ := j.setBank_work j.erasing Bank.erased
  refine ⟨writer, record, rfl, ?_⟩
  have active : ∀ i b, (j.setBank i b).active = j.active := fun i _ => by cases i <;> rfl
  have same : j.eraseDone.newBank = j.erasing := by
    unfold Journal.erasing Journal.newBank
    rw [show j.eraseDone.active = j.active from active _ _]
  rw [same]
  exact j.setBank_same j.erasing Bank.erased

theorem State.newBankErased_ordered (step : s.rj.writer = .compacting .erase) (idle : s.rj.record = none) :
    s.newBankErased.orderedAt s.clk := by
  obtain ⟨writer, record, _, erased⟩ := s.rj.eraseDone_work
  unfold State.newBankErased
  dsimp only
  split
  · exact State.holdCompaction_ordered (s := s.withRj _) (record.trans idle)
  · refine ⟨rfl, ?_⟩
    have bank : (s.rj.eraseDone.bank s.rj.eraseDone.newBank).slots = [] := congrArg Bank.slots erased
    unfold Journal.orderly
    rw [State.withRj_rj]
    dsimp only
    rw [State.withRj_rj, writer, step]
    exact ⟨record.trans idle, .inr ⟨rfl, bank⟩⟩

/-- A writer between records with nothing in progress. -/
theorem Journal.free_takes (j : Journal) : j.free.takes none none := by
  unfold Journal.free
  split
  · exact ⟨rfl, rfl⟩
  · exact rfl

theorem State.oldBankErased_ordered (s : State) : s.oldBankErased.orderedAt s.clk := by
  obtain ⟨_, record, operation, _⟩ := s.rj.eraseDone_work
  unfold State.oldBankErased
  dsimp only
  split
  · exact ⟨rfl, Journal.orderly_of_takes operation⟩
  · rename_i none
    have idle : s.rj.eraseDone.record = .none := by simpa using none
    split
    · rename_i stopping
      unfold State.stopIfDue
      rw [if_pos (by simp_all)]
      refine ⟨rfl, Journal.orderly_of_takes ?_⟩
      simp only [State.withRj_rj, idle, operation]
      exact Writer.stopped_takes _
    · split
      · exact (State.startCompaction_ordered (s := s.withRj _) idle operation).reconsider
      · refine ⟨rfl, Journal.orderly_of_takes ?_⟩
        simp only [State.withRj_rj, idle, operation]
        exact Journal.free_takes _

theorem State.eraseEnd_ordered (erased : Bool) (orderly : s.rj.orderly) (erases : s.rj.operation = some .erase) :
    (s.eraseEnd erased).orderedAt s.clk := by
  unfold State.eraseEnd
  split
  · split
    · rename_i compacting
      rcases Journal.orderly_operation orderly erases with ⟨step, idle, _⟩ | ⟨drains, _⟩ | ⟨_, _, mark⟩
      · exact State.newBankErased_ordered step idle
      · simp [Journal.compacting, drains] at compacting
      · cases mark
    · exact s.oldBankErased_ordered
  · exact s.failOperation_ordered

theorem State.headerWritten_ordered (orderly : s.rj.orderly) (heads : s.rj.operation = some .header) :
    s.headerWritten.orderedAt s.clk := by
  have idle : s.rj.record = none := by
    rcases Journal.orderly_operation orderly heads with ⟨_, idle, _⟩ | ⟨_, erase⟩ | ⟨_, _, mark⟩
    · exact idle
    · cases erase
    · cases mark
  have record := (s.rj.setBank_work s.rj.newBank ⟨s.rj.nextGeneration, false, (s.rj.bank s.rj.newBank).slots⟩).2.1
  unfold State.headerWritten
  dsimp only
  generalize written : s.withRj { s.rj.setBank s.rj.newBank ⟨s.rj.nextGeneration, false, (s.rj.bank s.rj.newBank).slots⟩ with
    operation := none } = s1
  have begun : s1.clk = s.clk ∧ s1.rj.record = none ∧ s1.rj.operation = none := by
    rw [← written]
    exact ⟨rfl, record.trans idle, rfl⟩
  obtain ⟨clock, record, operation⟩ := begun
  rw [← clock]
  split
  · exact State.holdCompaction_ordered record
  · exact (State.walkFrom_ordered (s := s1.withRj { s1.rj with writer := .compacting .snapshot }) 0 rfl record
      operation).reconsider

theorem Journal.afterMark_takes (j : Journal) (old : Option BankId) (idle : j.record = none) :
    (j.afterMark old).writer.takes (j.afterMark old).record (j.afterMark old).operation := by
  cases old with
  | some i => exact rfl
  | none =>
    have free := j.free_takes
    unfold Journal.afterMark
    dsimp only
    rwa [idle]

theorem State.markWritten_ordered (orderly : s.rj.orderly) (marks : s.rj.operation = some .mark) :
    s.markWritten.orderedAt s.clk := by
  have idle : s.rj.record = none := by
    rcases Journal.orderly_operation orderly marks with ⟨_, _, other⟩ | ⟨_, erase⟩ | ⟨_, idle, _⟩
    · exact absurd rfl other
    · cases erase
    · exact idle
  unfold State.markWritten
  dsimp only
  generalize marked : s.withRj { s.rj.setBank s.rj.newBank { s.rj.bank s.rj.newBank with complete := true } with
    active := some s.rj.newBank, heldReports := [], walkTaken := [], walk := 0, unrecorded := false } = s1
  have begun : s1.clk = s.clk ∧ s1.rj.record = none := by
    rw [← marked]
    exact ⟨rfl, (s.rj.setBank_work s.rj.newBank _).2.1.trans idle⟩
  have K := KeptSu.posture s1.posture
  have reported : ((s.rj.heldReports.foldl State.report s1).notify (.journal .compacted)).posture = s1.posture :=
    K.notify _ _ (foldl_keeps (P := fun t : State => t.posture = s1.posture) _ (fun t w kept => K.report w kept) _ rfl)
  generalize (s.rj.heldReports.foldl State.report s1).notify (.journal .compacted) = s2 at reported
  unfold State.posture at reported
  simp only [Prod.mk.injEq] at reported
  obtain ⟨clock, _, record, _⟩ := reported
  refine State.orderedAt.reconsider (State.orderedAt.stopIfDue ⟨clock.trans begun.1, ?_⟩)
  exact Journal.orderly_of_takes (s2.rj.afterMark_takes s.rj.active (record.trans begun.2))

/-! ### Stop and resumption -/

theorem State.stopWriter_ordered (orderly : s.rj.orderly) : s.stopWriter.orderedAt s.clk :=
  State.orderedAt.stopIfDue (s := s.withRj { s.rj with stopping := true }) ⟨rfl, orderly⟩

theorem State.resume_ordered (orderly : s.rj.orderly) : s.resume.orderedAt s.clk := by
  have held : ∀ toFull, s.rj.writer = .held toFull → s.rj.record = none ∧ s.rj.operation = none := fun toFull writer => by
    unfold Journal.orderly at orderly
    rwa [writer] at orderly
  unfold State.resume
  split
  · rename_i writer
    have K := KeptSu.orderedAt s.clk
    have full : (s.withRj { s.rj with writer := .full }).orderedAt s.clk :=
      ⟨rfl, Journal.orderly_of_takes (j := { s.rj with writer := .full }) (held _ writer).2⟩
    exact (State.orderedAt.noteUnable (K.bindRecordings full)).reconsider
  · rename_i writer
    obtain ⟨record, operation⟩ := held _ writer
    split
    · exact (State.startCompaction_ordered record operation).reconsider
    · split
      · exact State.takeHead_ordered orderly (by simp [Journal.compacting, writer]) (by simp [writer])
      · refine ⟨rfl, Journal.orderly_of_takes ?_⟩
        simp only [State.withRj_rj, record, operation]
        exact Journal.free_takes _
  all_goals exact ⟨rfl, orderly⟩

end

end Sys2Proof.Machine

end

section
/-! PROOFS. O5: what keeps the part orderly and at rest, and the frame start. -/

namespace Sys2Proof.Machine

/-! ## What every step keeps of the writer's work and of a part at rest -/

/-- The step from `s` to `t` keeps the part orderly and, while it is not in operation, at rest. -/
structure Orders (s t : State) : Prop where
  order : s.orderly → t.orderly
  rest : s.orderly → s.restsUntilOperation → t.restsUntilOperation

/-- A step beside the writer's work and beside all that rests: the phase and the resets, the writer, the maps, the settings,
START-UP, the open gap, the measurement in flight and the survey stay. -/
structure Beside (s t : State) : Prop where
  phase : t.clk.phase = s.clk.phase
  pin : t.clk.pinHeld = s.clk.pinHeld
  power : t.clk.powerReset = s.clk.powerReset
  reset : t.clk.reset = s.clk.reset
  writer : t.rj.writer = s.rj.writer
  orderly : s.rj.orderly → t.rj.orderly
  owed : t.rj.owed = s.rj.owed
  images : t.rj.liveImages = s.rj.liveImages
  re : t.re = s.re
  live : t.live = s.live
  stored : t.stored = s.stored
  startUp : t.pp.startUp = s.pp.startUp
  gap : t.pp.gap = s.pp.gap
  flight : t.su.inFlight = s.su.inFlight
  survey : t.su.survey = s.su.survey

theorem State.operating_congr {s t : State} (phase : t.clk.phase = s.clk.phase) : t.operating = s.operating := by
  unfold State.operating
  rw [phase]

theorem State.forwarding_congr {s t : State} (phase : t.clk.phase = s.clk.phase) : t.forwarding = s.forwarding := by
  unfold State.forwarding
  rw [phase]

/-- A part that forwards is in neither reset. -/
theorem State.orderly.free {s : State} (orderly : s.orderly) (runs : s.forwarding = true) :
    s.clk.pinHeld = false ∧ s.clk.powerReset = false := by
  have on : s.clk.phase ≠ .off := fun off => by
    unfold State.forwarding at runs
    rw [off] at runs
    cases runs
  exact ⟨Bool.eq_false_iff.2 fun pin => on (orderly.2.2 (.inl pin)), Bool.eq_false_iff.2 fun power => on (orderly.2.2 (.inr power))⟩

namespace Beside

variable {s t u : State}

theorem refl (s : State) : Beside s s := ⟨rfl, rfl, rfl, rfl, rfl, id, rfl, rfl, rfl, rfl, rfl, rfl, rfl, rfl, rfl⟩

theorem trans (first : Beside s t) (second : Beside t u) : Beside s u where
  phase := second.phase.trans first.phase
  pin := second.pin.trans first.pin
  power := second.power.trans first.power
  reset := second.reset.trans first.reset
  writer := second.writer.trans first.writer
  orderly := second.orderly ∘ first.orderly
  owed := second.owed.trans first.owed
  images := second.images.trans first.images
  re := second.re.trans first.re
  live := second.live.trans first.live
  stored := second.stored.trans first.stored
  startUp := second.startUp.trans first.startUp
  gap := second.gap.trans first.gap
  flight := second.flight.trans first.flight
  survey := second.survey.trans first.survey

theorem ite {c : Prop} [Decidable c] (yes : Beside s t) (no : Beside s u) : Beside s (if c then t else u) := by
  split
  · exact yes
  · exact no

theorem of_clk (clk : Clock) (phase : clk.phase = s.clk.phase) (pin : clk.pinHeld = s.clk.pinHeld)
    (power : clk.powerReset = s.clk.powerReset) (reset : clk.reset = s.clk.reset) : Beside s (s.withClk clk) :=
  ⟨phase, pin, power, reset, rfl, id, rfl, rfl, rfl, rfl, rfl, rfl, rfl, rfl, rfl⟩

theorem of_pp (pp : PixelPath) (startUp : pp.startUp = s.pp.startUp) (gap : pp.gap = s.pp.gap) : Beside s (s.withPp pp) :=
  ⟨rfl, rfl, rfl, rfl, rfl, id, rfl, rfl, rfl, rfl, rfl, startUp, gap, rfl, rfl⟩

theorem of_su (su : SenseUnit) (flight : su.inFlight = s.su.inFlight) (survey : su.survey = s.su.survey) :
    Beside s (s.withSu su) := ⟨rfl, rfl, rfl, rfl, rfl, id, rfl, rfl, rfl, rfl, rfl, rfl, rfl, flight, survey⟩

theorem of_rj (rj : Journal) (writer : rj.writer = s.rj.writer) (orderly : s.rj.orderly → rj.orderly)
    (owed : rj.owed = s.rj.owed) (images : rj.liveImages = s.rj.liveImages) : Beside s (s.withRj rj) :=
  ⟨rfl, rfl, rfl, rfl, writer, orderly, owed, images, rfl, rfl, rfl, rfl, rfl, rfl, rfl⟩

theorem of_ci (s : State) (ci : ChainInterface) : Beside s (s.withCi ci) :=
  ⟨rfl, rfl, rfl, rfl, rfl, id, rfl, rfl, rfl, rfl, rfl, rfl, rfl, rfl, rfl⟩

theorem of_cm (s : State) (cm : ConditionMonitor) : Beside s (s.withCm cm) :=
  ⟨rfl, rfl, rfl, rfl, rfl, id, rfl, rfl, rfl, rfl, rfl, rfl, rfl, rfl, rfl⟩

theorem setNotice (s : State) (k : Nat) (n : Notice) : Beside s (s.setNotice k n) :=
  ⟨rfl, rfl, rfl, rfl, rfl, id, rfl, rfl, rfl, rfl, rfl, rfl, rfl, rfl, rfl⟩

theorem notify (s : State) (d : Detail) : Beside s (s.notify d) := setNotice s _ _

theorem tick (s : State) (elapsed : Nat) : Beside s (s.tick elapsed) := of_clk _ rfl rfl rfl rfl

theorem reach (s : State) (time : Nat) : Beside s (s.reach time) := of_clk _ rfl rfl rfl rfl

theorem setDirection (s : State) (p : Port) (d : DirectionState) : Beside s (s.setDirection p d) := by
  cases p <;> exact of_ci _ _

theorem setPort (s : State) (p : Port) (m : PortMonitor) : Beside s (s.setPort p m) := by
  cases p <;> exact of_ci _ _

theorem send (s : State) (lane : Port) (bytes : List Byte) : Beside s (s.send lane bytes) := setDirection s _ _

theorem orders (beside : Beside s t) : Orders s t := by
  have operating := State.operating_congr beside.phase
  refine ⟨fun ⟨work, idle, free⟩ => ⟨beside.orderly work, fun still => ?_, fun held => ?_⟩, fun _ rests still => ?_⟩
  · rw [beside.writer]
    exact idle (operating ▸ still)
  · rw [beside.pin, beside.power] at held
    rw [beside.phase]
    exact free held
  · rw [beside.re, beside.live, beside.stored, beside.owed, beside.images, beside.startUp, beside.gap, beside.flight,
      beside.survey, beside.reset]
    exact rests (operating ▸ still)

end Beside

/-- What the operations of the Repair Engine and the Sense Unit leave: the clock, the writer's state, and an orderly journal. -/
def Steady (s t : State) : Prop := t.clk = s.clk ∧ t.rj.writer = s.rj.writer ∧ (s.rj.orderly → t.rj.orderly)

theorem Steady.refl (s : State) : Steady s s := ⟨rfl, rfl, id⟩

theorem Steady.trans {s t u : State} (first : Steady s t) (second : Steady t u) : Steady s u :=
  ⟨second.1.trans first.1, second.2.1.trans first.2.1, second.2.2 ∘ first.2.2⟩

theorem Steady.of_same {s t : State} (clock : t.clk = s.clk) (journal : t.rj = s.rj) : Steady s t :=
  ⟨clock, by rw [journal], fun orderly => journal ▸ orderly⟩

theorem KeptSu.steady (s : State) : KeptSu (Steady s) where
  inFlight := fun _ _ h => h
  su := fun _ _ _ h => h
  post := fun _ _ _ h => h
  re := fun _ _ _ h => h
  rj := fun _ _ step h => ⟨h.1, step.work.1.trans h.2.1, step.work.2.2.2 ∘ h.2.2⟩
  notify := fun _ _ h => h
  enlist := fun _ _ _ h => h
  full := Or.inr fun _ _ h => h

namespace Orders

variable {s t u : State}

theorem refl (s : State) : Orders s s := ⟨id, fun _ => id⟩

theorem trans (first : Orders s t) (second : Orders t u) : Orders s u :=
  ⟨second.order ∘ first.order, fun orderly rests => second.rest (first.order orderly) (first.rest orderly rests)⟩

theorem ite {c : Prop} [Decidable c] (yes : c → Orders s t) (no : ¬c → Orders s u) : Orders s (if c then t else u) := by
  split
  · exact yes ‹_›
  · exact no ‹_›

theorem when {c : Prop} [Decidable c] (step : c → Orders s t) : Orders s (if c then t else s) := ite step fun _ => refl s

theorem ticked {elapsed : Nat} (rest : Orders (s.tick elapsed) t) : Orders s t := (Beside.tick s elapsed).orders.trans rest

theorem reached {time : Nat} (rest : Orders (s.reach time) t) : Orders s t := (Beside.reach s time).orders.trans rest

/-- A step that leaves the writer's state, and a part at rest beside it. -/
theorem of_steady (steady : Steady s t) (still : s.operating = false → s.restsUntilOperation → Beside s t) :
    Orders s t := by
  obtain ⟨clock, writer, orderly⟩ := steady
  have operating : t.operating = s.operating := State.operating_congr (by rw [clock])
  refine ⟨fun ⟨work, idle, free⟩ => ⟨orderly work, fun stands => ?_, fun held => ?_⟩, fun order rests stands => ?_⟩
  · rw [writer]
    exact idle (operating ▸ stands)
  · rw [clock] at held ⊢
    exact free held
  · exact (still (operating ▸ stands) rests).orders.rest order rests stands

/-- A step of a part in operation that leaves the clock and the journal orderly. -/
theorem of_running (runs : s.operating = true) (ordered : s.rj.orderly → t.orderedAt s.clk) : Orders s t := by
  refine ⟨fun order => ?_, fun order _ stands => ?_⟩
  · obtain ⟨clock, orderly⟩ := ordered order.1
    have operating : t.operating = true := (State.operating_congr (by rw [clock])).trans runs
    refine ⟨orderly, fun stands => ?_, fun held => ?_⟩
    · rw [operating] at stands
      cases stands
    · rw [clock] at held ⊢
      exact order.2.2 held
  · have operating : t.operating = true := (State.operating_congr (by rw [(ordered order.1).1])).trans runs
    rw [operating] at stands
    cases stands

end Orders

/-- A reset leaves the part in order and at rest (R146, R152). -/
theorem State.resetBlocks_orders (s : State) {phase : StartPhase} (bank0 bank1 : Bank)
    (free : s.orderly → (s.clk.pinHeld = true ∨ s.clk.powerReset = true) → phase = .off) :
    Orders s (s.resetBlocks phase bank0 bank1) :=
  ⟨fun orderly => ⟨⟨rfl, rfl⟩, fun _ => rfl, free orderly⟩, fun _ _ _ => ⟨rfl, rfl, rfl, rfl, rfl, rfl, rfl, rfl, rfl, rfl⟩⟩

theorem State.resetPoint_orders {s : State} (runs : s.forwarding = true) : Orders s s.resetPoint := by
  have reset := s.resetBlocks_orders (phase := .starting)
    ((s.rj.finishRecord s.clk.free).finishOperation (s.clk.free + 2)).bank0
    ((s.rj.finishRecord s.clk.free).finishOperation (s.clk.free + 2)).bank1 fun orderly held => by
      obtain ⟨pin, power⟩ := State.orderly.free orderly runs
      rw [pin, power] at held
      simp at held
  have goesOn : ∀ (r : State) ci n, Beside r ((r.withCi ci).withClk { r.clk with free := n }) := fun r ci _ =>
    (Beside.of_ci r ci).trans (.of_clk _ rfl rfl rfl rfl)
  exact reset.trans (goesOn _ _ _).orders

/-! ### The frame start -/

theorem State.newFrame_beside (s : State) (complete : Bool) : Beside s (s.newFrame complete) := by
  obtain ⟨_, _, startUp, gap⟩ := s.newFrame_routes complete
  exact .of_pp _ startUp gap

theorem State.sample_beside (s : State) (sensor : Int) : Beside s (s.sample sensor) := by
  unfold State.sample
  dsimp only
  exact .ite (.of_cm _ _) ((Beside.of_cm _ _).trans (.notify _ _))

theorem State.endSurvey_of_none {s : State} (unsurveyed : s.su.survey = none) (o : SurveyOutcome) : s.endSurvey o = s := by
  unfold State.endSurvey
  rw [unsurveyed]

theorem State.senseFrame_beside {s : State} (unsurveyed : s.su.survey = none) : Beside s s.senseFrame := by
  have first : Beside s (s.withSu { s.su with status := s.su.statusAt s.cm.temp, sweepCount := 0 }) := .of_su _ rfl rfl
  unfold State.senseFrame
  dsimp only
  refine .ite (first.trans ?_) first
  rw [State.endSurvey_of_none (first.survey.trans unsurveyed)]
  exact .refl _

theorem State.applyRoutes_beside {s : State} (stands : s.operating = false) : Beside s s.applyRoutes := by
  unfold State.applyRoutes
  rw [if_neg (by simp [stands])]
  exact .of_pp _ rfl rfl

theorem State.latchScale_beside (s : State) : Beside s s.latchScale := .of_pp _ rfl rfl

theorem State.beforeRoutes_steady (s : State) (sensor : Int) (complete : Bool) :
    Steady s (s.beforeRoutes sensor complete) := by
  obtain ⟨clock, _, _, _, _, _, journal⟩ := (s.newFrame complete).sample_frame sensor
  obtain ⟨clock', _, _, _, _, journal'⟩ := ((s.newFrame complete).sample sensor).senseFrame_frame
  exact (KeptSu.steady s).repairFrame (.of_same (clock'.trans clock) (journal'.trans journal))

theorem State.frameStart_orders {s : State} (runs : s.forwarding = true) (sensor : Int) (complete : Bool) :
    Orders s (s.frameStart sensor complete) := by
  by_cases due : s.clk.reset = .ready
  · have reset : s.frameStart sensor complete = s.resetPoint := if_pos due
    exact reset ▸ State.resetPoint_orders runs
  · rw [State.frameStart_eq sensor complete due]
    have before := s.beforeRoutes_steady sensor complete
    have idle : s.operating = false → s.restsUntilOperation → Beside s (s.beforeRoutes sensor complete) :=
      fun stands rests => by
        obtain ⟨re, _, _, _, _, _, _, _, survey, _⟩ := rests stands
        rw [s.beforeRoutes_idle sensor complete (by rw [re]; rfl) (by rw [re]; rfl)]
        have sampled := (s.newFrame_beside complete).trans (State.sample_beside _ sensor)
        exact sampled.trans (State.senseFrame_beside (sampled.survey.trans survey))
    generalize s.beforeRoutes sensor complete = b at before idle
    obtain ⟨clock, _, _, _, _, journal, _, _⟩ := b.applyRoutes_frame
    refine .of_steady (before.trans (.of_same clock journal)) fun stands rests => ?_
    have still := idle stands rests
    exact (still.trans (State.applyRoutes_beside ((State.operating_congr still.phase).trans stands))).trans
      (State.latchScale_beside _)

theorem State.settleTimer_orders {s : State} (runs : s.forwarding = true) (wasLive : Bool) (sensor : Int) :
    Orders s (s.settleTimer wasLive sensor) := .when fun _ => State.frameStart_orders runs _ _

theorem State.timerExpiry_orders {s : State} (runs : s.forwarding = true) (sensor : Int) :
    Orders s (s.timerExpiry sensor) :=
  .reached (State.frameStart_orders ((State.forwarding_congr (Beside.reach s _).phase).trans runs) _ _)

end Sys2Proof.Machine

end

section
/-! PROOFS. O5: gaps, the chain and requests keep the part orderly. -/

namespace Sys2Proof.Machine

section

variable {s : State}

/-! ### The gaps (R28, R42, R58) -/

theorem State.endSurvey_steady (s : State) (o : SurveyOutcome) : Steady s (s.endSurvey o) := by
  obtain ⟨clock, _, _, _, _, journal⟩ := s.endSurvey_frame o
  exact .of_same clock journal

theorem State.wrapRow_steady (s : State) (row : Nat) : Steady s (s.wrapRow row) := by
  have set : ∀ v, Steady s (s.setSurvey v) := fun _ => .of_same rfl rfl
  unfold State.wrapRow
  split
  · exact .refl s
  · dsimp only
    split
    · split
      · exact (set _).trans (State.endSurvey_steady _ _)
      · exact set _
    · exact set _

theorem State.surveyGap_steady (s : State) (index row : Nat) (v : Survey) : Steady s (s.surveyGap index row v) := by
  unfold State.surveyGap
  split
  · exact .refl s
  · split
    · exact s.wrapRow_steady row
    · split
      · exact .refl s
      · exact .of_same rfl rfl

theorem State.sweepGap_steady (s : State) (index row : Nat) : Steady s (s.sweepGap index row) := by
  unfold State.sweepGap
  split
  · exact .refl s
  · split
    · split
      · exact .refl s
      · exact .of_same rfl rfl
    · exact .refl s

theorem State.grant_steady (s : State) (index : Nat) (g : Grant) (surveyed wraps : Bool) :
    Steady s (s.grant index g surveyed wraps) := .of_same rfl rfl

theorem State.arbitrate_steady (s : State) (index row : Nat) : Steady s (s.arbitrate index row) := by
  unfold State.arbitrate
  split
  · exact s.grant_steady _ _ _ _
  · split
    · exact s.grant_steady _ _ _ _
    · split
      · exact s.grant_steady _ _ _ _
      · split
        · exact s.surveyGap_steady _ _ _
        · exact s.sweepGap_steady _ _

theorem State.openGap_steady (s : State) : Steady s s.openGap := by
  have opened : ∀ pp, Steady s (s.withPp pp) := fun _ => .of_same rfl rfl
  unfold State.openGap
  dsimp only
  split
  · exact opened _
  · split
    · exact (opened _).trans (State.grant_steady _ _ _ _ _)
    · exact opened _
  · exact (opened _).trans (State.arbitrate_steady _ _ _)

theorem State.tallySurvey_steady (s : State) (m : Measurement) (cls : VerdictClass) : Steady s (s.tallySurvey m cls) := by
  have set : ∀ v, Steady s (s.setSurvey v) := fun _ => .of_same rfl rfl
  unfold State.tallySurvey
  split
  · split
    · dsimp only
      split
      · exact (set _).trans (State.wrapRow_steady _ _)
      · exact set _
    · exact .refl s
  · exact .refl s

theorem State.referenceRuns_steady (s : State) (good : Bool) : Steady s (s.referenceRuns good) := by
  have same : ∀ v, Steady s (s.withSu v) := fun _ => .of_same rfl rfl
  have noted : ∀ v d, Steady s ((s.withSu v).notify d) := fun _ _ => .of_same rfl rfl
  unfold State.referenceRuns
  split
  · exact same _
  · split
    · exact same _
    · exact (noted _ _).trans (State.endSurvey_steady _ _)
  · exact same _
  · split
    · exact same _
    · exact noted _ _

theorem State.endReferenceGap_steady (s : State) (raw : Nat) : Steady s (s.endReferenceGap raw) :=
  (Steady.of_same rfl rfl : Steady s (s.withSu _)).trans (State.referenceRuns_steady _ _)

theorem State.endUnitGap_steady (s : State) (m : Measurement) (u : UnitId) (purpose : Purpose) (channel : Option Nat)
    (raw : Nat) : Steady s (s.endUnitGap m u purpose channel raw) :=
  (KeptSu.steady s).handVerdict _ ((Steady.of_same rfl rfl : Steady s (s.withSu _)).trans (State.tallySurvey_steady _ _ _))

theorem State.endGap_steady (s : State) (ticks : Nat) (regulatedFirst : Bool) : Steady s (s.endGap ticks regulatedFirst) := by
  have closed : Steady s ((s.withPp { s.pp with gap := none }).withSu { s.su with inFlight := none }) := .of_same rfl rfl
  unfold State.endGap
  dsimp only
  split
  · exact closed
  · split
    · exact closed.trans (State.endReferenceGap_steady _ _)
    · exact closed.trans (State.endUnitGap_steady _ _ _ _ _ _)

/-- No gap opens while START-UP blanks the part. -/
theorem State.openGap_orders (may : s.mayOpenGap = true) : Orders s s.openGap :=
  .of_steady s.openGap_steady fun stands rests => by
    obtain ⟨_, _, _, _, _, startUp, _⟩ := rests stands
    simp [State.mayOpenGap, startUp] at may

theorem State.endGap_orders (isOpen : s.pp.gap.isSome = true) (ticks : Nat) (regulatedFirst : Bool) :
    Orders s (s.endGap ticks regulatedFirst) :=
  .of_steady (s.endGap_steady ticks regulatedFirst) fun stands rests => by
    obtain ⟨_, _, _, _, _, _, gap, _⟩ := rests stands
    simp [gap] at isOpen

/-! ### The chain (chapter 10) -/

theorem State.forwardHead_beside (s : State) (lane : Port) (r : HeadRecord) : Beside s (s.forwardHead lane r) :=
  .setDirection s _ _

theorem State.monitorHead_beside (s : State) (lane : Port) : Beside s (s.monitorHead lane) := by
  have noted : ∀ (t : State) old new, Beside t (t.noteCadence lane old new) := fun t _ _ =>
    .ite ((Beside.setPort t _ _).trans (.notify _ _)) (.refl t)
  have heard := Beside.setPort s lane ((s.ci.port lane).hear s.clk.now)
  unfold State.monitorHead
  dsimp only
  split
  · exact heard.trans (noted _ _ _)
  · exact heard
  · exact heard

theorem State.discardCapture_beside (s : State) : Beside s s.discardCapture := .of_pp _ rfl rfl

theorem State.changeFeed_beside (s : State) (new : Option Port) (cause : FeedCause) : Beside s (s.changeFeed new cause) := by
  have changed := s.discardCapture_beside.trans (Beside.of_ci _ { s.ci with
    feed := new, pendingSwitch := none, returnCount := 0, leftNone := s.ci.leftNone || s.ci.feed.isNone })
  exact .ite changed (changed.trans (.notify _ _))

theorem State.selectOnHead_beside (s : State) (lane : Port) : Beside s (s.selectOnHead lane) := by
  have left : ∀ free, Beside s (s.withClk { s.clk with free := free }) := fun _ => .of_clk _ rfl rfl rfl rfl
  unfold State.selectOnHead
  split
  · exact (left _).trans (State.changeFeed_beside _ _ _)
  · exact .ite (s.changeFeed_beside _ _) (.of_ci s _)
  · exact .ite (.ite (.of_ci s _) (s.changeFeed_beside _ _)) (.refl s)

theorem State.openCapture_beside (s : State) (r : HeadRecord) : Beside s (s.openCapture r) := .of_pp _ rfl rfl

theorem State.headArrives_orders (runs : s.forwarding = true) (lane : Port) (r : HeadRecord) (sensor : Int) :
    Orders s (s.headArrives lane r sensor) := by
  have heard : Beside s (((s.forwardHead lane r).monitorHead lane).selectOnHead lane) :=
    ((s.forwardHead_beside lane r).trans (State.monitorHead_beside _ lane)).trans (State.selectOnHead_beside _ lane)
  have settled := heard.orders.trans (State.settleTimer_orders ((State.forwarding_congr heard.phase).trans runs) s.feedLive
    sensor)
  exact .ite (fun _ => settled.trans (State.openCapture_beside _ r).orders) fun _ => settled

theorem State.tailArrives_orders (runs : s.forwarding = true) (lane : Port) (r : TailRecord) (sensor : Int) :
    Orders s (s.tailArrives lane r sensor) := by
  have sent : Beside s (s.forwardTail lane r) := .setDirection s _ _
  have closed : Beside (s.forwardTail lane r) (s.forwardTail lane r).closeCapture := .of_pp _ rfl rfl
  have both := sent.trans closed
  refine .ite (fun _ => .ite (fun _ => ?_) fun _ => both.orders) fun _ => sent.orders
  exact both.orders.trans (State.frameStart_orders ((State.forwarding_congr both.phase).trans runs) _ _)

theorem State.selectOnLoss_beside (s : State) (lane : Port) : Beside s (s.selectOnLoss lane) := by
  have first : Beside s (if lane = s.preferredPort then s.withCi { s.ci with returnCount := 0 } else s) :=
    .ite (.of_ci s _) (.refl s)
  unfold State.selectOnLoss
  dsimp only
  refine .ite (.ite ?_ ?_) (.ite ?_ first)
  · exact (first.trans (State.discardCapture_beside _)).trans (.of_ci _ _)
  · exact first.trans (State.changeFeed_beside _ _ _)
  · exact first.trans (State.changeFeed_beside _ _ _)

theorem State.losePort_orders (runs : s.forwarding = true) (lane : Port) (sensor : Int) :
    Orders s (s.losePort lane sensor) := by
  have lost : ∀ t : State, ∀ m, Beside t ((t.setPort lane m).selectOnLoss lane) := fun t m =>
    (Beside.setPort t lane m).trans (State.selectOnLoss_beside _ lane)
  have absent : ∀ time m, Beside s (((s.reach time).setPort lane m).selectOnLoss lane) := fun time m =>
    (Beside.reach s time).trans (lost _ m)
  have still : ∀ time m, (((s.reach time).setPort lane m).selectOnLoss lane).forwarding = true := fun time m =>
    (State.forwarding_congr (absent time m).phase).trans runs
  exact (absent _ _).orders.trans (State.settleTimer_orders (still _ _) _ _)

theorem State.takeLine_beside (s : State) (lane : Port) (r : LineRecord) :
    Beside s (let s1 := s.send lane (LineRecord.bytes r)
      if LineRecord.inRange r && decide (s.ci.feed = some lane) then s1.withPp (s1.pp.takeLine r) else s1) := by
  have sent := Beside.send s lane (LineRecord.bytes r)
  obtain ⟨_, _, startUp, gap⟩ := (s.send lane (LineRecord.bytes r)).pp.takeLine_routes r
  exact .ite (sent.trans (.of_pp _ startUp gap)) sent

/-- A change of the pending RESET, made where one is pending or the part is in operation. -/
theorem Orders.of_pending {r : PendingReset} (awaited : s.operating = true ∨ s.clk.reset ≠ .none) :
    Orders s (s.withClk { s.clk with reset := r }) := by
  refine ⟨id, fun _ rests stands => ?_⟩
  rcases awaited with runs | awaited
  · exact absurd (runs.symm.trans stands) (by decide)
  · obtain ⟨_, _, _, _, _, _, _, _, _, reset⟩ := rests stands
    exact absurd reset awaited

theorem State.placeReply_orders (s : State) (lane : Port) (reply : Reply) (rest : List Reply) :
    Orders s (s.placeReply lane reply rest) := by
  refine (Beside.setDirection s lane _).orders.trans (.when fun waits => .of_pending (.inr ?_))
  rw [waits.1]
  nofun

/-! ### Requests (R163, R164) -/

/-- A request relates the state before it to the one after it as what its block does relates them, beside the chain. -/
theorem State.request_relates {R : State → State → Prop} (refl : ∀ t, R t t) (trans : ∀ {t u v}, R t u → R u v → R t v)
    (chain : ∀ t p d, R t (t.setDirection p d)) (s : State) (r : Request) {kind : Byte} {op : State → State × Answer}
    (decided : ∀ t : State, R t (t.decideRequest r kind op).1) : R s (s.request r kind op) := by
  have considered : ∀ t : State, R t ((t.send r.lane (Request.bytes r kind)).consider r.lane) := fun t =>
    trans (chain t _ _) (chain _ _ _)
  unfold State.request State.take
  dsimp only
  repeat' split
  · exact refl s
  · exact chain s _ _
  · exact considered s
  · exact trans (considered s) (chain _ _ _)
  · exact trans (considered s) (decided _)
  · exact trans (trans (considered s) (decided _)) (chain _ _ _)

theorem State.request_orders_of_decided (s : State) (r : Request) {kind : Byte} {op : State → State × Answer}
    (decided : ∀ t : State, Orders t (t.decideRequest r kind op).1) : Orders s (s.request r kind op) :=
  State.request_relates .refl .trans (fun t p d => (Beside.setDirection t p d).orders) s r decided

/-- Before the part is in operation every request but IDENTIFY is answered BUSY. -/
theorem State.request_orders (s : State) (r : Request) {kind : Byte} {op : State → State × Answer} (other : kind ≠ 1)
    (own : ∀ t : State, t.operating = true → Orders t (op t).1) : Orders s (s.request r kind op) := by
  refine s.request_orders_of_decided r fun t => ?_
  unfold State.decideRequest
  by_cases runs : t.operating = true
  · repeat' split
    · exact .refl t
    · exact .refl t
    · exact .refl t
    · exact own t runs
  · rw [if_pos (by simpa [runs] using other)]
    exact .refl t

theorem State.request_orders_of_read (s : State) (r : Request) (kind : Byte) {op : State → State × Answer}
    (read : ∀ t, (op t).1 = t) : Orders s (s.request r kind op) := by
  refine s.request_orders_of_decided r fun t => ?_
  unfold State.decideRequest
  repeat' split
  · exact .refl t
  · exact .refl t
  · exact .refl t
  · rw [read]
    exact .refl t

end

end Sys2Proof.Machine

end

section
/-! PROOFS. O5: settings, power and the end of start-up keep the part orderly. -/

namespace Sys2Proof.Machine

section

variable {s : State}

/-! ### The requests that change more than their block's tables -/

/-- A block's work in a part in operation. -/
theorem Orders.of_block {s t : State} (runs : s.operating = true) (steady : Steady s t) : Orders s t :=
  .of_steady steady fun stands => absurd (runs.symm.trans stands) (by decide)

theorem State.changeSetting_steady (s : State) (n v : Nat) (persist : Bool) : Steady s (s.changeSetting n v persist) := by
  have live : Steady s (s.setLive n v) := .of_same rfl rfl
  unfold State.changeSetting
  dsimp only
  split
  · exact (KeptSu.steady s).imageChanged _ _ _ live
  · exact live

theorem State.settingEffect_steady (s : State) (n old v : Nat) : Steady s (s.settingEffect n old v) := by
  have K := KeptSu.steady s
  have same := Steady.refl s
  unfold State.settingEffect
  repeat' split
  · exact K.reconsider (K.newThreshold _ _ same)
  · exact K.reconsider (K.newLimit _ same)
  · exact same
  · exact K.reconsider (K.newLimit _ same)
  · exact same
  · exact K.reconsider same
  · exact .of_same rfl rfl
  · exact same

theorem setOp_steady (body : List Byte) (s : State) : Steady s (setOp body s).1 := by
  unfold setOp
  repeat' split
  · exact .refl s
  · exact .refl s
  · exact .refl s
  · exact .refl s
  · exact (s.changeSetting_steady _ _ _).trans (State.settingEffect_steady _ _ _ _)

theorem assignIdOp_steady (body : List Byte) (s : State) : Steady s (assignIdOp body s).1 := by
  unfold assignIdOp
  repeat' split
  · exact .refl s
  · exact .refl s
  · exact s.changeSetting_steady _ _ _

theorem State.emptyBody_steady (s : State) (body : List Byte) {op : State → State × Answer} (own : Steady s (op s).1) :
    Steady s (s.emptyBody body op).1 := by
  unfold State.emptyBody
  split
  · exact own
  · exact .refl s

theorem compactOp_steady (body : List Byte) (s : State) : Steady s (compactOp body s).1 := by
  refine s.emptyBody_steady body ?_
  split
  · exact ⟨rfl, rfl, id⟩
  · exact ⟨rfl, rfl, id⟩
  · exact ⟨rfl, rfl, id⟩
  all_goals exact .refl s

theorem clearOp_steady (body : List Byte) (s : State) : Steady s (clearOp body s).1 := by
  have cleared : ∀ (t : State) k seen, Steady t (t.clearKind k seen) := fun t k seen => by
    unfold State.clearKind State.clearMarks
    dsimp only
    repeat' split
    all_goals exact .of_same rfl rfl
  unfold clearOp
  repeat' split
  · exact .refl s
  · exact .refl s
  · exact foldl_keeps (P := Steady s) _ (fun t p kept => kept.trans (cleared t _ _)) _ (.refl s)

theorem resetOp_orders (runs : s.operating = true) (r : Request) : Orders s (resetOp r s).1 := by
  unfold resetOp State.emptyBody
  split
  · dsimp only
    split
    · exact .refl s
    · exact .of_pending (.inl runs)
  · exact .refl s

/-- A SET before the part forwards changes nothing, so no frame start comes with it. -/
theorem execSet_orders (s : State) (r : Request) (m : Moment) :
    Orders s (((s.tick m.elapsed).request r 3 (setOp r.body)).settleFreeRun s m.sensor) := by
  by_cases runs : s.forwarding = true
  · have asked : Orders (s.tick m.elapsed) ((s.tick m.elapsed).request r 3 (setOp r.body)) :=
      State.request_orders _ r (by decide) fun t runs => .of_block runs (setOp_steady _ t)
    refine .ticked (asked.trans ?_)
    have steady : Steady (s.tick m.elapsed) ((s.tick m.elapsed).request r 3 (setOp r.body)) := by
      refine State.request_relates .refl .trans (fun t p _ => by cases p <;> exact .of_same rfl rfl) _ r fun t => ?_
      unfold State.decideRequest
      repeat' split
      · exact .refl t
      · exact .refl t
      · exact .refl t
      · exact setOp_steady _ t
    have still := (State.forwarding_congr (congrArg Clock.phase steady.1)).trans runs
    exact .when fun _ => State.frameStart_orders still _ _
  · have still : (s.tick m.elapsed).forwarding = false := Bool.eq_false_iff.2 runs
    have silent : (s.tick m.elapsed).request r 3 (setOp r.body) = s.tick m.elapsed := if_pos (by simp [still])
    rw [silent]
    unfold State.settleFreeRun
    rw [if_neg fun due => due.1 rfl]
    exact (Beside.tick s _).orders

/-! ### Power (chapter 9) -/

theorem State.noteSupply_beside (s : State) : Beside s s.noteSupply := .ite (.notify _ _) (.refl s)

theorem State.supplyLow_orders (s : State) : Orders s s.supplyLow := by
  have scaled : ∀ t : State, Beside t (t.withPp { t.pp with scaleDerate := 40 }) := fun _ => .of_pp _ rfl rfl
  have low : Beside s (((s.setSupply .low).withPp { (s.setSupply .low).pp with scaleDerate := 40 }).noteSupply) :=
    ((Beside.of_cm s _).trans (scaled _)).trans (State.noteSupply_beside _)
  unfold State.supplyLow
  dsimp only
  refine .ite (fun runs => low.orders.trans ?_) fun _ => low.orders
  exact .of_running runs fun orderly => State.stopWriter_ordered orderly

theorem State.supplyGood_orders (s : State) : Orders s s.supplyGood := by
  have good : Beside s ((s.setSupply .good).withRj { (s.setSupply .good).rj with goodSince := (s.setSupply .good).clk.now }) :=
    (Beside.of_cm s _).trans (.of_rj _ rfl id rfl rfl)
  have scaled : ∀ t : State, Beside t t.resetScale := fun t => .ite (.refl t) (.of_pp _ rfl rfl)
  exact ((good.trans (scaled _)).trans (State.noteSupply_beside _)).orders

/-- In a part that is off the clock may change, while it stays off. -/
theorem Orders.of_off {clk : Clock} (off : s.orderly → s.clk.phase = .off) (phase : clk.phase = s.clk.phase)
    (reset : clk.reset = s.clk.reset) : Orders s (s.withClk clk) := by
  have operating : (s.withClk clk).operating = s.operating := State.operating_congr phase
  refine ⟨fun order => ⟨order.1, fun stands => order.2.1 (operating ▸ stands), fun _ => phase.trans (off order)⟩,
    fun _ rests stands => ?_⟩
  obtain ⟨re, live, stored, owed, images, startUp, gap, flight, survey, pending⟩ := rests (operating ▸ stands)
  exact ⟨re, live, stored, owed, images, startUp, gap, flight, survey, reset.trans pending⟩

/-- The end of a reset: the settle begins, unless the other reset still holds the part (R152). -/
theorem State.released_orders {clk : Clock} (held : s.clk.pinHeld = true ∨ s.clk.powerReset = true)
    (phase : clk.phase = s.clk.phase) (reset : clk.reset = s.clk.reset) : Orders s (s.withClk clk).beginSettle := by
  have stands : s.orderly → s.operating = false := fun order => by
    unfold State.operating
    rw [order.2.2 held]
    rfl
  refine .ite (fun _ => .of_off (fun order => order.2.2 held) phase reset) fun free => ?_
  refine ⟨fun order => ⟨order.1, fun _ => order.2.1 (stands order), fun still => ?_⟩, fun order rests _ => ?_⟩
  · have none : (clk.pinHeld || clk.powerReset) = true := by simpa using still
    exact absurd none free
  · obtain ⟨re, live, stored, owed, images, startUp, gap, flight, survey, pending⟩ := rests (stands order)
    exact ⟨re, live, stored, owed, images, startUp, gap, flight, survey, reset.trans pending⟩

theorem State.powerUp_orders (held : s.clk.powerReset = true) : Orders s s.powerUp :=
  (Beside.of_cm s _).orders.trans (State.released_orders (s := s.setSupply .good) (.inr held) rfl rfl)

theorem State.stopPart_orders (s : State) (cut : Cut) : Orders s (s.stopPart cut) :=
  s.resetBlocks_orders _ _ fun _ _ => rfl

theorem State.beginScanning_orders (settles : s.clk.phase = .settling) : Orders s s.beginScanning := by
  have stands : s.operating = false := by
    unfold State.operating
    rw [settles]
    rfl
  have scanning : Orders s (s.withClk { s.clk with phase := .starting }) := by
    refine ⟨fun order => ⟨order.1, fun _ => order.2.1 stands, fun held => ?_⟩, fun _ rests _ => rests stands⟩
    have off := order.2.2 held
    rw [settles] at off
    cases off
  have timed : ∀ (t : State) now, Beside t (t.withPp { t.pp with frameStartAt := now }) := fun _ _ => .of_pp _ rfl rfl
  exact scanning.trans (timed _ _).orders

/-! ### The end of start-up (R140 to R142, R146) -/

theorem State.bankScan_posture (s : State) : s.bankScan.posture = s.posture := by
  unfold State.bankScan
  dsimp only
  repeat' split
  all_goals rfl

theorem State.noteDamaged_posture (s : State) : s.noteDamaged.posture = s.posture := by
  have noted : ∀ (n : Nat) (t : State),
      (Nat.repeat (fun t => t.notify (.journal .damagedRecord)) n t).posture = t.posture := by
    intro n t
    induction n with
    | zero => rfl
    | succ n ih => exact ih
  exact noted _ _

theorem State.reconcile_posture (s : State) (r : Replayed) : (s.reconcile r).posture = s.posture := by
  unfold State.reconcile State.countImages
  rw [State.computeTallies_frame]
  rfl

theorem State.stopIfLow_ordered {clk : Clock} (clock : s.clk = clk) (record : s.rj.record = none)
    (operation : s.rj.operation = none) (free : s.rj.writer.takes none none) : s.stopIfLow.orderedAt clk := by
  unfold State.stopIfLow
  split
  · refine ⟨clock, Journal.orderly_of_takes ?_⟩
    simp only [State.withRj_rj, record, operation]
    exact Writer.stopped_takes _
  · refine ⟨clock, Journal.orderly_of_takes ?_⟩
    rw [record, operation]
    exact free

theorem State.startWriter_ordered (record : s.rj.record = none) (operation : s.rj.operation = none) :
    s.startWriter.orderedAt s.clk := by
  unfold State.startWriter
  split
  · have full := s.enterFull_posture
    unfold State.posture at full
    simp only [Prod.mk.injEq] at full
    obtain ⟨clock, writer, record', operation'⟩ := full
    exact State.stopIfLow_ordered clock (record'.trans record) (operation'.trans operation) (writer ▸ rfl)
  · split
    · split
      · exact ⟨rfl, record, operation⟩
      · exact State.startCompaction_ordered record operation
    · exact State.stopIfLow_ordered rfl record operation ⟨rfl, rfl⟩

theorem State.frameStart_phase {s : State} (starting : s.clk.phase = .starting) (sensor : Int) (complete : Bool) :
    (s.frameStart sensor complete).clk.phase = .starting := by
  by_cases due : s.clk.reset = .ready
  · have reset : s.frameStart sensor complete = s.resetPoint := if_pos due
    rw [reset]
    rfl
  · rw [State.frameStart_eq sensor complete due]
    have clock := (s.beforeRoutes_steady sensor complete).1
    generalize s.beforeRoutes sensor complete = b at clock
    exact (congrArg Clock.phase (b.applyRoutes_frame.1.trans clock)).trans starting

theorem State.endReplay_orders (starting : s.clk.phase = .starting) (sensor : Int) : Orders s (s.endReplay sensor) := by
  refine ⟨fun order => ?_, fun _ _ stands => ?_⟩
  · have stands : s.operating = false := by
      unfold State.operating
      rw [starting]
      rfl
    have scanned := s.bankScan.noteDamaged_posture.trans s.bankScan_posture
    unfold State.endReplay
    dsimp only
    generalize s.bankScan.noteDamaged = s1 at scanned
    generalize s1.rj.replay = r
    have restored : (s1.restoreSettings r).posture = s.posture := scanned
    generalize s1.restoreSettings r = u at restored
    unfold State.posture at restored
    simp only [Prod.mk.injEq] at restored
    obtain ⟨clock, writer, record, operation⟩ := restored
    have idle := order.2.1 stands
    have work := order.1
    unfold Journal.orderly at work
    rw [idle] at work
    have begun : u.orderly := by
      refine ⟨Journal.orderly_of_takes ?_, fun _ => writer.trans idle, by rw [clock]; exact order.2.2⟩
      rw [writer, record, operation, idle]
      exact work
    have phase : u.clk.phase = .starting := by rw [clock, starting]
    have forwards : ∀ {t : State}, t.clk.phase = .starting → t.forwarding = true := fun phase => by
      unfold State.forwarding
      rw [phase]
    have settled : (u.settleFreeRun s1 sensor).orderly ∧ (u.settleFreeRun s1 sensor).clk.phase = .starting := by
      unfold State.settleFreeRun
      split
      · exact ⟨(State.frameStart_orders (forwards phase) _ _).order begun, State.frameStart_phase phase _ _⟩
      · exact ⟨begun, phase⟩
    generalize u.settleFreeRun s1 sensor = v at settled
    obtain ⟨orderly, phase⟩ := settled
    obtain ⟨pin, power⟩ := State.orderly.free orderly (forwards phase)
    have idle : v.rj.writer = .idle := orderly.2.1 (by unfold State.operating; rw [phase]; rfl)
    have work := orderly.1
    unfold Journal.orderly at work
    rw [idle] at work
    have reconciled := v.reconcile_posture r
    generalize v.reconcile r = w at reconciled
    unfold State.posture at reconciled
    simp only [Prod.mk.injEq] at reconciled
    obtain ⟨clock, _, record, operation⟩ := reconciled
    obtain ⟨clock', written⟩ := State.startWriter_ordered (record.trans work.1) (operation.trans work.2)
    refine ⟨written, nofun, fun held => ?_⟩
    change w.startWriter.clk.pinHeld = true ∨ w.startWriter.clk.powerReset = true at held
    rw [clock', clock, pin, power] at held
    simp at held
  · cases stands

end

end Sys2Proof.Machine

end

section
/-! PROOFS. O5: every command, and the steps. -/

namespace Sys2Proof.Machine

/-! ### Every command keeps the part orderly, and at rest until it is in operation -/

theorem exec_orders (c : Instr) {s t : State} (done : exec c s = .next t) : Orders s t := by
  -- A request of a block, answered only in operation.
  have asked : ∀ (r : Request) {kind : Byte} {op : State → State × Answer}, kind ≠ 1 → (∀ u : State, Steady u (op u).1) →
      Orders s (s.request r kind op) := fun r _ _ other own =>
    s.request_orders r other fun u runs => .of_block runs (own u)
  have K := KeptSu.steady
  cases c <;> simp only [exec] at done <;> injection done with done <;> subst done
  case frameHead lane r m =>
    exact .ite (fun runs => .ticked (State.headArrives_orders (s := s.tick m.elapsed) runs _ _ _)) fun _ =>
      (Beside.tick s _).orders
  case line lane r => exact .when fun _ => (s.takeLine_beside lane r).orders
  case replySlot lane r =>
    refine .when fun _ => ?_
    split
    · exact .ite (fun _ => s.placeReply_orders lane _ _) fun _ => (Beside.send s _ _).orders
    · exact (Beside.send s _ _).orders
  case frameTail lane r m =>
    exact .ite (fun runs => .ticked (State.tailArrives_orders (s := s.tick m.elapsed) runs _ _ _)) fun _ =>
      (Beside.tick s _).orders
  case recordBadCheck lane bytes =>
    have voided : ∀ u : State, Beside u (u.voidInterval lane) := fun u => .setPort u _ _
    exact .when fun _ => (Beside.ite (.send s _ _) ((Beside.send s _ _).trans (voided _))).orders
  case frameTimerExpiry x => exact .when fun runs => State.timerExpiry_orders runs x
  case stale x =>
    refine .when fun due => State.timerExpiry_orders ?_ x
    simp only [Bool.and_eq_true] at due
    exact due.1.1
  case provingTimeout x =>
    refine .when fun due => State.timerExpiry_orders ?_ x
    simp only [Bool.and_eq_true] at due
    exact due.1.1
  case rowGapOpen => exact .when fun may => State.openGap_orders may
  case rowGapEnd ticks first => exact .when fun isOpen => State.endGap_orders isOpen ticks first
  case portLossWatchdog lane x =>
    refine .when fun live => State.losePort_orders ?_ lane x
    simp only [Bool.and_eq_true] at live
    exact live.1
  case feedReturn r m =>
    refine .ite (fun may => .ticked (State.headArrives_orders (s := s.tick m.elapsed) ?_ _ _ _)) fun _ =>
      (Beside.tick s _).orders
    simp only [State.mayReturn, Bool.and_eq_true] at may
    exact may.1.1
  case unknownKind r kind => exact .ite (fun _ => .refl s) fun _ => s.request_orders_of_read r kind fun _ => rfl
  case identify r => exact s.request_orders_of_read r _ (identifyOp_state r.body)
  case assignId r => exact asked r (by decide) (assignIdOp_steady r.body)
  case set r m => exact execSet_orders s r m
  case get r => exact s.request_orders_of_read r _ (getOp_state r.body)
  case reset r => exact s.request_orders r (by decide) fun u runs => resetOp_orders runs r
  case readCell r => exact s.request_orders_of_read r _ (readCellOp_state r.body)
  case readGroup r => exact s.request_orders_of_read r _ (readGroupOp_state r.body)
  case readLine r => exact s.request_orders_of_read r _ (readLineOp_state r.body)
  case readSuspects r => exact s.request_orders_of_read r _ (readSuspectsOp_state r.body)
  case spare r => exact asked r (by decide) fun u => (K u).spareOp r.body (.refl u)
  case restore r => exact asked r (by decide) fun u => (K u).restoreOp r.body (.refl u)
  case conceal r => exact asked r (by decide) fun u => (K u).concealOp r.body (.refl u)
  case forgive r => exact asked r (by decide) fun u => (K u).forgiveOp r.body (.refl u)
  case reviveDie r => exact asked r (by decide) fun u => (K u).reviveDieOp r.body (.refl u)
  case restoreChannel r => exact asked r (by decide) fun u => (K u).restoreChannelOp r.body (.refl u)
  case holdLine r => exact asked r (by decide) fun u => (K u).holdLineOp r.body (.refl u)
  case releaseLine r => exact asked r (by decide) fun u => (K u).releaseLineOp r.body (.refl u)
  case setBudget r => exact asked r (by decide) fun u => (K u).setBudgetOp r.body (.refl u)
  case startSurvey r => exact asked r (by decide) fun u => (K u).startSurveyOp r.body (.refl u)
  case stopSurvey r => exact asked r (by decide) fun u => (K u).stopSurveyOp r.body (.refl u)
  case readSense r => exact asked r (by decide) fun u => (K u).readSenseOp r.body (.refl u)
  case clearBaselines r => exact asked r (by decide) fun u => (K u).clearBaselinesOp r.body (.refl u)
  case compact r => exact asked r (by decide) (compactOp_steady r.body)
  case readJournal r => exact s.request_orders_of_read r _ (readJournalOp_state r.body)
  case collect r => exact s.request_orders_of_read r _ (collectOp_state r.body)
  case clear r => exact asked r (by decide) (clearOp_steady r.body)
  case readFeed r => exact s.request_orders_of_read r _ (readFeedOp_state r.body)
  case recordWriteStart =>
    refine .when fun may => ?_
    unfold State.mayTake at may
    simp only [Bool.and_eq_true] at may
    obtain ⟨⟨⟨⟨⟨runs, _⟩, _⟩, _⟩, _⟩, able⟩ := may
    refine .of_running runs fun orderly => State.takeHead_ordered orderly ?_ fun faulted => ?_
    · unfold Journal.compacting
      split at able <;> simp_all
    · simp [faulted] at able
  case recordWriteEnd verified =>
    refine .when fun runs => ?_
    split
    · exact .of_running runs fun orderly => State.recordEnd_ordered verified orderly ‹_›
    · exact .refl s
  case compactionStart =>
    refine .when fun may => ?_
    unfold State.mayStartCompaction at may
    simp only [Bool.and_eq_true, Option.isNone_iff_eq_none] at may
    obtain ⟨⟨⟨⟨⟨runs, _⟩, record⟩, operation⟩, _⟩, _⟩ := may
    exact .of_running runs fun _ => (State.startCompaction_ordered record operation).reconsider
  case bankEraseEnd erased =>
    refine .when fun ends => ?_
    rw [Bool.and_eq_true] at ends
    exact .of_running ends.1 fun orderly => State.eraseEnd_ordered erased orderly (of_decide_eq_true ends.2)
  case headerWriteEnd written =>
    refine .when fun ends => ?_
    rw [Bool.and_eq_true] at ends
    refine .of_running ends.1 fun orderly => ?_
    split
    · exact State.headerWritten_ordered orderly (of_decide_eq_true ends.2)
    · exact s.failOperation_ordered
  case completeMarkWriteEnd written =>
    refine .when fun ends => ?_
    rw [Bool.and_eq_true] at ends
    refine .of_running ends.1 fun orderly => ?_
    split
    · exact State.markWritten_ordered orderly (of_decide_eq_true ends.2)
    · exact s.failOperation_ordered
  case supplyLow =>
    have set : ∀ v, Orders s (s.setSupply v) := fun _ => (Beside.of_cm s _).orders
    exact .ite (fun _ => .when fun _ => set _) fun _ => .when fun _ => s.supplyLow_orders
  case supplyGood elapsed =>
    exact .ticked (.when fun _ => .ite State.powerUp_orders fun _ => State.supplyGood_orders _)
  case writerResume =>
    refine .when fun may => ?_
    simp only [Bool.and_eq_true] at may
    exact .reached (.of_running (s := s.reach _) may.1.1 fun orderly => State.resume_ordered orderly)
  case supplyFail cut =>
    have failed : Orders s (s.setSupply .fail) := (Beside.of_cm s _).orders
    refine .ite (fun _ => failed) fun _ => ?_
    exact (failed.trans (State.stopPart_orders _ cut)).trans (.of_off (fun _ => rfl) rfl rfl)
  case powerUp elapsed => exact .ticked (.when State.powerUp_orders)
  case resetPinAssert cut =>
    refine .ite (fun _ => .refl s) fun _ => ?_
    by_cases powerReset : s.clk.powerReset = true
    · rw [if_pos powerReset]
      exact .of_off (fun order => order.2.2 (.inr powerReset)) rfl rfl
    · rw [if_neg powerReset]
      exact (s.stopPart_orders cut).trans (.of_off (fun _ => rfl) rfl rfl)
  case resetPinRelease elapsed => exact .ticked (.when fun held => State.released_orders (.inl held) rfl rfl)
  case oscillatorSettle =>
    exact .when fun settles => .reached (State.beginScanning_orders (s := s.reach _) settles)
  case resetPoint =>
    refine .when fun due => .reached (State.resetPoint_orders (s := s.reach _) ?_)
    rw [Bool.and_eq_true] at due
    exact due.1
  case replayEnd m =>
    exact .ite (fun starting => .ticked (State.endReplay_orders (s := s.tick m.elapsed) starting _)) fun _ =>
      (Beside.tick s _).orders
  case derateCountdownExpiry =>
    split
    · have expired : ∀ u : State, Beside u u.expireCountdown := fun u =>
        .ite (.of_cm u _) ((Beside.of_cm u _).trans (.notify _ _))
      exact .reached (expired _).orders
    · exact .refl s

/-- Settles O5. A command makes the invariants of the maps step by step, of changes that each keep them (`exec_upholds`); the
end of start-up makes them anew (`endReplay_keeps`); the writer's work and the rest before operation go with them
(`exec_orders`). -/
theorem stepsKeepTheRepairMapsConsistent : Obligations.StepsKeepTheRepairMapsConsistent := by
  intro s t taken
  unfold step at taken
  split at taken
  · obtain rfl : s = t := Host.Outcome.next.inj taken
    exact ⟨id, fun _ => id, fun _ _ => id, fun _ _ => id, id, id, fun _ _ => id, fun _ => id, fun _ _ => id⟩
  · rename_i c rest _
    -- None of the invariants speaks of the queue.
    obtain ⟨order, atRest⟩ := exec_orders c taken
    rcases exec_upholds c taken with upheld | ⟨m, _, starting, rfl⟩
    · obtain ⟨agree, range, tallied, counted, settings, law, routes⟩ := upheld
      refine ⟨agree, range, tallied, counted, order, settings, law, atRest, fun canonical _ follow => ?_⟩
      exact (routes ⟨canonical.2.1, follow⟩).2
    · obtain ⟨agree, range, tallied, counted, settings, law, routes⟩ := endReplay_of_rest m starting
      exact ⟨fun _ => agree, fun _ => range, fun _ within _ => tallied within, fun _ within _ => counted within, order,
        fun _ => settings, fun _ _ _ => law, atRest, fun canonical rests _ => routes canonical rests⟩

end Sys2Proof.Machine

end

section
/-! PROOFS. O21, O24, O25 and O27: what a frame start makes of each block, and what it leaves alone. -/

namespace Sys2Proof.Machine

/-! ## One occurrence of a notice kind (R171) -/

theorem State.notify_notice_of_kind (s : State) {d : Detail} {k : Nat} (kind : d.kind.number = k) :
    (s.notify d).notice k = ⟨min ((s.notice k).count + 1) 255, some d⟩ := by
  subst kind
  rw [State.notify_notice, if_pos rfl]

theorem State.notify_notice_of_other (s : State) {d : Detail} {k : Nat} (other : d.kind.number ≠ k) :
    (s.notify d).notice k = s.notice k := by
  rw [State.notify_notice, if_neg other]

/-! ## The Condition Monitor's sample (R147, R148, R150) -/

theorem State.sample_cm (s : State) (sensor : Int) :
    (s.sample sensor).cm = { s.cm with
      temp := some (roundDegrees sensor)
      thermal := s.thermalAfter (roundDegrees sensor)
      countdown := s.countdownAfter (s.thermalAfter (roundDegrees sensor))
      blank := s.blankAfter (s.thermalAfter (roundDegrees sensor)) } := by
  unfold State.sample
  dsimp only
  split <;> rfl

theorem State.sample_outside (s : State) (sensor : Int) :
    (s.sample sensor).pending = s.pending ∧ (s.sample sensor).ci = s.ci := by
  unfold State.sample
  dsimp only
  split <;> exact ⟨rfl, rfl⟩

/-- A sample raises CONDITIONS exactly when it changes the thermal state. -/
theorem State.sample_notice (s : State) (sensor : Int) (k : Nat) :
    (s.sample sensor).notice k =
      if k = 13 ∧ s.thermalAfter (roundDegrees sensor) ≠ s.cm.thermal then
        ⟨min ((s.notice 13).count + 1) 255,
          some (.conditions (s.thermalAfter (roundDegrees sensor)) s.cm.derate s.cm.supply)⟩
      else s.notice k := by
  unfold State.sample
  dsimp only
  split
  · rename_i same
    rw [if_neg fun changed => changed.2 same]
    rfl
  · rename_i changed
    by_cases conditions : k = 13
    · subst conditions
      rw [if_pos ⟨rfl, changed⟩]
      exact State.notify_notice_of_kind _ rfl
    · rw [if_neg fun both => conditions both.1]
      exact State.notify_notice_of_other _ fun same => conditions same.symm

/-! ## The Sense Unit's status and the cut of a survey (R52, R63, R68) -/

/-- The end of a RUNNING survey (R70). -/
theorem State.endSurvey_of_some {s : State} {v : Survey} (running : s.su.survey = some v) (o : SurveyOutcome) :
    s.endSurvey o =
      (s.withSu { s.su with survey := none, inFlight := s.su.inFlight.map Measurement.leaveSurvey }).notify
        (.surveyEnded o v.done v.units v.bad) := by
  unfold State.endSurvey
  rw [running]

theorem State.endSurvey_outside (s : State) (o : SurveyOutcome) :
    (s.endSurvey o).pending = s.pending ∧ (s.endSurvey o).ci = s.ci ∧ (s.endSurvey o).cm = s.cm := by
  unfold State.endSurvey
  split <;> exact ⟨rfl, rfl, rfl⟩

theorem State.endSurvey_su (s : State) (o : SurveyOutcome) :
    (s.endSurvey o).su = { s.su with survey := none, inFlight := (s.endSurvey o).su.inFlight } := by
  cases survey : s.su.survey with
  | none =>
    rw [State.endSurvey_of_none survey, ← survey]
  | some v =>
    rw [State.endSurvey_of_some survey]
    rfl

/-- The end of a survey concerns SURVEY ENDED alone, and that only when one is RUNNING (R70). -/
theorem State.endSurvey_notice (s : State) (o : SurveyOutcome) (k : Nat) :
    (k ≠ 9 → (s.endSurvey o).notice k = s.notice k) ∧
    ∀ v, s.su.survey = some v →
      (s.endSurvey o).notice 9 = ⟨min ((s.notice 9).count + 1) 255, some (.surveyEnded o v.done v.units v.bad)⟩ := by
  refine ⟨fun other => ?_, fun v running => ?_⟩
  · cases survey : s.su.survey with
    | none => rw [State.endSurvey_of_none survey]
    | some v =>
      rw [State.endSurvey_of_some survey]
      exact State.notify_notice_of_other _ fun same => other same.symm
  · rw [State.endSurvey_of_some running]
    exact State.notify_notice_of_kind _ rfl

/-- The Sense Unit with its work of a frame start begun: its status and the sweep count (R52, R63). -/
def State.senseBegun (s : State) : State :=
  s.withSu { s.su with status := s.su.statusAt s.cm.temp, sweepCount := 0 }

theorem State.senseFrame_cut {s : State} (cut : s.pp.showing.dark = false ∨ s.su.statusAt s.cm.temp = .hold) :
    s.senseFrame = s.senseBegun.endSurvey .cut := if_pos cut

theorem State.senseFrame_uncut {s : State} (uncut : ¬(s.pp.showing.dark = false ∨ s.su.statusAt s.cm.temp = .hold)) :
    s.senseFrame = s.senseBegun := if_neg uncut

theorem State.senseFrame_outside (s : State) :
    s.senseFrame.pending = s.pending ∧ s.senseFrame.ci = s.ci ∧ s.senseFrame.cm = s.cm := by
  by_cases cut : s.pp.showing.dark = false ∨ s.su.statusAt s.cm.temp = .hold
  · rw [State.senseFrame_cut cut]
    exact State.endSurvey_outside _ _
  · rw [State.senseFrame_uncut cut]
    exact ⟨rfl, rfl, rfl⟩

theorem State.senseFrame_notice (s : State) {k : Nat} (other : k ≠ 9) : s.senseFrame.notice k = s.notice k := by
  by_cases cut : s.pp.showing.dark = false ∨ s.su.statusAt s.cm.temp = .hold
  · rw [State.senseFrame_cut cut]
    exact (State.endSurvey_notice _ _ k).1 other
  · rw [State.senseFrame_uncut cut]
    rfl

theorem State.senseFrame_su (s : State) :
    s.senseFrame.su = { s.su with
      status := s.su.statusAt s.cm.temp
      sweepCount := 0
      survey := s.senseFrame.su.survey
      inFlight := s.senseFrame.su.inFlight } := by
  by_cases cut : s.pp.showing.dark = false ∨ s.su.statusAt s.cm.temp = .hold
  · rw [State.senseFrame_cut cut, State.endSurvey_su]
    rfl
  · rw [State.senseFrame_uncut cut]
    rfl

/-! ## The Repair Engine's work (R60, R84, R104) -/

/-- What an event of the Repair Engine that admits no entry leaves: no new entry joins the list, and the notices of the
other blocks, which are the kinds from 9 on, stay as they are. -/
structure Admitless (s t : State) : Prop where
  list : t.re.suspects ⊆ s.re.suspects
  notices : ∀ k, 9 ≤ k → t.notice k = s.notice k

namespace Admitless

variable {s t u : State}

theorem refl (s : State) : Admitless s s := ⟨fun _ => id, fun _ _ => rfl⟩

theorem trans (first : Admitless s t) (second : Admitless t u) : Admitless s u :=
  ⟨fun _ left => first.list (second.list left), fun k high => (second.notices k high).trans (first.notices k high)⟩

theorem of_same (list : t.re.suspects = s.re.suspects) (notices : t.nu = s.nu) : Admitless s t :=
  ⟨list ▸ fun _ => id, fun _ _ => by rw [State.notice, notices]; rfl⟩

theorem notify (s : State) {d : Detail} (low : d.kind.number < 9) : Admitless s (s.notify d) :=
  ⟨fun _ => id, fun k high => State.notify_notice_of_other s (by omega)⟩

theorem foldl {β : Type} (op : State → β → State) (each : ∀ s item, Admitless s (op s item)) (items : List β) (s : State) :
    Admitless s (items.foldl op s) :=
  foldl_keeps op (fun _ item before => before.trans (each _ item)) items (refl s)

end Admitless

theorem State.setCell_admitless (s : State) (n : Nat) (c : CellState) (d : DieState) : Admitless s (s.setCell n c d) :=
  .of_same (State.setCell_re_suspects _ _ _ _) (State.setCell_nu _ _ _ _)

theorem State.setChannel_admitless (s : State) (k : Nat) (v : Channel) : Admitless s (s.setChannel k v) :=
  .of_same (State.setChannel_re_suspects _ _ _) (State.setChannel_nu _ _ _)

theorem State.dropEntry_admitless (s : State) (u : UnitId) : Admitless s (s.dropEntry u) :=
  ⟨List.filter_subset_self _, fun _ _ => rfl⟩

theorem State.strikeNamed_admitless (s : State) (c : CellState) : Admitless s (s.strikeNamed c) := by
  unfold State.strikeNamed
  split
  · rename_i k _
    have dropped : Admitless s ((s.disconnect k).dropProving k) :=
      .of_same (by simp [State.dropProving]) (by simp)
    unfold State.strike
    dsimp only
    split
    · exact dropped.trans (State.setChannel_admitless _ _ _)
    · exact (dropped.trans (State.setChannel_admitless _ _ _)).trans (.notify _ (by decide : (4 : Nat) < 9))
  · exact .refl s

theorem State.startProving_admitless (s : State) (n k : Nat) : Admitless s (s.startProving n k) := by
  have begun : ∀ (t : State) l, Admitless t (t.setProvings l) := fun _ _ => .of_same rfl rfl
  exact ((s.setChannel_admitless k _).trans (begun _ _)).trans (State.setCell_admitless _ _ _ _)

theorem State.spendBudget_admitless (s : State) : Admitless s s.spendBudget := by
  have spent : Admitless s (s.withRe { s.re with budget := s.re.budget - 1 }) := .of_same rfl rfl
  unfold State.spendBudget
  dsimp only
  split
  · exact spent.trans (.notify _ (by decide : (6 : Nat) < 9))
  · exact spent

theorem State.decidePrimary_admitless (s : State) (n : Nat) (kind : FaultKind) :
    Admitless s (s.decidePrimary n kind) := by
  have put : ∀ c d (x : Detail), x.kind.number < 9 → Admitless s ((s.setCell n c d).notify x) := fun c d x low =>
    (s.setCell_admitless n c d).trans (.notify _ low)
  unfold State.decidePrimary
  split
  · exact put _ _ _ (by decide : (2 : Nat) < 9)
  · split
    · exact put _ _ _ (by decide : (2 : Nat) < 9)
    · split
      · exact put _ _ _ (by decide : (2 : Nat) < 9)
      · split
        · exact put _ _ _ (by decide : (5 : Nat) < 9)
        · exact (s.startProving_admitless n _).trans (State.spendBudget_admitless _)

theorem State.decideDie_admitless (s : State) (n : Nat) : Admitless s (s.decideDie n) :=
  ((s.setCell_admitless n _ _).trans (State.strikeNamed_admitless _ _)).trans (.notify _ (by decide : (3 : Nat) < 9))

theorem State.decideEntry_admitless (s : State) (e : Entry) : Admitless s (s.decideEntry e) := by
  unfold State.decideEntry
  dsimp only
  split
  · exact (s.dropEntry_admitless e.unit).trans (State.decidePrimary_admitless _ _ _)
  · exact (s.dropEntry_admitless e.unit).trans (State.decideDie_admitless _ _)

theorem State.takeCondemned_admitless (fuel : Nat) (s : State) : Admitless s (s.takeCondemned fuel) := by
  induction fuel generalizing s with
  | zero => exact .refl s
  | succ fuel ih =>
    unfold State.takeCondemned
    split
    · exact .refl s
    · split
      · exact .refl s
      · exact (s.decideEntry_admitless _).trans (ih _)

theorem State.timeOut_admitless (s : State) (p : Proving) : Admitless s (s.timeOut p) := by
  obtain ⟨_, notices, _, _, _, _, entries, _⟩ := s.withdraw_withdrawn p.cell (.concealed .unproven)
  have withdrawn : Admitless s (s.withdraw p.cell (.concealed .unproven)) :=
    ⟨entries ▸ List.filter_subset_self _, fun _ _ => by rw [State.notice, notices]; rfl⟩
  exact withdrawn.trans (.notify _ (by decide : (2 : Nat) < 9))

theorem State.raiseAges_admitless (s : State) : Admitless s s.raiseAges := by
  have aged : Admitless s (s.setProvings (s.re.provings.map fun p => { p with age := p.age + 1 })) := .of_same rfl rfl
  exact aged.trans (.foldl _ State.timeOut_admitless _ _)

/-- No entry joins the list at a frame start, and every entry left is one whose due count has been lowered (R60). -/
theorem State.repairFrame_admitless (s : State) : Admitless s.lowerDues s.repairFrame :=
  (State.raiseAges_admitless _).trans (State.takeCondemned_admitless _ _)

theorem State.repairFrame_notice (s : State) {k : Nat} (high : 9 ≤ k) : s.repairFrame.notice k = s.notice k :=
  s.repairFrame_admitless.notices k high

/-- What the Repair Engine's work leaves of the Sense Unit: everything but the measurement in flight (R41). -/
theorem Kept.senseUnit (su : SenseUnit) : Kept fun t => t.su = { su with inFlight := t.su.inFlight } where
  inFlight := fun t _ h => by
    rw [h]
    rfl
  post := fun _ _ _ h => h
  re := fun _ _ _ h => h
  rj := fun _ _ _ h => h
  notify := fun _ _ h => h
  enlist := fun _ _ _ h => h
  full := Or.inr fun _ _ h => h

theorem State.repairFrame_su (s : State) :
    s.repairFrame.su = { s.su with inFlight := s.repairFrame.su.inFlight } := (Kept.senseUnit s.su).repairFrame rfl

/-- With no condemned entry and no proving at the end of its time the Repair Engine only counts (R60, R84, R104). -/
theorem State.repairFrame_counts {s : State} (uncondemned : ∀ x ∈ s.re.suspects, x.evidence ≠ s.setting 13)
    (young : ∀ p ∈ s.re.provings, p.age < 119) :
    s.repairFrame.re = { s.re with
      suspects := s.re.suspects.map fun x => { x with due := x.due - 1 }
      provings := s.re.provings.map fun p => { p with age := p.age + 1 } } := by
  have unmarked : ∀ x ∈ s.re.suspects, s.condemnedMark x = false := fun x listed =>
    decide_eq_false (uncondemned x listed)
  have dues : s.lowerDues = s.setSuspects (s.re.suspects.map fun x => { x with due := x.due - 1 }) := by
    unfold State.lowerDues
    refine congrArg s.setSuspects (List.map_congr_left fun x listed => ?_)
    rw [unmarked x listed]
    rfl
  have ages : s.lowerDues.raiseAges =
      s.lowerDues.setProvings (s.re.provings.map fun p => { p with age := p.age + 1 }) := by
    have none : (s.re.provings.map fun p => { p with age := p.age + 1 }).filter
        (fun p => decide (Config.provingFrames ≤ p.age)) = [] := by
      refine List.filter_eq_nil_iff.2 fun p aged => ?_
      obtain ⟨q, listed, rfl⟩ := List.mem_map.1 aged
      have := young q listed
      simp [Config.provingFrames]
      omega
    change ((s.re.provings.map fun p => { p with age := p.age + 1 }).filter
        (fun p => decide (Config.provingFrames ≤ p.age))).foldl State.timeOut _ = _
    rw [none]
    rfl
  have noCandidate : s.lowerDues.raiseAges.candidate = none := by
    rw [ages, dues]
    refine List.find?_eq_none.2 fun e lowered => ?_
    obtain ⟨x, listed, rfl⟩ := List.mem_map.1 lowered
    exact Bool.eq_false_iff.1 (unmarked x listed)
  unfold State.repairFrame
  rw [State.reconsider_of_no_candidate _ noCandidate, ages, dues]
  rfl

/-- The entries that a frame start leaves, each with its due count lowered unless it is condemned (R60). -/
theorem State.repairFrame_entries (s : State) : ∀ e ∈ s.repairFrame.re.suspects, ∃ x ∈ s.re.suspects,
    e = { x with due := if x.evidence = s.setting 13 then x.due else x.due - 1 } := by
  intro e left
  obtain ⟨x, listed, rfl⟩ := List.mem_map.1 (s.repairFrame_admitless.list left)
  refine ⟨x, listed, ?_⟩
  rw [State.condemnedMark_eq]
  by_cases condemned : x.evidence = s.setting 13
  · rw [if_pos condemned, if_pos (decide_eq_true condemned)]
  · rw [if_neg condemned, if_neg (by simpa using condemned)]

/-! ## The whole frame start (log 16) -/

/-- The routes and the output scale that end a frame start are all that their setting changes (R31, R33, R35). -/
theorem State.applyRoutes_latchScale (b : State) : ∃ active startUp,
    b.applyRoutes.latchScale = b.withPp { b.pp with
      active := active
      startUp := startUp
      pendingRoutes := []
      scaleBrightness := b.pp.showing.brightness
      scaleDerate := b.cm.effectiveDerate } := by
  unfold State.applyRoutes
  split
  · generalize Table.ofFunction (fun _ => Route.blank) Config.cells b.re.calledRoute = table
    exact ⟨table, false, rfl⟩
  · exact ⟨b.pp.applyPending, b.pp.startUp, rfl⟩

/-- The state of a frame start after the Pixel Path's, the Condition Monitor's and the Sense Unit's work. -/
def State.sensed (s : State) (sensor : Int) (complete : Bool) : State :=
  ((s.newFrame complete).sample sensor).senseFrame

theorem State.beforeRoutes_eq (s : State) (sensor : Int) (complete : Bool) :
    s.beforeRoutes sensor complete = (s.sensed sensor complete).repairFrame := rfl

/-- What stands when the Repair Engine's turn comes. -/
theorem State.sensed_frame (s : State) (sensor : Int) (complete : Bool) :
    (s.sensed sensor complete).outside =
        (s.pending, s.clk, s.live, s.stored, s.ci, ((s.newFrame complete).sample sensor).cm) ∧
      (s.sensed sensor complete).pp = (s.newFrame complete).pp ∧ (s.sensed sensor complete).re = s.re := by
  obtain ⟨clk, live, stored, pp, _, re, _⟩ := (s.newFrame complete).sample_frame sensor
  obtain ⟨pending, ci⟩ := (s.newFrame complete).sample_outside sensor
  obtain ⟨clk', live', stored', pp', re', _⟩ := ((s.newFrame complete).sample sensor).senseFrame_frame
  obtain ⟨pending', ci', cm'⟩ := ((s.newFrame complete).sample sensor).senseFrame_outside
  refine ⟨?_, pp'.trans pp, re'.trans re⟩
  unfold State.outside State.sensed
  rw [pending', pending, clk', clk, live', live, stored', stored, ci', ci, cm']
  rfl

theorem State.sensed_setting (s : State) (sensor : Int) (complete : Bool) (n : Nat) :
    (s.sensed sensor complete).setting n = s.setting n := by
  have live : (s.sensed sensor complete).live = s.live :=
    congrArg (fun x => x.2.2.1) (s.sensed_frame sensor complete).1
  unfold State.setting
  rw [live]

/-- What the Repair Engine leaves of what stands when its turn comes. -/
theorem State.repairFrame_frame (s : State) :
    s.repairFrame.outside = s.outside ∧ s.repairFrame.pp = { s.pp with pendingRoutes := s.repairFrame.pp.pendingRoutes } :=
  ⟨(KeptSu.outside _).repairFrame rfl,
    ((State.repairOnly_iff _ _).1 ((Kept.repairOnly s).repairFrame s.repairOnly_refl)).2.1⟩

section

variable {s : State} (sensor : Int) (complete : Bool) (noReset : s.clk.reset ≠ .ready)
include noReset

/-- A frame start block by block: what the sample and the sense frame have made, then the Repair Engine's work, and in the
Pixel Path the routes and the output scale. -/
theorem State.frameStart_blocks : ∃ active startUp,
    (s.frameStart sensor complete).outside =
        (s.pending, s.clk, s.live, s.stored, s.ci, ((s.newFrame complete).sample sensor).cm) ∧
      (s.frameStart sensor complete).pp = { (s.newFrame complete).pp with
        active := active
        startUp := startUp
        pendingRoutes := []
        scaleBrightness := (s.newFrame complete).pp.showing.brightness
        scaleDerate := ((s.newFrame complete).sample sensor).cm.effectiveDerate } ∧
      (s.frameStart sensor complete).su = { (s.sensed sensor complete).su with
        inFlight := (s.frameStart sensor complete).su.inFlight } ∧
      (s.frameStart sensor complete).re = (s.sensed sensor complete).repairFrame.re ∧
      ∀ k, 9 ≤ k → (s.frameStart sensor complete).notice k = (s.sensed sensor complete).notice k := by
  obtain ⟨outside, pp, _⟩ := s.sensed_frame sensor complete
  obtain ⟨outside', pp'⟩ := (s.sensed sensor complete).repairFrame_frame
  have su := (s.sensed sensor complete).repairFrame_su
  have notices := fun k (high : 9 ≤ k) => (s.sensed sensor complete).repairFrame_notice high
  rw [outside] at outside'
  rw [pp] at pp'
  rw [State.frameStart_eq sensor complete noReset, State.beforeRoutes_eq]
  generalize (s.sensed sensor complete).repairFrame = b at *
  obtain ⟨active, startUp, set⟩ := b.applyRoutes_latchScale
  have cm : b.cm = ((s.newFrame complete).sample sensor).cm := congrArg (fun x => x.2.2.2.2.2) outside'
  rw [set, pp', cm]
  exact ⟨active, startUp, outside', rfl, su, rfl, notices⟩

/-- A frame start leaves the clock, the settings and the chain alone. -/
theorem State.frameStart_kept :
    (s.frameStart sensor complete).clk = s.clk ∧ (s.frameStart sensor complete).live = s.live ∧
      (s.frameStart sensor complete).stored = s.stored ∧ (s.frameStart sensor complete).ci = s.ci := by
  obtain ⟨_, _, outside, _⟩ := State.frameStart_blocks sensor complete noReset
  simp only [State.outside, Prod.mk.injEq] at outside
  obtain ⟨_, clk, live, stored, ci, _⟩ := outside
  exact ⟨clk, live, stored, ci⟩

theorem State.frameStart_cm : (s.frameStart sensor complete).cm = ((s.newFrame complete).sample sensor).cm := by
  obtain ⟨_, _, outside, _⟩ := State.frameStart_blocks sensor complete noReset
  exact congrArg (fun x => x.2.2.2.2.2) outside

/-- A frame start raises no notice of the chain (R161). -/
theorem State.frameStart_feedChanged : (s.frameStart sensor complete).notice 10 = s.notice 10 := by
  obtain ⟨_, _, _, _, _, _, notices⟩ := State.frameStart_blocks sensor complete noReset
  rw [notices 10 (by decide)]
  refine (State.senseFrame_notice _ (by decide)).trans ((State.sample_notice _ sensor 10).trans ?_)
  exact if_neg fun both => absurd both.1 (by decide)

end

end Sys2Proof.Machine

end

section
/-! PROOFS. O24 and O25: tails, and the frame start that one on the LIVE feed is. -/

namespace Sys2Proof.Machine

/-! ## Tails (R159, R163, R172) -/

/-- Attention is set exactly while some pending kind has a priority at or below ATTENTION LEVEL (R172). -/
theorem State.attention_iff (s : State) :
    s.attention = true ↔ ∃ k < 15, (s.notice k).count ≠ 0 ∧ s.setting (28 + k) ≤ s.setting 27 := by
  simp only [State.attention, State.pendingKinds, List.any_eq_true, List.mem_filter, List.mem_range, decide_eq_true_eq,
    Nat.one_le_iff_ne_zero]
  exact ⟨fun ⟨k, ⟨kind, pending⟩, urgent⟩ => ⟨k, kind, pending, urgent⟩,
    fun ⟨k, kind, pending, urgent⟩ => ⟨k, ⟨kind, pending⟩, urgent⟩⟩

theorem exec_frameTail {s : State} (runs : s.forwarding = true) (lane : Port) (r : TailRecord) (m : Moment) :
    exec (.frameTail lane r m) s = .next ((s.tick m.elapsed).tailArrives lane r m.sensor) :=
  congrArg Host.Outcome.next (if_pos runs)

/-- A tail sends its record on, with its mark, and ends the decoder's frame: the Chain Interface's part of it. -/
theorem State.forwardTail_tick (s : State) (lane : Port) (r : TailRecord) (elapsed : Nat) :
    (s.tick elapsed).forwardTail lane r = (s.tick elapsed).setDirection lane { s.ci.direction lane with
      inFrame := false, sent := TailRecord.bytes (s.markedTail r) } := rfl

/-- What stands when a tail on the feed port has been sent on and has closed the capture. -/
theorem State.closedTail_frame (s : State) (lane : Port) (r : TailRecord) (elapsed : Nat) :
    ((s.tick elapsed).forwardTail lane r).closeCapture.clk = { s.clk with now := s.clk.now + elapsed } ∧
      ((s.tick elapsed).forwardTail lane r).closeCapture.pp = { s.pp with captureOpen := false } ∧
      ((s.tick elapsed).forwardTail lane r).closeCapture.ci = (s.setDirection lane { s.ci.direction lane with
        inFrame := false, sent := TailRecord.bytes (s.markedTail r) }).ci ∧
      ((s.tick elapsed).forwardTail lane r).closeCapture.live = s.live ∧
      ((s.tick elapsed).forwardTail lane r).closeCapture.stored = s.stored := by
  rw [State.forwardTail_tick]
  cases lane <;> exact ⟨rfl, rfl, rfl, rfl, rfl⟩

section

variable {s : State} {lane : Port} (r : TailRecord) (sensor : Int)

/-- Off the feed port a tail is only sent on. -/
theorem State.tailArrives_off (off : s.ci.feed ≠ some lane) : s.tailArrives lane r sensor = s.forwardTail lane r := by
  unfold State.tailArrives State.forwardTail
  dsimp only
  rw [State.setDirection_ci_feed, if_neg off]

/-- On the feed port a tail closes the capture, and while the port is LIVE starts a frame (R23, R25). -/
theorem State.tailArrives_feed (feed : s.ci.feed = some lane) :
    s.tailArrives lane r sensor =
      if (s.ci.port lane).live then (s.forwardTail lane r).closeCapture.frameStart sensor s.pp.complete
      else (s.forwardTail lane r).closeCapture := by
  have live : (s.forwardTail lane r).feedLive = (s.ci.port lane).live := by
    unfold State.feedLive State.forwardTail
    rw [State.setDirection_ci_feed, feed]
    exact congrArg PortMonitor.live (State.setDirection_port _ _ _ _)
  have pp : (s.forwardTail lane r).pp = s.pp := State.setDirection_pp _ _ _
  have feed' : (s.forwardTail lane r).ci.feed = some lane := (State.setDirection_ci_feed _ _ _).trans feed
  unfold State.tailArrives
  dsimp only
  rw [if_pos feed', State.tailOnFeed, live, pp]

end

/-- Settles O24: the marked record is sent on either port; only a tail on the feed port goes further, to the capture and, while
the port is LIVE, to a frame start, which leaves the chain alone. -/
theorem tailsAreMarkedWhileAttentionIsSet : Obligations.TailsAreMarkedWhileAttentionIsSet := by
  refine ⟨fun s lane r m runs off => ?_, fun s lane r m marked runs feed mark => ?_, State.attention_iff⟩
  · rw [exec_frameTail runs, State.tailArrives_off (s := s.tick m.elapsed) r m.sensor off]
    rfl
  · obtain rfl : marked = s.markedTail r := mark
    rw [exec_frameTail runs, State.tailArrives_feed (s := s.tick m.elapsed) r m.sensor feed]
    refine ⟨fun absent => ?_, fun live noReset => ⟨_, congrArg _ (if_pos live), ?_⟩⟩
    · rw [State.tick_ci, absent, if_neg Bool.false_ne_true, State.forwardTail_tick]
      unfold State.closeCapture
      rw [State.setDirection_pp, State.tick_pp]
    · obtain ⟨clk, _, ci, _⟩ := s.closedTail_frame lane r m.elapsed
      obtain ⟨_, _, _, ci'⟩ := State.frameStart_kept m.sensor s.pp.complete
        (clk.symm ▸ noReset : ((s.tick m.elapsed).forwardTail lane r).closeCapture.clk.reset ≠ .ready)
      exact ci'.trans ci

/-! ## The frame start of a tail on the LIVE feed (R23, R25, R26) -/

/-- A row is fully received when each of its pixels that lies inside the wall is received (R23). -/
theorem PixelPath.rowReceived_iff (pp : PixelPath) (row : Nat) :
    pp.rowReceived row = true ↔
      ∀ c < 64, pp.window.wallRow row < 4096 → pp.window.wallColumn c < 4096 → pp.got (siteAt row c) = true := by
  simp only [PixelPath.rowReceived, Bool.or_eq_true, decide_eq_true_eq, List.all_eq_true, List.mem_range]
  unfold Config.wallSize Config.columns
  constructor
  · rintro (outside | received) c column inside shown
    · omega
    · exact (received c column).resolve_left (by omega)
  · intro received
    by_cases outside : 4096 ≤ pp.window.wallRow row
    · exact .inl outside
    · refine .inr fun c column => ?_
      by_cases hidden : 4096 ≤ pp.window.wallColumn c
      · exact .inl hidden
      · exact .inr (received c column (by omega) (by omega))

theorem PixelPath.complete_iff (pp : PixelPath) :
    pp.complete = true ↔ pp.captureOpen = true ∧ (pp.filling.dark = true ∨
      ∀ row < 48, ∀ c < 64, pp.window.wallRow row < 4096 → pp.window.wallColumn c < 4096 →
        pp.got (siteAt row c) = true) := by
  simp only [PixelPath.complete, Config.rows, Bool.and_eq_true, Bool.or_eq_true, List.all_eq_true, List.mem_range,
    PixelPath.rowReceived_iff]

/-- The STALE cause and the repeat count of a frame that is shown again (R26). -/
theorem PixelPath.repeated_stale (pp : PixelPath) :
    pp.repeated.stale = true ↔ pp.stale = true ∨ 30 ≤ min (pp.repeats + 1) 255 := by
  simp [PixelPath.repeated, Config.staleRepeats]

/-- Settles O25: the Pixel Path of the frame start is the new frame's, which shows FILLING when it is complete and the shown
frame again when it is not. -/
theorem aTailOnTheLiveFeedStartsAFrame : Obligations.ATailOnTheLiveFeedStartsAFrame := by
  refine ⟨PixelPath.complete_iff, fun s lane r m runs noReset feed isLive => ?_⟩
  have taken : exec (.frameTail lane r m) s =
      .next (((s.tick m.elapsed).forwardTail lane r).closeCapture.frameStart m.sensor s.pp.complete) := by
    rw [exec_frameTail runs, State.tailArrives_feed (s := s.tick m.elapsed) r m.sensor feed]
    exact congrArg _ (if_pos isLive)
  obtain ⟨clk, pp, _, live, stored⟩ := s.closedTail_frame lane r m.elapsed
  refine ⟨_, taken, ?_⟩
  generalize ((s.tick m.elapsed).forwardTail lane r).closeCapture = u at pp clk live stored
  have due : u.clk.reset ≠ .ready := by rw [clk]; exact noReset
  obtain ⟨clk', live', stored', _⟩ := State.frameStart_kept m.sensor s.pp.complete due
  obtain ⟨active, startUp, _, pp', _⟩ := State.frameStart_blocks m.sensor s.pp.complete due
  have stale := s.pp.repeated_stale
  have kept : ∀ n, (u.frameStart m.sensor s.pp.complete).setting n = s.setting n ∧
      (u.frameStart m.sensor s.pp.complete).storedSetting n = s.storedSetting n := fun n => by
    unfold State.setting State.storedSetting
    rw [live', stored', live, stored]
    exact ⟨rfl, rfl⟩
  generalize u.frameStart m.sensor s.pp.complete = t at *
  have now : u.clk.now = s.clk.now + m.elapsed := by rw [clk]
  unfold State.newFrame at pp'
  rw [now] at pp'
  refine ⟨clk'.trans clk, ?_⟩
  cases complete : s.pp.complete with
  | true =>
    rw [complete, pp] at pp'
    rw [pp']
    exact ⟨fun _ => ⟨rfl, rfl, rfl⟩, nofun, rfl, rfl, rfl, rfl, rfl, rfl, rfl, rfl, kept⟩
  | false =>
    rw [complete, pp] at pp'
    rw [pp']
    exact ⟨nofun, fun _ => ⟨rfl, rfl, stale⟩, rfl, rfl, rfl, rfl, rfl, rfl, rfl, rfl, kept⟩

end Sys2Proof.Machine

end

section
/-! PROOFS. O27: the frame timer's frame start. -/

namespace Sys2Proof.Machine

/-! ## The feed and the frame timer (R25, R161) -/

theorem State.feedLive_of_feed {s : State} {p : Port} (feed : s.ci.feed = some p) : s.feedLive = (s.ci.port p).live := by
  unfold State.feedLive
  rw [feed]

theorem State.feedLive_false {s : State} (absent : ∀ p, s.ci.feed = some p → (s.ci.port p).live = false) :
    s.feedLive = false := by
  cases feed : s.ci.feed with
  | none =>
    unfold State.feedLive
    rw [feed]
  | some p => exact (State.feedLive_of_feed feed).trans (absent p feed)

/-- The frame timer runs for twice the expected period while the feed is LIVE, else for FREE-RUN PERIOD (R25). -/
theorem State.timerEnd_cases (s : State) :
    (∀ p, s.ci.feed = some p → (s.ci.port p).live = true → s.timerEnd = s.pp.frameStartAt + 2 * s.pp.expected) ∧
    ((∀ p, s.ci.feed = some p → (s.ci.port p).live = false) → s.timerEnd = s.pp.frameStartAt + s.setting 4 * 100) := by
  refine ⟨fun p feed live => ?_, fun absent => ?_⟩
  · rw [State.timerEnd, State.timerLength, if_pos ((State.feedLive_of_feed feed).trans live)]
  · rw [State.timerEnd, State.timerLength, State.feedLive_false absent, if_neg Bool.false_ne_true]
    rfl

/-- The expected period is the feed's latest one in its limits, or FREE-RUN PERIOD without one (R25). -/
theorem State.expectedPeriod_cases (s : State) :
    (∀ p period, s.ci.feed = some p → (s.ci.port p).live = true → (s.ci.port p).history = some period →
      s.expectedPeriod = max 8300 (min period 41700)) ∧
    ((∀ p, s.ci.feed = some p → (s.ci.port p).live = false ∨ (s.ci.port p).history = none) →
      s.expectedPeriod = s.setting 4 * 100) := by
  unfold State.expectedPeriod
  refine ⟨fun p period feed live history => ?_, fun without => ?_⟩
  · simp only [feed, live, history, if_true]
  · cases feed : s.ci.feed with
    | none => rfl
    | some p =>
      rcases without p feed with absent | unmeasured
      · simp only [absent, Bool.false_eq_true, if_false]
        rfl
      · simp only [unmeasured, ite_self]
        rfl

/-! ## The countdown and the thermal blank after a sample (R148) -/

section

variable {s : State}

theorem State.countdownAfter_same (s : State) :
    s.countdownAfter s.cm.thermal = s.cm.countdown ∧ s.blankAfter s.cm.thermal = s.cm.blank := by
  unfold State.countdownAfter State.blankAfter
  cases s.cm.thermal <;> exact ⟨rfl, rfl⟩

/-- Thermal blank is cleared when HOT is left, and stays through every other change. -/
theorem State.blankAfter_changed {new : Thermal} (changed : new ≠ s.cm.thermal) :
    s.blankAfter new = if s.cm.thermal = .hot then false else s.cm.blank := by
  unfold State.blankAfter
  cases before : s.cm.thermal with
  | normal => rfl
  | warm => rfl
  | hot =>
    cases new with
    | hot => exact absurd before.symm changed
    | normal => rfl
    | warm => rfl

theorem State.countdownAfter_normal_warm (before : s.cm.thermal = .normal) :
    s.countdownAfter .warm = some (s.cm.countdown.getD s.warmHoldEnd) := by
  unfold State.countdownAfter
  rw [before]

theorem State.countdownAfter_hot (before : s.cm.thermal ≠ .hot) :
    s.countdownAfter .hot = some (min (s.cm.countdown.getD s.hotEnd) s.hotEnd) := by
  unfold State.countdownAfter
  cases thermal : s.cm.thermal with
  | normal => rfl
  | warm => rfl
  | hot => exact absurd thermal before

theorem State.countdownAfter_hot_warm (before : s.cm.thermal = .hot) :
    s.countdownAfter .warm = some s.warmHoldEnd := by
  unfold State.countdownAfter
  rw [before]

theorem State.countdownAfter_normal (before : s.cm.thermal ≠ .normal) :
    s.countdownAfter .normal = if s.cm.derate = .d100 then none else some s.warmHoldEnd := by
  unfold State.countdownAfter
  cases thermal : s.cm.thermal with
  | normal => exact absurd thermal before
  | warm => rfl
  | hot => rfl

end

/-! ## The survey at a frame start (R68, R70) -/

/-- A survey is CUT on a frame that is not DARK or is a HOLD frame, and goes on otherwise. -/
theorem State.senseFrame_survey (s : State) :
    (s.pp.showing.dark = false ∨ s.su.statusAt s.cm.temp = .hold → s.senseFrame.su.survey = none ∧
      ∀ v, s.su.survey = some v → s.senseFrame.notice 9 =
        ⟨min ((s.notice 9).count + 1) 255, some (.surveyEnded .cut v.done v.units v.bad)⟩) ∧
    (s.su.survey = none ∨ (s.pp.showing.dark = true ∧ s.su.statusAt s.cm.temp ≠ .hold) →
      s.senseFrame.su.survey = s.su.survey ∧ s.senseFrame.notice 9 = s.notice 9) := by
  refine ⟨fun cut => ?_, fun kept => ?_⟩
  · rw [State.senseFrame_cut cut, State.endSurvey_su]
    exact ⟨rfl, fun v running => (State.endSurvey_notice s.senseBegun .cut 9).2 v running⟩
  · by_cases cut : s.pp.showing.dark = false ∨ s.su.statusAt s.cm.temp = .hold
    · -- The frame would cut a survey, and none is RUNNING.
      have idle : s.senseBegun.su.survey = none := by
        rcases kept with none | ⟨dark, free⟩
        · exact none
        · exact absurd (cut.resolve_left (by simp [dark])) free
      rw [State.senseFrame_cut cut, State.endSurvey_of_none idle]
      exact ⟨rfl, rfl⟩
    · rw [State.senseFrame_uncut cut]
      exact ⟨rfl, rfl⟩

/-! ## What a frame start makes of the conditions, the Sense Unit and the notices -/

section

variable {s : State} (sensor : Int) (complete : Bool) (noReset : s.clk.reset ≠ .ready)
include noReset

theorem State.frameStart_conditions :
    (s.frameStart sensor complete).cm = { s.cm with
        temp := some (roundDegrees sensor)
        thermal := s.thermalAfter (roundDegrees sensor)
        countdown := s.countdownAfter (s.thermalAfter (roundDegrees sensor))
        blank := s.blankAfter (s.thermalAfter (roundDegrees sensor)) } ∧
      (s.frameStart sensor complete).notice 13 =
        if s.thermalAfter (roundDegrees sensor) ≠ s.cm.thermal then
          ⟨min ((s.notice 13).count + 1) 255,
            some (.conditions (s.thermalAfter (roundDegrees sensor)) s.cm.derate s.cm.supply)⟩
        else s.notice 13 := by
  obtain ⟨_, _, _, _, _, _, notices⟩ := State.frameStart_blocks sensor complete noReset
  refine ⟨(State.frameStart_cm sensor complete noReset).trans (State.sample_cm _ sensor), ?_⟩
  rw [notices 13 (by decide)]
  refine (State.senseFrame_notice _ (by decide)).trans ((State.sample_notice _ sensor 13).trans ?_)
  simp only [true_and]
  rfl

/-- The Sense Unit's status, sweep count and survey after a frame start (R52, R63, R68). -/
theorem State.frameStart_sense :
    ((s.frameStart sensor complete).su.status = s.su.statusAt (some (roundDegrees sensor)) ∧
      (s.frameStart sensor complete).su.sweepCount = 0 ∧
      (s.frameStart sensor complete).su.condition = s.su.condition ∧
      (s.frameStart sensor complete).su.baselines = s.su.baselines) ∧
    ((s.newFrame complete).pp.showing.dark = false ∨ s.su.statusAt (some (roundDegrees sensor)) = .hold →
      (s.frameStart sensor complete).su.survey = none ∧
      ∀ v, s.su.survey = some v → (s.frameStart sensor complete).notice 9 =
        ⟨min ((s.notice 9).count + 1) 255, some (.surveyEnded .cut v.done v.units v.bad)⟩) ∧
    (s.su.survey = none ∨
        ((s.newFrame complete).pp.showing.dark = true ∧ s.su.statusAt (some (roundDegrees sensor)) ≠ .hold) →
      (s.frameStart sensor complete).su.survey = s.su.survey ∧
      (s.frameStart sensor complete).notice 9 = s.notice 9) := by
  obtain ⟨_, _, _, _, su, _, notices⟩ := State.frameStart_blocks sensor complete noReset
  obtain ⟨_, _, _, showing, unit, _⟩ := (s.newFrame complete).sample_frame sensor
  have temp : ((s.newFrame complete).sample sensor).cm.temp = some (roundDegrees sensor) := by
    rw [State.sample_cm]
  have unheard : ((s.newFrame complete).sample sensor).notice 9 = s.notice 9 :=
    (State.sample_notice _ sensor 9).trans (if_neg fun both => absurd both.1 (by decide))
  have sensed := ((s.newFrame complete).sample sensor).senseFrame_su
  obtain ⟨cut, kept⟩ := ((s.newFrame complete).sample sensor).senseFrame_survey
  rw [unit, temp] at sensed
  rw [showing, unit, temp, unheard] at cut kept
  rw [su, notices 9 (by decide)]
  unfold State.sensed
  exact ⟨by rw [sensed]; exact ⟨rfl, rfl, rfl, rfl⟩, cut, kept⟩

/-- The Repair Engine after a frame start is what its own work makes of it (R60, R104). -/
theorem State.frameStart_repair :
    (∀ e ∈ (s.frameStart sensor complete).re.suspects, ∃ x ∈ s.re.suspects,
      e = { x with due := if x.evidence = s.setting 13 then x.due else x.due - 1 }) ∧
    ((∀ x ∈ s.re.suspects, x.evidence ≠ s.setting 13) → (∀ p ∈ s.re.provings, p.age < 119) →
      (s.frameStart sensor complete).re = { s.re with
        suspects := s.re.suspects.map fun x => { x with due := x.due - 1 }
        provings := s.re.provings.map fun p => { p with age := p.age + 1 } }) := by
  obtain ⟨_, _, _, _, _, re, _⟩ := State.frameStart_blocks sensor complete noReset
  obtain ⟨_, _, same⟩ := s.sensed_frame sensor complete
  have entries := (s.sensed sensor complete).repairFrame_entries
  have counts := State.repairFrame_counts (s := s.sensed sensor complete)
  rw [same, State.sensed_setting] at entries counts
  rw [re]
  exact ⟨entries, counts⟩

end

/-! ## The frame timer's frame start -/

/-- STALE is the frame timer's frame start at which the repeat count reaches 30, and nothing otherwise (R26). -/
theorem exec_stale {s : State} (runs : s.forwarding = true) (noReset : s.clk.reset ≠ .ready) (sensor : Int) :
    exec (.stale sensor) s = .next (if s.pp.repeats = 29 then s.timerExpiry sensor else s) := by
  change Host.Outcome.next (if s.forwarding && decide (s.clk.reset ≠ .ready) &&
    decide (s.pp.repeats + 1 = 30) then s.timerExpiry sensor else s) = _
  simp [runs, noReset]

theorem exec_frameTimerExpiry {s : State} (runs : s.forwarding = true) (sensor : Int) :
    exec (.frameTimerExpiry sensor) s = .next (s.timerExpiry sensor) := congrArg Host.Outcome.next (if_pos runs)

/-- Settles O27. The frame timer's end is the frame start `frameStart_blocks` speaks of, at the time that the timer ends and
with no complete FILLING: the shown frame is repeated, and each block's work is the one its own lemma gives. -/
theorem theFrameTimerStartsARepeatedFrame : Obligations.TheFrameTimerStartsARepeatedFrame := by
  refine ⟨State.timerEnd_cases, fun s sensor runs noReset => ⟨?_, fun other => ?_⟩⟩
  swap
  · rw [exec_stale runs noReset, if_neg other]
  refine ⟨_, exec_frameTimerExpiry runs sensor, fun last => ?_, ?_⟩
  · rw [exec_stale runs noReset, if_pos last]
  have due : (s.reach s.timerEnd).clk.reset ≠ .ready := noReset
  have stale := s.pp.repeated_stale
  obtain ⟨clk, live, stored, ci⟩ := State.frameStart_kept sensor false due
  obtain ⟨cm, conditions⟩ := State.frameStart_conditions sensor false due
  obtain ⟨⟨status, sweeps, condition, baselines⟩, cut, uncut⟩ := State.frameStart_sense sensor false due
  obtain ⟨entries, counts⟩ := State.frameStart_repair sensor false due
  obtain ⟨active, startUp, _, pp, _⟩ := State.frameStart_blocks sensor false due
  obtain ⟨period, freeRun⟩ := (s.reach s.timerEnd).expectedPeriod_cases
  have thermal : (s.reach s.timerEnd).thermalAfter (roundDegrees sensor) =
    s.cm.thermal.after (roundDegrees sensor) (s.setting 20) (s.setting 21) := rfl
  rw [thermal] at cm conditions
  rw [State.sample_cm] at pp
  unfold State.timerExpiry
  generalize (s.reach s.timerEnd).frameStart sensor false = t at *
  generalize s.cm.thermal.after (roundDegrees sensor) (s.setting 20) (s.setting 21) = new at *
  rw [cm, pp, status]
  have blank := State.blankAfter_changed (s := s.reach s.timerEnd) (new := new)
  refine ⟨clk, ci, live, stored, rfl, rfl, stale, rfl, rfl, rfl, rfl, rfl, rfl, rfl, rfl, rfl, sweeps, condition,
    baselines, rfl, rfl, rfl, period, freeRun, fun same => ?_, fun changed => ⟨?_, fun hot => ?_, fun cool => ?_,
      fun normal warm => ?_, fun hot => ?_, fun hot warm => ?_, fun normal => ?_⟩, cut, uncut, entries, counts⟩
  · obtain rfl : new = s.cm.thermal := same
    have stays := (s.reach s.timerEnd).countdownAfter_same
    exact ⟨stays.1, stays.2, conditions.trans (if_neg (not_not_intro rfl))⟩
  · exact conditions.trans (if_pos changed)
  · exact (blank changed).trans (if_pos hot)
  · exact (blank changed).trans (if_neg cool)
  · obtain rfl : new = .warm := warm
    rw [clk]
    exact State.countdownAfter_normal_warm normal
  · obtain rfl : new = .hot := hot
    rw [clk]
    exact State.countdownAfter_hot changed.symm
  · obtain rfl : new = .warm := warm
    rw [clk]
    exact State.countdownAfter_hot_warm hot
  · obtain rfl : new = .normal := normal
    rw [clk]
    exact State.countdownAfter_normal changed.symm

end Sys2Proof.Machine

end

section
/-! PROOFS. O18 and O21: heads, the loss of a port, and the feed. -/

namespace Sys2Proof.Machine

/-! ## A head on its port's monitor (R160) -/

theorem exec_frameHead {s : State} (runs : s.forwarding = true) (lane : Port) (r : HeadRecord) (m : Moment) :
    exec (.frameHead lane r m) s = .next ((s.tick m.elapsed).headArrives lane r m.sensor) :=
  congrArg Host.Outcome.next (if_pos runs)

theorem otherPort_ne (lane : Port) : otherPort lane ≠ lane := by
  cases lane <;> nofun

theorem eq_otherPort : ∀ {p lane : Port}, p ≠ lane → p = otherPort lane
  | .a, .a, same | .b, .b, same => absurd rfl same
  | .a, .b, _ | .b, .a, _ => rfl

theorem cadenceDiffers_iff (old new tolerance : Nat) :
    cadenceDiffers old new tolerance = true ↔ old + tolerance < new ∨ new + tolerance < old := by
  simp [cadenceDiffers]

/-- A head after a void interval ends no period. -/
theorem PortMonitor.measured_void {m : PortMonitor} (void : m.voided = true) (now : Nat) : m.measured now = none := by
  simp [PortMonitor.measured, void]

theorem PortMonitor.measured_live {m : PortMonitor} (live : m.live = true) (whole : m.voided = false) (now : Nat) :
    m.measured now = some (now - m.lastHead) := by
  simp [PortMonitor.measured, live, whole]

theorem PortMonitor.hear_history {m : PortMonitor} (live : m.live = true) (now : Nat) :
    (m.voided = true → (m.hear now).history = m.history) ∧
    (m.voided = false → (m.hear now).history = some (now - m.lastHead)) := by
  unfold PortMonitor.hear
  refine ⟨fun void => ?_, fun whole => ?_⟩
  · rw [PortMonitor.measured_void void, Option.none_or]
  · rw [PortMonitor.measured_live live whole, Option.some_or]

/-- The state with a port's monitor as a head now leaves it, and with a mark and notices. -/
def State.heardOn (s : State) (lane : Port) (mark : Bool) (nu : Table Notice) : State :=
  { s.setPort lane { (s.ci.port lane).hear s.clk.now with mark := mark } with nu := nu }

section

variable {s : State} {lane : Port}

theorem State.heardOn_unmarked (s : State) (lane : Port) :
    s.setPort lane ((s.ci.port lane).hear s.clk.now) = s.heardOn lane (s.ci.port lane).mark s.nu := by
  cases lane <;> rfl

/-- A head that ends no period, or the first one, is only heard. -/
theorem State.monitorHead_uncompared
    (uncompared : (s.ci.port lane).measured s.clk.now = none ∨ (s.ci.port lane).history = none) :
    s.monitorHead lane = s.heardOn lane (s.ci.port lane).mark s.nu := by
  rw [← State.heardOn_unmarked]
  unfold State.monitorHead
  rcases uncompared with unmeasured | first
  · simp only [unmeasured]
    cases (s.ci.port lane).history <;> rfl
  · simp only [first]

/-- A period that lies within the tolerance of the last one leaves the mark; one beyond it sets the mark and raises CADENCE
CHANGE. -/
theorem State.monitorHead_compared {old new : Nat} (history : (s.ci.port lane).history = some old)
    (measured : (s.ci.port lane).measured s.clk.now = some new) :
    s.monitorHead lane =
      if old + s.setting 26 < new ∨ new + s.setting 26 < old then
        s.heardOn lane true (s.notify (.cadenceChange lane old new)).nu
      else s.heardOn lane (s.ci.port lane).mark s.nu := by
  have noted : s.monitorHead lane = (s.setPort lane ((s.ci.port lane).hear s.clk.now)).noteCadence lane old new := by
    unfold State.monitorHead
    simp only [history, measured]
  have tolerance : (s.setPort lane ((s.ci.port lane).hear s.clk.now)).setting Setting.cadenceTolerance = s.setting 26 := by
    cases lane <;> rfl
  simp only [noted, State.noteCadence, tolerance, cadenceDiffers_iff, ← State.heardOn_unmarked]
  split
  · cases lane <;> rfl
  · rfl

/-- What a head makes of the monitor of a LIVE port: its mark and the notices are as they were unless it ends a whole period
that differs from the one in the history. -/
theorem State.monitorHead_live (live : (s.ci.port lane).live = true) : ∃ mark nu,
    s.monitorHead lane = s.heardOn lane mark nu ∧
    ((s.ci.port lane).voided = true → mark = (s.ci.port lane).mark ∧ nu = s.nu) ∧
    ((s.ci.port lane).voided = false →
      ((s.ci.port lane).history = none → mark = (s.ci.port lane).mark ∧ nu = s.nu) ∧
      ∀ old new, (s.ci.port lane).history = some old → new = s.clk.now - (s.ci.port lane).lastHead →
        (new ≤ old + s.setting 26 → old ≤ new + s.setting 26 → mark = (s.ci.port lane).mark ∧ nu = s.nu) ∧
        (old + s.setting 26 < new ∨ new + s.setting 26 < old →
          mark = true ∧ nu = (s.notify (.cadenceChange lane old new)).nu)) := by
  cases void : (s.ci.port lane).voided with
  | true =>
    exact ⟨_, _, State.monitorHead_uncompared (.inl (PortMonitor.measured_void void _)), fun _ => ⟨rfl, rfl⟩, nofun⟩
  | false =>
    cases history : (s.ci.port lane).history with
    | none =>
      exact ⟨_, _, State.monitorHead_uncompared (.inr history), nofun, fun _ => ⟨fun _ => ⟨rfl, rfl⟩, nofun⟩⟩
    | some old =>
      have compared := State.monitorHead_compared history (PortMonitor.measured_live live void s.clk.now)
      by_cases beyond : old + s.setting 26 < s.clk.now - (s.ci.port lane).lastHead ∨
          s.clk.now - (s.ci.port lane).lastHead + s.setting 26 < old
      · refine ⟨_, _, compared.trans (if_pos beyond), nofun, fun _ => ⟨nofun, ?_⟩⟩
        rintro _ _ ⟨⟩ rfl
        exact ⟨fun above below => by omega, fun _ => ⟨rfl, rfl⟩⟩
      · refine ⟨_, _, compared.trans (if_neg beyond), nofun, fun _ => ⟨nofun, ?_⟩⟩
        rintro _ _ ⟨⟩ rfl
        exact ⟨fun _ _ => ⟨rfl, rfl⟩, fun differs => absurd differs beyond⟩

/-- A head changes its port's monitor and the notices, and of these CADENCE CHANGE alone. -/
theorem State.monitorHead_heard (s : State) (lane : Port) : ∃ mark nu, s.monitorHead lane = s.heardOn lane mark nu ∧
    ∀ k, k ≠ 11 → Table.read (fun _ => ⟨0, none⟩) nu k = s.notice k := by
  cases measured : (s.ci.port lane).measured s.clk.now with
  | none => exact ⟨_, _, State.monitorHead_uncompared (.inl measured), fun _ _ => rfl⟩
  | some new =>
    cases history : (s.ci.port lane).history with
    | none => exact ⟨_, _, State.monitorHead_uncompared (.inr history), fun _ _ => rfl⟩
    | some old =>
      rw [State.monitorHead_compared history measured]
      split
      · exact ⟨_, _, rfl, fun k other => State.notify_notice_of_other s fun same => other same.symm⟩
      · exact ⟨_, _, rfl, fun _ _ => rfl⟩

/-! ## A head on the LIVE feed (R20, R21, R25, R161) -/

/-- A head on the LIVE feed, with no switch pending, changes neither the feed nor the frame timer. -/
theorem State.headArrives_live {s : State} {lane : Port} (r : HeadRecord) (sensor : Int) (feed : s.ci.feed = some lane)
    (live : (s.ci.port lane).live = true) (unswitched : s.ci.pendingSwitch = none) :
    s.headArrives lane r sensor = ((s.forwardHead lane r).monitorHead lane).openCapture r := by
  obtain ⟨mark, nu, heard, _⟩ := (s.forwardHead lane r).monitorHead_heard lane
  have feed' : ((s.forwardHead lane r).monitorHead lane).ci.feed = some lane := by
    rw [heard]
    cases lane <;> exact feed
  have unswitched' : ((s.forwardHead lane r).monitorHead lane).ci.pendingSwitch = none := by
    rw [heard]
    cases lane <;> exact unswitched
  have live' : (((s.forwardHead lane r).monitorHead lane).ci.port lane).live = true := by
    rw [heard]
    cases lane <;> rfl
  unfold State.headArrives
  generalize (s.forwardHead lane r).monitorHead lane = u at feed' unswitched' live'
  have returns : u.returnRuns lane = false := by
    have elsewhere : u.ci.feed ≠ some (otherPort lane) := by
      rw [feed']
      exact fun same => otherPort_ne lane (Option.some.inj same).symm
    simp [State.returnRuns, elsewhere]
  have selected : u.selectOnHead lane = u := by
    unfold State.selectOnHead
    simp only [feed', unswitched', returns, Bool.false_eq_true, if_false]
  have settled : u.settleTimer s.feedLive sensor = u := by
    rw [State.settleTimer, State.feedLive_of_feed feed', live', State.feedLive_of_feed feed, live]
    exact if_neg fun changed => changed.1 rfl
  dsimp only
  rw [selected, settled, if_pos feed']

end

/-- Settles O18: a head on the LIVE feed goes to its forwarder, its monitor and the capture; what the period that it ends does
is said of the monitor (`monitorHead_live`). -/
theorem aHeadOnTheLiveFeedMeasuresAndOpensACapture : Obligations.AHeadOnTheLiveFeedMeasuresAndOpensACapture := by
  intro s lane r m runs feed live unswitched
  refine ⟨_, (exec_frameHead runs lane r m).trans
    (congrArg _ (State.headArrives_live (s := s.tick m.elapsed) r m.sensor feed live unswitched)), ?_⟩
  have live' : (((s.tick m.elapsed).forwardHead lane r).ci.port lane).live = true := by cases lane <;> exact live
  obtain ⟨mark, nu, heard, void, whole⟩ := State.monitorHead_live live'
  have history := fun now => PortMonitor.hear_history live now
  rw [heard]
  cases lane
  all_goals
    refine ⟨rfl, rfl, rfl, rfl, rfl, unswitched, rfl, rfl, rfl, rfl, rfl, rfl, rfl,
      fun cut => ⟨(history _).1 cut, void cut⟩, fun uncut => ⟨(history _).2 uncut, (whole uncut).1, fun old new had is => ?_⟩⟩
    obtain ⟨within, beyond⟩ := (whole uncut).2 old new had is
    refine ⟨within, fun differs => ?_⟩
    obtain ⟨marked, raised⟩ := beyond differs
    subst raised
    exact ⟨marked, State.notify_notice_of_kind s rfl, fun k other => State.notify_notice_of_other s other.symm⟩

/-! ## A change of the feed, and the frame start it may bring (R24, R25, R161) -/

/-- The capture is CLOSED and FILLING is empty (R24). -/
def PixelPath.discarded (pp : PixelPath) : Prop :=
  pp.captureOpen = false ∧ pp.filling = ⟨[], false, 0, 0⟩ ∧ pp.received = []

section

variable {s : State}

/-- A change of a feed that is not NONE discards the capture, and raises FEED CHANGED (R24, R161). -/
theorem State.changeFeed_of_feed (fed : s.ci.feed ≠ none) (new : Option Port) (cause : FeedCause) :
    s.changeFeed new cause = (s.discardCapture.withCi { s.ci with
      feed := new
      pendingSwitch := none
      returnCount := 0
      leftNone := s.ci.leftNone || s.ci.feed.isNone }).notify (.feedChanged new cause) := by
  refine if_neg ?_
  simp [Option.isNone_iff_eq_none, fed]

/-- While the feed stays LIVE, or not LIVE, the frame timer goes on (R25). -/
theorem State.settleTimer_same {wasLive : Bool} (same : s.feedLive = wasLive) (sensor : Int) :
    s.settleTimer wasLive sensor = s := if_neg fun changed => changed.1 same

/-- The frame start that a change of the feed may bring at once leaves the chain, FEED CHANGED and the shown frame, and a
discarded capture discarded. -/
theorem State.settleTimer_chain (wasLive : Bool) (sensor : Int) (noReset : s.clk.reset ≠ .ready) :
    (s.settleTimer wasLive sensor).clk = s.clk ∧ (s.settleTimer wasLive sensor).ci = s.ci ∧
      (s.settleTimer wasLive sensor).notice 10 = s.notice 10 ∧
      (s.settleTimer wasLive sensor).pp.showing = s.pp.showing ∧
      (s.pp.discarded → (s.settleTimer wasLive sensor).pp.discarded) := by
  unfold State.settleTimer
  split
  · obtain ⟨clk, _, _, ci⟩ := State.frameStart_kept sensor false noReset
    obtain ⟨_, _, _, pp, _⟩ := State.frameStart_blocks sensor false noReset
    have heard := State.frameStart_feedChanged sensor false noReset
    rw [pp]
    exact ⟨clk, ci, heard, rfl, fun _ => ⟨rfl, rfl, rfl⟩⟩
  · exact ⟨rfl, rfl, rfl, rfl, id⟩

end

/-! ## The loss of a port (R24, R160, R161) -/

section

variable {s : State} {lane : Port}

/-- The return count is 0 after the loss of the preferred port (R162). -/
def State.lossCounted (s : State) (lane : Port) : State :=
  s.withCi { s.ci with returnCount := if lane = s.preferredPort then 0 else s.ci.returnCount }

theorem State.selectOnLoss_eq (s : State) (lane : Port) :
    s.selectOnLoss lane =
      if s.ci.feed = some lane then
        if (s.ci.port (otherPort lane)).live then
          s.discardCapture.withCi { s.ci with pendingSwitch := some (otherPort lane), returnCount := 0 }
        else (s.lossCounted lane).changeFeed none .loss
      else if s.ci.pendingSwitch = some lane then (s.lossCounted lane).changeFeed none .loss
      else s.lossCounted lane := by
  unfold State.selectOnLoss State.lossCounted
  by_cases preferred : lane = s.preferredPort
  · simp only [preferred, if_true]
    rfl
  · simp only [preferred, if_false]
    rfl

/-- The feed becomes NONE when its port is lost with no other LIVE one, or the port of a pending switch (R161). -/
theorem State.lossCounted_none (fed : s.ci.feed ≠ none) :
    (s.lossCounted lane).changeFeed none .loss = (s.discardCapture.withCi { s.ci with
      feed := none
      pendingSwitch := none
      returnCount := 0
      leftNone := s.ci.leftNone || s.ci.feed.isNone }).notify (.feedChanged none .loss) :=
  State.changeFeed_of_feed (s := s.lossCounted lane) fed none .loss

/-- What the loss of a port never touches. -/
theorem State.selectOnLoss_frame (s : State) (lane : Port) :
    (s.selectOnLoss lane).clk = s.clk ∧ (∀ p, (s.selectOnLoss lane).ci.port p = s.ci.port p) ∧
      (∀ p, (s.selectOnLoss lane).ci.direction p = s.ci.direction p) ∧
      (lane = s.preferredPort → (s.selectOnLoss lane).ci.returnCount = 0) := by
  have none : ∀ u : State, (u.changeFeed none .loss).clk = u.clk ∧
      (∀ p, (u.changeFeed none .loss).ci.port p = u.ci.port p) ∧
      (∀ p, (u.changeFeed none .loss).ci.direction p = u.ci.direction p) ∧
      (u.changeFeed none .loss).ci.returnCount = 0 := fun u => by
    unfold State.changeFeed
    dsimp only
    split <;> exact ⟨rfl, fun _ => rfl, fun _ => rfl, rfl⟩
  obtain ⟨clk, ports, directions, count⟩ := none (s.lossCounted lane)
  rw [State.selectOnLoss_eq]
  split
  · split
    · exact ⟨rfl, fun _ => rfl, fun _ => rfl, fun _ => rfl⟩
    · exact ⟨clk, ports, directions, fun _ => count⟩
  · split
    · exact ⟨clk, ports, directions, fun _ => count⟩
    · exact ⟨rfl, fun _ => rfl, fun _ => rfl, fun preferred => if_pos preferred⟩

end

theorem exec_portLossWatchdog {s : State} {lane : Port} (runs : s.forwarding = true) (live : (s.ci.port lane).live = true)
    (sensor : Int) : exec (.portLossWatchdog lane sensor) s = .next (s.losePort lane sensor) :=
  congrArg Host.Outcome.next (if_pos (by rw [runs, live]; rfl))

/-- What the forwarder and the monitor leave for feed selection to read. -/
theorem State.heard_chain (s : State) (lane : Port) (r : HeadRecord) :
    ((s.forwardHead lane r).monitorHead lane).clk = s.clk ∧
      ((s.forwardHead lane r).monitorHead lane).ci.feed = s.ci.feed ∧
      ((s.forwardHead lane r).monitorHead lane).ci.pendingSwitch = s.ci.pendingSwitch ∧
      (((s.forwardHead lane r).monitorHead lane).ci.port lane).live = true ∧
      ((s.forwardHead lane r).monitorHead lane).pp = s.pp ∧
      ((s.forwardHead lane r).monitorHead lane).notice 10 = s.notice 10 := by
  obtain ⟨mark, nu, heard, others⟩ := (s.forwardHead lane r).monitorHead_heard lane
  have notice := others 10 (by decide)
  rw [heard]
  cases lane <;> exact ⟨rfl, rfl, rfl, rfl, rfl, notice⟩

/-- What a head makes of a feed that feed selection has left on its port: the frame timer, then the capture (log 17). -/
theorem State.headArrives_opens {s v : State} {lane : Port} {r : HeadRecord} (sensor : Int)
    (selected : ((s.forwardHead lane r).monitorHead lane).selectOnHead lane = v) (feed : v.ci.feed = some lane)
    (noReset : v.clk.reset ≠ .ready) : ∃ w : State, s.headArrives lane r sensor = w.openCapture r ∧ w.ci = v.ci ∧
      w.notice 10 = v.notice 10 ∧ w.pp.showing = v.pp.showing := by
  obtain ⟨_, ci, notice, showing, _⟩ := State.settleTimer_chain s.feedLive sensor noReset
  refine ⟨v.settleTimer s.feedLive sensor, ?_, ci, notice, showing⟩
  unfold State.headArrives
  rw [selected]
  exact if_pos (by rw [ci, feed])

section

variable {s : State} {lane : Port} (r : HeadRecord) (sensor : Int) (noReset : s.clk.reset ≠ .ready)
include noReset

/-- A head on the pending switch's port makes that port the feed (R161). -/
theorem State.headArrives_switches (feed : s.ci.feed = some (otherPort lane)) (switch : s.ci.pendingSwitch = some lane) :
    ∃ w : State, s.headArrives lane r sensor = w.openCapture r ∧ w.ci.feed = some lane ∧ w.ci.pendingSwitch = none ∧
      (w.ci.port lane).live = true ∧ w.ci.returnCount = 0 ∧ w.pp.showing = s.pp.showing ∧
      w.notice 10 = ⟨min ((s.notice 10).count + 1) 255, some (.feedChanged (some lane) .loss)⟩ := by
  obtain ⟨clk, feed', switch', live, pp, notice⟩ := s.heard_chain lane r
  rw [feed] at feed'
  rw [switch] at switch'
  have selected : ((s.forwardHead lane r).monitorHead lane).selectOnHead lane =
      ((s.forwardHead lane r).monitorHead lane).changeFeed (some lane) .loss := by
    unfold State.selectOnHead
    simp only [feed', switch', if_true]
  rw [State.changeFeed_of_feed (by rw [feed']; nofun)] at selected
  obtain ⟨w, arrives, ci, changed, showing⟩ := State.headArrives_opens sensor selected rfl
    (clk.symm ▸ noReset : ((s.forwardHead lane r).monitorHead lane).clk.reset ≠ .ready)
  refine ⟨w, arrives, by rw [ci]; rfl, by rw [ci]; rfl, by rw [ci]; exact live, by rw [ci]; rfl, ?_, ?_⟩
  · rw [showing, ← pp]
    rfl
  · rw [changed, State.notify_notice_of_kind (k := 10) _ rfl, ← notice]
    rfl

/-- A head on the old feed port drops the pending switch, and the feed stays (R161). -/
theorem State.headArrives_unswitches (feed : s.ci.feed = some lane)
    (switch : s.ci.pendingSwitch = some (otherPort lane)) :
    ∃ w : State, s.headArrives lane r sensor = w.openCapture r ∧ w.ci.feed = some lane ∧ w.ci.pendingSwitch = none ∧
      (w.ci.port lane).live = true ∧ w.notice 10 = s.notice 10 := by
  obtain ⟨clk, feed', switch', live, _, notice⟩ := s.heard_chain lane r
  rw [feed] at feed'
  rw [switch] at switch'
  have selected : ((s.forwardHead lane r).monitorHead lane).selectOnHead lane =
      ((s.forwardHead lane r).monitorHead lane).withCi
        { ((s.forwardHead lane r).monitorHead lane).ci with pendingSwitch := none } := by
    unfold State.selectOnHead
    simp only [feed', switch', otherPort_ne, if_false]
  obtain ⟨w, arrives, ci, unchanged, _⟩ := State.headArrives_opens sensor selected feed'
    (clk.symm ▸ noReset : ((s.forwardHead lane r).monitorHead lane).clk.reset ≠ .ready)
  exact ⟨w, arrives, by rw [ci]; exact feed', by rw [ci]; rfl, by rw [ci]; exact live, unchanged.trans notice⟩

end

/-- The state in which feed selection learns of the loss of a port. -/
def State.absent (s : State) (lane : Port) : State :=
  (s.reach ((s.ci.port lane).lastHead + 100000)).setPort lane { s.ci.port lane with live := false, history := none }

theorem State.absent_frame (s : State) (lane : Port) :
    (s.absent lane).clk = { s.clk with now := max s.clk.now ((s.ci.port lane).lastHead + 100000) } ∧
      (s.absent lane).pp = s.pp ∧ (s.absent lane).nu = s.nu ∧ (s.absent lane).preferredPort = s.preferredPort ∧
      (s.absent lane).ci.feed = s.ci.feed ∧ (s.absent lane).ci.pendingSwitch = s.ci.pendingSwitch ∧
      (s.absent lane).ci.port lane = { s.ci.port lane with live := false, history := none } ∧
      (s.absent lane).ci.port (otherPort lane) = s.ci.port (otherPort lane) ∧
      ∀ p, (s.absent lane).ci.direction p = s.ci.direction p := by
  unfold State.absent
  cases lane <;> exact ⟨rfl, rfl, rfl, rfl, rfl, rfl, rfl, rfl, fun p => by cases p <;> rfl⟩

theorem State.losePort_eq (s : State) (lane : Port) (sensor : Int) :
    s.losePort lane sensor = ((s.absent lane).selectOnLoss lane).settleTimer s.feedLive sensor := rfl

section

variable {s : State} {lane : Port} (sensor : Int) (noReset : s.clk.reset ≠ .ready)
include noReset

/-- The loss of a port leaves everything of the chain but the feed, the pending switch and the return count. -/
theorem State.losePort_frame :
    (s.losePort lane sensor).clk.now = max s.clk.now ((s.ci.port lane).lastHead + 100000) ∧
      (s.losePort lane sensor).ci.port lane = { s.ci.port lane with live := false, history := none } ∧
      (s.losePort lane sensor).ci.port (otherPort lane) = s.ci.port (otherPort lane) ∧
      (∀ p, (s.losePort lane sensor).ci.direction p = s.ci.direction p) ∧
      (lane = s.preferredPort → (s.losePort lane sensor).ci.returnCount = 0) := by
  obtain ⟨clk, _, _, preferred, _, _, port, other, direction⟩ := s.absent_frame lane
  obtain ⟨clk', ports, directions, count⟩ := (s.absent lane).selectOnLoss_frame lane
  have due : ((s.absent lane).selectOnLoss lane).clk.reset ≠ .ready := by rw [clk', clk]; exact noReset
  obtain ⟨settled, ci, _⟩ := State.settleTimer_chain s.feedLive sensor due
  rw [State.losePort_eq, settled, ci, clk', clk, ports, ports, port, other]
  exact ⟨rfl, rfl, rfl, fun p => (directions p).trans (direction p), fun same => count (same.trans preferred.symm)⟩

/-- The feed's loss leaves another LIVE port as the pending switch (R161). -/
theorem State.losePort_switches (feed : s.ci.feed = some lane) (live : (s.ci.port (otherPort lane)).live = true) :
    ((s.losePort lane sensor).ci.feed = some lane ∧ (s.losePort lane sensor).ci.pendingSwitch = some (otherPort lane) ∧
      (s.losePort lane sensor).ci.returnCount = 0 ∧ (s.losePort lane sensor).notice 10 = s.notice 10) ∧
    (s.losePort lane sensor).pp.discarded ∧ (s.losePort lane sensor).pp.showing = s.pp.showing := by
  obtain ⟨clk, pp, nu, _, feed', _, _, other, _⟩ := s.absent_frame lane
  rw [State.losePort_eq, State.selectOnLoss_eq, if_pos (feed'.trans feed), if_pos (by rw [other, live])]
  generalize s.absent lane = a at *
  obtain ⟨_, ci, notice, showing, discarded⟩ := State.settleTimer_chain
    (s := a.discardCapture.withCi { a.ci with pendingSwitch := some (otherPort lane), returnCount := 0 })
    s.feedLive sensor (clk.symm ▸ noReset)
  rw [ci, notice, showing]
  refine ⟨⟨feed'.trans feed, rfl, rfl, ?_⟩, discarded ⟨rfl, rfl, rfl⟩, ?_⟩
  · rw [State.notice, State.notice, ← nu]
    rfl
  · rw [← pp]
    rfl

/-- The loss of the feed without another LIVE port, and of the port of a pending switch, leaves the feed NONE (R161). -/
theorem State.losePort_none (fed : s.ci.feed ≠ none)
    (lost : s.ci.feed = some lane ∧ (s.ci.port (otherPort lane)).live = false ∨
      s.ci.feed ≠ some lane ∧ s.ci.pendingSwitch = some lane) :
    ((s.losePort lane sensor).ci.feed = none ∧ (s.losePort lane sensor).ci.pendingSwitch = none ∧
      (s.losePort lane sensor).notice 10 =
        ⟨min ((s.notice 10).count + 1) 255, some (.feedChanged none .loss)⟩) ∧
    (s.losePort lane sensor).pp.discarded ∧ (s.losePort lane sensor).pp.showing = s.pp.showing := by
  obtain ⟨clk, pp, nu, _, feed', switch', _, other, _⟩ := s.absent_frame lane
  have selected : (s.absent lane).selectOnLoss lane = ((s.absent lane).lossCounted lane).changeFeed none .loss := by
    rw [State.selectOnLoss_eq, feed', switch', other]
    rcases lost with ⟨feed, absent⟩ | ⟨elsewhere, switch⟩
    · rw [if_pos feed, absent, if_neg Bool.false_ne_true]
    · rw [if_neg elsewhere, if_pos switch]
  rw [State.losePort_eq, selected, State.lossCounted_none (by rw [feed']; exact fed)]
  generalize s.absent lane = a at *
  obtain ⟨_, ci, notice, showing, discarded⟩ := State.settleTimer_chain
    (s := (a.discardCapture.withCi { a.ci with
      feed := none, pendingSwitch := none, returnCount := 0, leftNone := a.ci.leftNone || a.ci.feed.isNone }).notify
        (.feedChanged none .loss))
    s.feedLive sensor (clk.symm ▸ noReset)
  rw [ci, notice, showing]
  refine ⟨⟨rfl, rfl, ?_⟩, discarded ⟨rfl, rfl, rfl⟩, ?_⟩
  · rw [State.notify_notice_of_kind (k := 10) _ rfl, State.notice, State.notice, ← nu]
    rfl
  · rw [← pp]
    rfl

end

/-- The loss of a port that is neither the feed nor the pending switch changes no feed and no frame. -/
theorem State.losePort_unselected {s : State} {lane : Port} (sensor : Int) (elsewhere : s.ci.feed ≠ some lane)
    (unswitched : s.ci.pendingSwitch ≠ some lane) :
    (s.losePort lane sensor).ci.feed = s.ci.feed ∧ (s.losePort lane sensor).ci.pendingSwitch = s.ci.pendingSwitch ∧
      (s.losePort lane sensor).notice 10 = s.notice 10 ∧ (s.losePort lane sensor).pp = s.pp := by
  obtain ⟨_, pp, nu, _, feed, switch, _, other, _⟩ := s.absent_frame lane
  have same : ((s.absent lane).lossCounted lane).feedLive = s.feedLive := by
    cases fed : s.ci.feed with
    | none =>
      have unfed : ∀ p, s.ci.feed = some p → (s.ci.port p).live = false := fun p some => by rw [fed] at some; cases some
      have unfed' : ∀ p, ((s.absent lane).lossCounted lane).ci.feed = some p →
          (((s.absent lane).lossCounted lane).ci.port p).live = false := fun p some => by
        rw [show ((s.absent lane).lossCounted lane).ci.feed = none from feed.trans fed] at some
        cases some
      rw [State.feedLive_false unfed, State.feedLive_false unfed']
    | some p =>
      obtain rfl : p = otherPort lane := eq_otherPort fun same => elsewhere (same ▸ fed)
      have fed' : ((s.absent lane).lossCounted lane).ci.feed = some (otherPort lane) := feed.trans fed
      rw [State.feedLive_of_feed fed, State.feedLive_of_feed fed', ← other]
      rfl
  rw [State.losePort_eq, State.selectOnLoss_eq, feed, switch, if_neg elsewhere, if_neg unswitched,
    State.settleTimer_same same]
  refine ⟨feed, switch, ?_, pp⟩
  rw [State.notice, State.notice, ← nu]
  rfl

/-- Settles O21. A loss, and a head while a switch is pending, are each a choice of feed selection, then at most a frame start
that leaves the chain and the shown frame (`settleTimer_chain`), and for the head the opened capture. -/
theorem aPortIsLostAfter100Milliseconds : Obligations.APortIsLostAfter100Milliseconds := by
  refine ⟨fun s lane r m runs noReset => ⟨fun feed switch => ?_, fun feed switch => ?_⟩,
    fun s lane sensor runs noReset live => ?_⟩
  · obtain ⟨w, arrives, feed', switch', live, count, showing, changed⟩ :=
      State.headArrives_switches (s := s.tick m.elapsed) r m.sensor noReset feed switch
    exact ⟨_, (exec_frameHead runs lane r m).trans (congrArg _ arrives), feed', switch', live, count, rfl, rfl, rfl, showing,
      changed⟩
  · obtain ⟨w, arrives, feed', switch', live, unchanged⟩ :=
      State.headArrives_unswitches (s := s.tick m.elapsed) r m.sensor noReset feed switch
    exact ⟨_, (exec_frameHead runs lane r m).trans (congrArg _ arrives), feed', switch', live, rfl, rfl, rfl, unchanged⟩
  · refine ⟨_, exec_portLossWatchdog runs live sensor, ?_⟩
    obtain ⟨now, port, other, directions, count⟩ := State.losePort_frame (lane := lane) sensor noReset
    refine ⟨now, port, other, directions, count, fun feed another => ?_, fun feed alone => ?_, fun elsewhere fed switch => ?_,
      fun elsewhere unswitched => State.losePort_unselected sensor elsewhere unswitched, fun lost => ?_⟩
    · exact (State.losePort_switches sensor noReset feed another).1
    · exact (State.losePort_none sensor noReset (by rw [feed]; nofun) (.inl ⟨feed, alone⟩)).1
    · exact (State.losePort_none sensor noReset fed (.inr ⟨elsewhere, switch⟩)).1
    · obtain ⟨⟨closed, emptied, unreceived⟩, showing⟩ :
          (s.losePort lane sensor).pp.discarded ∧ (s.losePort lane sensor).pp.showing = s.pp.showing := by
        by_cases feed : s.ci.feed = some lane
        · cases another : (s.ci.port (otherPort lane)).live with
          | true => exact (State.losePort_switches sensor noReset feed another).2
          | false => exact (State.losePort_none sensor noReset (by rw [feed]; nofun) (.inl ⟨feed, another⟩)).2
        · obtain ⟨fed, switch⟩ := lost.resolve_left feed
          exact (State.losePort_none sensor noReset fed (.inr ⟨feed, switch⟩)).2
      exact ⟨closed, emptied, unreceived, showing⟩

end Sys2Proof.Machine

end

section
/-! PROOFS. O22: a LINE record in the window. -/

namespace Sys2Proof.Machine

/-! ## Tile and wall coordinates (R19) -/

/-- The tile coordinate that takes a wall coordinate is the one whose wall coordinate it is. -/
theorem tileCoordinate_eq_some_iff (origin count : Nat) (descending : Bool) (wall i : Nat) :
    tileCoordinate origin count descending wall = some i ↔ i < count ∧ wallCoordinate origin count descending i = wall := by
  unfold tileCoordinate wallCoordinate
  split
  · cases descending <;> simp <;> omega
  · cases descending <;> simp <;> omega

theorem Window.tileColumn_eq_some_iff (w : Window) (x c : Nat) :
    w.tileColumn x = some c ↔ c < 64 ∧ w.wallColumn c = x := tileCoordinate_eq_some_iff _ _ _ _ _

theorem Window.tileRow_eq_some_iff (w : Window) (y r : Nat) :
    w.tileRow y = some r ↔ r < 48 ∧ w.wallRow r = y := tileCoordinate_eq_some_iff _ _ _ _ _

theorem Window.coordinates (w : Window) :
    (∀ c < 64, w.wallColumn c = if w.columnDescending then w.originColumn + 63 - c else w.originColumn + c) ∧
    (∀ r < 48, w.wallRow r = if w.rowDescending then w.originRow + 47 - r else w.originRow + r) := by
  refine ⟨fun c column => ?_, fun r row => ?_⟩
  · unfold Window.wallColumn wallCoordinate Config.columns
    cases w.columnDescending
    · rfl
    · simp only [if_true]
      omega
  · unfold Window.wallRow wallCoordinate Config.rows
    cases w.rowDescending
    · rfl
    · simp only [if_true]
      omega

/-! ## One pixel (R22) -/

/-- The value of a wall pixel for a colour (R19). -/
def pixelColour (p : Pixel) : Nat → Half
  | 0 => p.red
  | 1 => p.green
  | _ => p.blue

theorem siteAt_inj {row column row' column' : Nat} (inside : column < 64) (inside' : column' < 64) :
    siteAt row column = siteAt row' column' ↔ row = row' ∧ column = column' := by
  unfold siteAt Config.columns
  omega

/-- A site's three cells are written, and no other cell. -/
theorem writePixel_read (t : Table Half) {row column row' column' k : Nat} (p : Pixel) (inside : column < 64)
    (inside' : column' < 64) (colour : k < 3) :
    Table.read (fun _ => 0) (writePixel t row column p) (cellAt row' column' k) =
      if row = row' ∧ column = column' then pixelColour p k else Table.read (fun _ => 0) t (cellAt row' column' k) := by
  have cells : ∀ j < 3, (cellAt row column j = cellAt row' column' k ↔ (row = row' ∧ column = column') ∧ j = k) := by
    intro j colour'
    unfold cellAt
    omega
  unfold writePixel
  simp only [Table.read_write, cells 0 (by decide), cells 1 (by decide), cells 2 (by decide)]
  by_cases here : row = row' ∧ column = column'
  · match k, colour with
    | 0, _ => simp [here, pixelColour]
    | 1, _ => simp [here, pixelColour]
    | 2, _ => simp [here, pixelColour]
  · simp [here]

/-- A wall column is taken by one tile column at most. -/
theorem Window.wallColumn_inj (w : Window) {c c' : Nat} (column : c < 64) (column' : c' < 64) :
    w.wallColumn c = w.wallColumn c' ↔ c = c' := by
  refine ⟨fun same => Option.some.inj ?_, fun same => same ▸ rfl⟩
  rw [← (w.tileColumn_eq_some_iff _ c).2 ⟨column, same⟩, (w.tileColumn_eq_some_iff _ c').2 ⟨column', rfl⟩]

/-- A pixel leaves everything of the Pixel Path but FILLING's pixels and the received set. -/
theorem PixelPath.takePixel_frame (pp : PixelPath) (row x : Nat) (p : Pixel) :
    pp.takePixel row x p = { pp with
      filling := { pp.filling with pixels := (pp.takePixel row x p).filling.pixels }
      received := (pp.takePixel row x p).received } := by
  unfold PixelPath.takePixel
  split
  · rfl
  · split <;> rfl

/-- A pixel of a LINE record changes only the site that lies at its wall column, and that only inside the wall (R22). -/
theorem PixelPath.takePixel_site (pp : PixelPath) (row x : Nat) (p : Pixel) {row' c : Nat} (column : c < 64) :
    (pp.takePixel row x p).got (siteAt row' c) =
        (if row' = row ∧ pp.window.wallColumn c = x ∧ x < 4096 then true else pp.got (siteAt row' c)) ∧
      ∀ k < 3, (pp.takePixel row x p).filling.pixel (cellAt row' c k) =
        if row' = row ∧ pp.window.wallColumn c = x ∧ x < 4096 then pixelColour p k
        else pp.filling.pixel (cellAt row' c k) := by
  unfold PixelPath.takePixel
  cases taken : pp.window.tileColumn x with
  | none =>
    have untaken : pp.window.wallColumn c ≠ x := fun same => by
      rw [(pp.window.tileColumn_eq_some_iff x c).2 ⟨column, same⟩] at taken
      cases taken
    simp [untaken]
  | some c0 =>
    obtain ⟨column0, rfl⟩ := (pp.window.tileColumn_eq_some_iff x c0).1 taken
    by_cases inside : pp.window.wallColumn c0 < 4096
    · have read : ∀ site, Table.read (fun _ => false) (Table.write (fun _ => false) pp.received (siteAt row c0) true) site =
          if siteAt row c0 = site then true else pp.got site := fun _ => Table.read_write _ _ _ _ _
      have pixel : ∀ k < 3, Table.read (fun _ => 0) (writePixel pp.filling.pixels row c0 p) (cellAt row' c k) =
          if row = row' ∧ c0 = c then pixelColour p k else pp.filling.pixel (cellAt row' c k) :=
        fun k colour => writePixel_read _ p column0 column colour
      simp only [Config.wallSize, inside, if_true, PixelPath.got, Buffer.pixel] at read pixel ⊢
      simp only [read, siteAt_inj column0 column, pp.window.wallColumn_inj column column0, and_true, eq_comm (a := row'),
        eq_comm (a := c), true_and]
      exact pixel
    · simp [Config.wallSize, inside]

/-! ## The pixels of a record (R22) -/

theorem PixelPath.takePixels_frame (row : Nat) (pixels : List Pixel) (x : Nat) (pp : PixelPath) :
    pp.takePixels row x pixels = { pp with
      filling := { pp.filling with pixels := (pp.takePixels row x pixels).filling.pixels }
      received := (pp.takePixels row x pixels).received } := by
  induction pixels generalizing x pp with
  | nil => rfl
  | cons p rest ih =>
    unfold PixelPath.takePixels
    rw [ih, pp.takePixel_frame row x p]

/-- A site that the record does not carry stays as it is. -/
theorem PixelPath.takePixels_uncarried (row : Nat) (pixels : List Pixel) (x : Nat) (pp : PixelPath) {row' c : Nat}
    (column : c < 64) (uncarried : row' ≠ row ∨ pp.window.wallColumn c < x ∨
      x + pixels.length ≤ pp.window.wallColumn c ∨ 4096 ≤ pp.window.wallColumn c) :
    (pp.takePixels row x pixels).got (siteAt row' c) = pp.got (siteAt row' c) ∧
      ∀ k < 3, (pp.takePixels row x pixels).filling.pixel (cellAt row' c k) = pp.filling.pixel (cellAt row' c k) := by
  induction pixels generalizing x pp with
  | nil => exact ⟨rfl, fun _ _ => rfl⟩
  | cons p rest ih =>
    have window : (pp.takePixel row x p).window = pp.window := by rw [pp.takePixel_frame]
    obtain ⟨got, pixel⟩ := pp.takePixel_site row x p (row' := row') column
    have elsewhere : ¬(row' = row ∧ pp.window.wallColumn c = x ∧ x < 4096) := by
      rw [List.length_cons] at uncarried
      omega
    obtain ⟨got', pixel'⟩ := ih (x + 1) (pp.takePixel row x p) (by
      rw [window]
      rw [List.length_cons] at uncarried
      omega)
    exact ⟨got'.trans (got.trans (if_neg elsewhere)),
      fun k colour => (pixel' k colour).trans ((pixel k colour).trans (if_neg elsewhere))⟩

/-- A site of the row that the record carries is received and has the record's pixel. -/
theorem PixelPath.takePixels_carried (row : Nat) (pixels : List Pixel) (x : Nat) (pp : PixelPath) {c i : Nat}
    (column : c < 64) (carries : i < pixels.length) (there : pp.window.wallColumn c = x + i) (inside : x + i < 4096) :
    (pp.takePixels row x pixels).got (siteAt row c) = true ∧
      ∀ k < 3, (pp.takePixels row x pixels).filling.pixel (cellAt row c k) = pixelColour pixels[i] k := by
  induction pixels generalizing x i pp with
  | nil => cases carries
  | cons p rest ih =>
    have window : (pp.takePixel row x p).window = pp.window := by rw [pp.takePixel_frame]
    cases i with
    | zero =>
      -- The first pixel is the site's, and none of the later ones is.
      obtain ⟨got, pixel⟩ := pp.takePixel_site row x p (row' := row) column
      obtain ⟨got', pixel'⟩ := (pp.takePixel row x p).takePixels_uncarried row rest (x + 1) (row' := row) column
        (.inr (.inl (by rw [window]; omega)))
      have here : row = row ∧ pp.window.wallColumn c = x ∧ x < 4096 := ⟨rfl, there, inside⟩
      exact ⟨got'.trans (got.trans (if_pos here)),
        fun k colour => (pixel' k colour).trans ((pixel k colour).trans (if_pos here))⟩
    | succ i =>
      exact ih (x + 1) (pp.takePixel row x p) (Nat.lt_of_succ_lt_succ carries) (by rw [window]; omega) (by omega)

/-! ## A LINE record (R22, R155) -/

theorem PixelPath.takeLine_of_row {pp : PixelPath} {r : LineRecord} {row : Nat} (opened : pp.captureOpen = true)
    (light : pp.filling.dark = false) (inside : r.wallRow ≤ 4095) (wall : row < 48)
    (there : pp.window.wallRow row = r.wallRow) : pp.takeLine r = pp.takePixels row r.firstColumn r.pixels := by
  have tile := (pp.window.tileRow_eq_some_iff r.wallRow row).2 ⟨wall, there⟩
  have below : r.wallRow < Config.wallSize := Nat.lt_succ_of_le inside
  unfold PixelPath.takeLine
  simp [opened, light, below, tile]

/-- A record that no open capture of a frame that is not DARK takes into a row of the tile changes no pixel. -/
theorem PixelPath.takeLine_untaken {pp : PixelPath} {r : LineRecord}
    (untaken : pp.captureOpen = false ∨ pp.filling.dark = true ∨ ∀ row < 48, pp.window.wallRow row ≠ r.wallRow) :
    pp.takeLine r = pp := by
  unfold PixelPath.takeLine
  rcases untaken with closed | dark | outside
  · simp [closed]
  · simp [dark]
  · cases tile : pp.window.tileRow r.wallRow with
    | none => exact ite_self _
    | some row =>
      obtain ⟨wall, there⟩ := (pp.window.tileRow_eq_some_iff r.wallRow row).1 tile
      exact absurd there (outside row wall)

theorem exec_line {s : State} (runs : s.forwarding = true) (lane : Port) (r : LineRecord) :
    exec (.line lane r) s = .next
      (if LineRecord.inRange r && decide (s.ci.feed = some lane) then
        (s.send lane (LineRecord.bytes r)).withPp (s.pp.takeLine r)
      else s.send lane (LineRecord.bytes r)) := by
  refine (congrArg Host.Outcome.next (if_pos runs)).trans ?_
  dsimp only
  rw [State.send_pp]

/-- Settles O22: each wall column of the record is taken by one tile column at most, so that a site's pixel is the record's at
its wall column, or the one it had. -/
theorem aLineIsTakenIntoTheWindow : Obligations.ALineIsTakenIntoTheWindow := by
  refine ⟨fun w => ⟨w.coordinates.1, w.coordinates.2, fun _ _ => rfl⟩,
    fun s lane r row runs range feed opened light wall there => ?_,
    fun s lane r runs untaken => ?_⟩
  · have inside : r.wallRow ≤ 4095 := by
      simp only [LineRecord.inRange, Bool.and_eq_true, decide_eq_true_eq] at range
      omega
    have taken : exec (.line lane r) s = .next
        ((s.send lane (LineRecord.bytes r)).withPp (s.pp.takePixels row r.firstColumn r.pixels)) := by
      rw [exec_line runs, range, decide_eq_true feed, PixelPath.takeLine_of_row opened light inside wall there]
      rfl
    refine ⟨_, taken, fun i c carries column same below => ?_, fun row' c _ column uncarried => ?_, ?_, ?_⟩
    · obtain ⟨got, pixel⟩ := s.pp.takePixels_carried row r.pixels r.firstColumn column carries same below
      exact ⟨pixel 0 (by decide), pixel 1 (by decide), pixel 2 (by decide), got⟩
    · exact s.pp.takePixels_uncarried row r.pixels r.firstColumn column uncarried
    · cases lane <;> rfl
    · exact congrArg (s.send lane (LineRecord.bytes r)).withPp (s.pp.takePixels_frame row r.pixels r.firstColumn)
  · rw [exec_line runs]
    rcases untaken with off | untaken
    · rw [decide_eq_false off, Bool.and_false, if_neg Bool.false_ne_true]
    · rw [PixelPath.takeLine_untaken untaken, ← State.send_pp s lane (LineRecord.bytes r), State.withPp_self, ite_self]

end Sys2Proof.Machine

end

section
/-! PROOFS. O31: the claims on a row gap, and the arbiter's choice. -/

namespace Sys2Proof.Machine

/-! ## Searching numbers in order -/

theorem findFrom_eq_some_iff {test : Nat → Bool} {start count n : Nat} :
    findFrom test start count = some n ↔
      start ≤ n ∧ n < start + count ∧ test n = true ∧ ∀ x, start ≤ x → x < n → test x = false := by
  induction count generalizing start with
  | zero => exact ⟨nofun, fun ⟨low, high, _⟩ => absurd high (by omega)⟩
  | succ count ih =>
    unfold findFrom
    cases first : test start with
    | true =>
      rw [if_pos rfl, Option.some.injEq]
      refine ⟨fun same => ?_, fun ⟨low, _, _, before⟩ => ?_⟩
      · subst same
        exact ⟨le_refl _, by omega, first, fun x low high => by omega⟩
      · by_contra other
        exact absurd (first.symm.trans (before start (le_refl _) (by omega))) (by decide)
    | false =>
      rw [if_neg Bool.false_ne_true, ih]
      constructor
      · rintro ⟨low, high, holds, before⟩
        refine ⟨by omega, by omega, holds, fun x above below => ?_⟩
        rcases Nat.eq_or_lt_of_le above with rfl | later
        · exact first
        · exact before x later below
      · rintro ⟨low, high, holds, before⟩
        have later : start ≠ n := fun same => by rw [same, holds] at first; cases first
        exact ⟨by omega, by omega, holds, fun x above below => before x (by omega) below⟩

theorem findFrom_eq_none_iff {test : Nat → Bool} {start count : Nat} :
    findFrom test start count = none ↔ ∀ x, start ≤ x → x < start + count → test x = false := by
  induction count generalizing start with
  | zero => exact ⟨fun _ x low high => by omega, fun _ => rfl⟩
  | succ count ih =>
    unfold findFrom
    cases first : test start with
    | true =>
      rw [if_pos rfl]
      exact ⟨nofun, fun none => absurd (first.symm.trans (none start (le_refl _) (by omega))) (by decide)⟩
    | false =>
      rw [if_neg Bool.false_ne_true, ih]
      refine ⟨fun none x low high => ?_, fun none x low high => none x (by omega) (by omega)⟩
      rcases Nat.eq_or_lt_of_le low with rfl | later
      · exact first
      · exact none x later (by omega)

/-! ## The claims (R59, R61, R62) -/

theorem RepairEngine.qualifying_false_iff (r : RepairEngine) (n : Nat) : r.qualifying n = false ↔ r.servingUnit n = none := by
  unfold RepairEngine.qualifying
  rw [← Bool.not_eq_true, Option.not_isSome_iff_eq_none]

theorem RepairEngine.qualifying_true_iff (r : RepairEngine) (n : Nat) : r.qualifying n = true ↔ r.servingUnit n ≠ none := by
  rw [Ne, ← r.qualifying_false_iff, Bool.not_eq_false]

/-- Which unit serves a cell, and through which channel it is pulsed (R4, R40). -/
theorem RepairEngine.servingUnit_cases (r : RepairEngine) (n : Nat) :
    (r.cell n = .healthy → r.servingUnit n = some (⟨.primary, n⟩, none)) ∧
    (∀ k, r.cell n = .spared k → r.die n = .good → r.servingUnit n = some (⟨.spare, n⟩, some k)) ∧
    (r.cell n ≠ .healthy → (∀ k, r.cell n = .spared k → r.die n ≠ .good) → r.servingUnit n = none) ∧
    r.pulseChannel ⟨.primary, n⟩ = none ∧
    ∀ k, r.cell n = .spared k → r.pulseChannel ⟨.spare, n⟩ = some k := by
  unfold RepairEngine.servingUnit
  refine ⟨fun healthy => by rw [healthy], fun k spared good => by rw [spared, good]; rfl, fun unhealthy unserved => ?_, rfl,
    fun k spared => congrArg CellState.channel spared⟩
  cases cell : r.cell n with
  | healthy => exact absurd cell unhealthy
  | spared k => exact if_neg (unserved k cell)
  | suspect => rfl
  | condemned => rfl
  | pendingSpare phase k => rfl
  | concealed reason => rfl

section

variable (s : State) (row : Nat)

theorem State.provingClaim_eq_some_iff (p : Proving) :
    s.provingClaim row = some p ↔ ∃ front back, s.re.provings = front ++ p :: back ∧ p.phase = .proving ∧
      rowOf p.cell = row ∧ ∀ x ∈ front, x.phase = .proving → rowOf x.cell ≠ row := by
  unfold State.provingClaim
  simp only [List.find?_eq_some_iff_append, Bool.and_eq_true, decide_eq_true_eq, Bool.not_eq_true', Bool.and_eq_false_imp,
    decide_eq_false_iff_not]
  exact ⟨fun ⟨⟨phase, lies⟩, front, back, list, before⟩ => ⟨front, back, list, phase, lies, before⟩,
    fun ⟨front, back, list, phase, lies, before⟩ => ⟨⟨phase, lies⟩, front, back, list, before⟩⟩

theorem State.provingClaim_eq_none_iff :
    s.provingClaim row = none ↔ ∀ x ∈ s.re.provings, x.phase = .proving → rowOf x.cell ≠ row := by
  unfold State.provingClaim
  simp only [List.find?_eq_none, Bool.and_eq_true, decide_eq_true_eq, not_and, ne_eq]

theorem State.retestClaim_eq_some_iff (e : Entry) :
    s.retestClaim row = some e ↔ ∃ front back, s.re.suspects = front ++ e :: back ∧ e.due = 0 ∧
      e.evidence ≠ s.setting 13 ∧ rowOf e.unit.cell = row ∧
      ∀ x ∈ front, x.due = 0 → x.evidence ≠ s.setting 13 → rowOf x.unit.cell ≠ row := by
  unfold State.retestClaim
  simp only [List.find?_eq_some_iff_append, State.condemnedMark_eq, Bool.and_eq_true, decide_eq_true_eq,
    Bool.not_eq_true', Bool.and_eq_false_imp, decide_eq_false_iff_not, and_imp]
  exact ⟨fun ⟨⟨⟨due, uncondemned⟩, lies⟩, front, back, list, before⟩ => ⟨front, back, list, due, uncondemned, lies, before⟩,
    fun ⟨front, back, list, due, uncondemned, lies, before⟩ => ⟨⟨⟨due, uncondemned⟩, lies⟩, front, back, list, before⟩⟩

theorem State.retestClaim_eq_none_iff :
    s.retestClaim row = none ↔
      ∀ x ∈ s.re.suspects, x.due = 0 → x.evidence ≠ s.setting 13 → rowOf x.unit.cell ≠ row := by
  unfold State.retestClaim
  simp only [List.find?_eq_none, State.condemnedMark_eq, Bool.and_eq_true, decide_eq_true_eq, Bool.not_eq_true',
    decide_eq_false_iff_not, not_and, and_imp, ne_eq]

theorem State.mayOpenGap_iff :
    s.mayOpenGap = true ↔ s.forwarding = true ∧ s.pp.startUp = false ∧ s.pp.gap = none ∧ s.pp.nextGap < 384 := by
  simp only [State.mayOpenGap, Bool.and_eq_true, decide_eq_true_eq, Bool.not_eq_true', Option.isNone_iff_eq_none, and_assoc]
  rfl

variable {s}

/-- The sweep's next cell is the first qualifying one at or after its cursor, else the first one before it (R62). -/
theorem State.sweepNext_eq_some_iff (cursor : s.su.sweepCursor < 9216) (n : Nat) :
    s.sweepNext = some n ↔ n < 9216 ∧ s.re.servingUnit n ≠ none ∧
      (s.su.sweepCursor ≤ n ∧ (∀ x, s.su.sweepCursor ≤ x → x < n → s.re.servingUnit x = none) ∨
        n < s.su.sweepCursor ∧ (∀ x < n, s.re.servingUnit x = none) ∧
          ∀ x, s.su.sweepCursor ≤ x → x < 9216 → s.re.servingUnit x = none) := by
  have whole : s.su.sweepCursor + (Config.cells - s.su.sweepCursor) = 9216 := Nat.add_sub_cancel' (Nat.le_of_lt cursor)
  unfold State.sweepNext
  simp only [Option.or_eq_some_iff, findFrom_eq_some_iff, findFrom_eq_none_iff, whole, Nat.zero_add, Nat.zero_le, true_imp_iff,
    true_and, RepairEngine.qualifying_false_iff, RepairEngine.qualifying_true_iff]
  constructor
  · rintro (⟨ahead, inside, serves, before⟩ | ⟨none, behind, serves, before⟩)
    · exact ⟨inside, serves, .inl ⟨ahead, before⟩⟩
    · exact ⟨behind.trans cursor, serves, .inr ⟨behind, before, none⟩⟩
  · rintro ⟨inside, serves, ⟨ahead, before⟩ | ⟨behind, before, none⟩⟩
    · exact .inl ⟨ahead, inside, serves, before⟩
    · exact .inr ⟨none, behind, serves, before⟩

theorem State.sweepNext_eq_none_iff (cursor : s.su.sweepCursor < 9216) :
    s.sweepNext = none ↔ ∀ n < 9216, s.re.servingUnit n = none := by
  have whole : s.su.sweepCursor + (Config.cells - s.su.sweepCursor) = 9216 := Nat.add_sub_cancel' (Nat.le_of_lt cursor)
  unfold State.sweepNext
  simp only [Option.or_eq_none_iff, findFrom_eq_none_iff, whole, Nat.zero_add, Nat.zero_le, true_imp_iff,
    RepairEngine.qualifying_false_iff]
  refine ⟨fun ⟨ahead, behind⟩ n inside => ?_, fun none => ⟨fun x _ => none x, fun x below => none x (below.trans cursor)⟩⟩
  rcases Nat.lt_or_ge n s.su.sweepCursor with below | above
  · exact behind n below
  · exact ahead n above inside

end

/-! ## What the arbiter leaves alone -/

/-- A step of the arbiter: the Sense Unit's, with SURVEY ENDED among the notices (R70). -/
def State.arbiterOnly (s t : State) : Prop := t = { s with su := t.su, nu := t.nu } ∧ ∀ k, k ≠ 9 → t.notice k = s.notice k

theorem State.arbiterOnly_withSu (s : State) (su : SenseUnit) : s.arbiterOnly (s.withSu su) := ⟨rfl, fun _ _ => rfl⟩

theorem State.arbiterOnly_grant (s : State) (index : Nat) (g : Grant) (surveyed wraps : Bool) :
    s.arbiterOnly (s.grant index g surveyed wraps) := s.arbiterOnly_withSu _

theorem State.arbiterOnly_wrapRow (s : State) (row : Nat) : s.arbiterOnly (s.wrapRow row) := by
  unfold State.wrapRow
  split
  · exact s.arbiterOnly_withSu s.su
  · dsimp only
    split
    · split
      · exact ⟨rfl, fun _ other => State.notify_notice_of_other _ fun same => other same.symm⟩
      · exact s.arbiterOnly_withSu _
    · exact s.arbiterOnly_withSu _

theorem State.arbiterOnly_surveyGap (s : State) (index row : Nat) (v : Survey) :
    s.arbiterOnly (s.surveyGap index row v) := by
  unfold State.surveyGap
  split
  · exact s.arbiterOnly_withSu s.su
  · split
    · exact s.arbiterOnly_wrapRow row
    · split
      · exact s.arbiterOnly_withSu s.su
      · exact s.arbiterOnly_withSu _

theorem State.arbiterOnly_sweepGap (s : State) (index row : Nat) : s.arbiterOnly (s.sweepGap index row) := by
  unfold State.sweepGap
  split
  · exact s.arbiterOnly_withSu s.su
  · split
    · split
      · exact s.arbiterOnly_withSu s.su
      · exact s.arbiterOnly_withSu _
    · exact s.arbiterOnly_withSu s.su

theorem State.arbiterOnly_arbitrate (s : State) (index row : Nat) : s.arbiterOnly (s.arbitrate index row) := by
  unfold State.arbitrate
  split
  · exact s.arbiterOnly_grant _ _ _ _
  · split
    · exact s.arbiterOnly_grant _ _ _ _
    · split
      · exact s.arbiterOnly_grant _ _ _ _
      · split
        · exact s.arbiterOnly_surveyGap _ _ _
        · exact s.arbiterOnly_sweepGap _ _

/-! ## The arbiter's choice, claim by claim (R58, R63, R66) -/

section

variable {s : State} {index row : Nat}

theorem State.arbitrate_reference : s.arbitrate 0 row = s.grant 0 .reference false false := if_pos rfl

theorem State.arbitrate_proving (later : index ≠ 0) {p : Proving} (claim : s.provingClaim row = some p) :
    s.arbitrate index row = s.grant index (.unit ⟨.spare, p.cell⟩ .proving (some p.channel)) false false := by
  rw [State.arbitrate, if_neg later]
  simp only [claim]

theorem State.arbitrate_retest (later : index ≠ 0) (unproved : s.provingClaim row = none) {e : Entry}
    (claim : s.retestClaim row = some e) :
    s.arbitrate index row = s.grant index (.unit e.unit .retest (s.re.pulseChannel e.unit)) false false := by
  rw [State.arbitrate, if_neg later]
  simp only [unproved, claim]

theorem State.arbitrate_survey (later : index ≠ 0) (unproved : s.provingClaim row = none)
    (unclaimed : s.retestClaim row = none) {v : Survey} (survey : s.su.survey = some v) :
    s.arbitrate index row = s.surveyGap index row v := by
  rw [State.arbitrate, if_neg later]
  simp only [unproved, unclaimed, survey]

theorem State.arbitrate_sweep (later : index ≠ 0) (unproved : s.provingClaim row = none)
    (unclaimed : s.retestClaim row = none) (idle : s.su.survey = none) :
    s.arbitrate index row = s.sweepGap index row := by
  rw [State.arbitrate, if_neg later]
  simp only [unproved, unclaimed, idle]

/-- The sweep measures its next cell when that lies in the row and the rate allows (R63). -/
theorem State.sweepGap_grants {n : Nat} {u : UnitId} {channel : Option Nat} (next : s.sweepNext = some n)
    (lies : rowOf n = row) (allowed : s.su.sweepCount < s.setting 11) (serves : s.re.servingUnit n = some (u, channel)) :
    s.sweepGap index row = (s.withSu { s.su with
      sweepCursor := (n + 1) % 9216
      sweepCount := s.su.sweepCount + 1 }).grant index (.unit u .sweep channel) false false := by
  have both : rowOf n = row ∧ s.su.sweepCount < s.setting Setting.sweepRate := ⟨lies, allowed⟩
  unfold State.sweepGap
  simp only [next, if_pos both, serves]
  rfl

theorem State.sweepGap_idle
    (idle : (∀ n, s.sweepNext = some n → rowOf n ≠ row) ∨ s.setting 11 ≤ s.su.sweepCount) :
    s.sweepGap index row = s := by
  unfold State.sweepGap
  cases next : s.sweepNext with
  | none => rfl
  | some n =>
    refine if_neg fun both => ?_
    rcases idle with elsewhere | spent
    · exact elsewhere n next both.1
    · exact absurd both.2 (Nat.not_lt.2 spent)

/-- The sweep raises no notice. -/
theorem State.sweepGap_nu : (s.sweepGap index row).nu = s.nu := by
  unfold State.sweepGap
  split
  · rfl
  · split
    · split <;> rfl
    · rfl

/-! ## The survey's claim (R66, R67, R70) -/

theorem State.surveyGap_wrapped {v : Survey} (wrapped : (v.cursor row).wrapped = true) : s.surveyGap index row v = s :=
  if_pos wrapped

/-- A search that finds no qualifying cell in the rest of the row sets the row's wrapped mark. -/
theorem State.surveyGap_wraps {v : Survey} (unwrapped : (v.cursor row).wrapped = false)
    (none : ∀ x, (v.cursor row).position ≤ x → x < 192 → s.re.servingUnit (row * 192 + x) = none) :
    s.surveyGap index row v = s.wrapRow row := by
  have search : findFrom (fun q => s.re.qualifying (row * 192 + q)) (v.cursor row).position
      (192 - (v.cursor row).position) = Option.none :=
    findFrom_eq_none_iff.2 fun x low high => (s.re.qualifying_false_iff _).2 (none x low (by omega))
  rw [State.surveyGap, if_neg (by rw [unwrapped]; exact Bool.false_ne_true), search]

/-- A search that finds a qualifying cell measures it, and its cursor goes to the position after it. -/
theorem State.surveyGap_grants {v : Survey} {q : Nat} {u : UnitId} {channel : Option Nat}
    (unwrapped : (v.cursor row).wrapped = false) (ahead : (v.cursor row).position ≤ q) (inside : q < 192)
    (before : ∀ x, (v.cursor row).position ≤ x → x < q → s.re.servingUnit (row * 192 + x) = none)
    (serves : s.re.servingUnit (row * 192 + q) = some (u, channel)) :
    s.surveyGap index row v =
      (s.setSurvey (some (v.setCursor row ⟨if q = 191 then 0 else q + 1, false⟩))).grant index
        (.unit u .survey channel) true (decide (q = 191)) := by
  have search : findFrom (fun q => s.re.qualifying (row * 192 + q)) (v.cursor row).position
      (192 - (v.cursor row).position) = some q :=
    findFrom_eq_some_iff.2 ⟨ahead, by omega, (s.re.qualifying_true_iff _).2 (by rw [serves]; nofun),
      fun x low below => (s.re.qualifying_false_iff _).2 (before x low below)⟩
  have last : decide (q + 1 = 192) = decide (q = 191) := decide_eq_decide.2 (by omega)
  rw [State.surveyGap, if_neg (by rw [unwrapped]; exact Bool.false_ne_true), search]
  simp only [serves, last, decide_eq_true_eq]

theorem Survey.setCursor_cursor (v : Survey) (row : Nat) (c : Cursor) (other : Nat) :
    (v.setCursor row c).cursor other = if row = other then c else v.cursor other := Table.read_write _ _ _ _ _

/-- With one row's mark set the pass is at its end when every other row's mark is set. -/
theorem Survey.allWrapped_setCursor (v : Survey) (row : Nat) :
    (v.setCursor row ⟨0, true⟩).allWrapped = true ↔
      ∀ other < 48, other ≠ row → (v.cursor other).wrapped = true := by
  unfold Survey.allWrapped
  simp only [List.all_eq_true, List.mem_range, Survey.setCursor_cursor]
  refine forall₂_congr fun other _ => ?_
  by_cases same : row = other
  · simp [same]
  · simp [same, Ne.symm same]

/-- What the wrapped mark of a row makes of a RUNNING survey and of SURVEY ENDED (R66, R67, R70). -/
theorem State.wrapRow_wrapsRow {v : Survey} (survey : s.su.survey = some v) (row : Nat) :
    v.wrapsRow row (s.wrapRow row).su.survey (s.notice 9) ((s.wrapRow row).notice 9) := by
  unfold State.wrapRow
  simp only [survey]
  refine ⟨fun ⟨other, wall, elsewhere, unwrapped⟩ => ?_, fun marked => ?_⟩
  · have going : ¬(v.setCursor row ⟨0, true⟩).allWrapped = true := fun all => by
      rw [(v.allWrapped_setCursor row).1 all other wall elsewhere] at unwrapped
      cases unwrapped
    rw [if_neg going]
    refine ⟨rfl, _, rfl, rfl, rfl, rfl, rfl, ?_, fun x away => ?_⟩
    · rw [Survey.setCursor_cursor, if_pos rfl]
    · rw [Survey.setCursor_cursor, if_neg away.symm]
  · rw [if_pos ((v.allWrapped_setCursor row).2 marked)]
    refine ⟨fun more => ?_, fun last => ?_⟩
    · rw [if_neg (show ¬(v.setCursor row ⟨0, true⟩).done + 1 = (v.setCursor row ⟨0, true⟩).requested from more)]
      exact ⟨rfl, _, rfl, rfl, rfl, rfl, rfl, fun _ => rfl⟩
    · rw [if_pos (show (v.setCursor row ⟨0, true⟩).done + 1 = (v.setCursor row ⟨0, true⟩).requested from last),
        State.endSurvey_of_some rfl]
      refine ⟨rfl, (State.notify_notice_of_kind (k := 9) _ rfl).trans ?_⟩
      rw [← last]
      rfl

/-- The wrapped mark concerns the survey, and the measurement in flight only as one of the survey's. -/
theorem State.wrapRow_su (s : State) (row : Nat) :
    (s.wrapRow row).su = { s.su with survey := (s.wrapRow row).su.survey, inFlight := (s.wrapRow row).su.inFlight } ∧
      (s.su.inFlight = none → (s.wrapRow row).su.inFlight = none) := by
  unfold State.wrapRow
  split
  · exact ⟨rfl, id⟩
  · dsimp only
    split
    · split
      · exact ⟨rfl, fun unmeasured => congrArg (Option.map Measurement.leaveSurvey) unmeasured⟩
      · exact ⟨rfl, id⟩
    · exact ⟨rfl, id⟩

end

/-! ## The gap that opens (R28, R58) -/

/-- The state with its next row gap open, before the arbiter decides it (R28). -/
def State.gapOpened (s : State) : State :=
  s.withPp { s.pp with nextGap := s.pp.nextGap + 1, gap := some ⟨s.pp.nextGap, s.pp.frame⟩ }

section

variable {s : State}

theorem exec_rowGapOpen (may : s.mayOpenGap = true) : exec .rowGapOpen s = .next s.openGap :=
  congrArg Host.Outcome.next (if_pos may)

theorem State.openGap_hold (status : s.su.status = .hold) : s.openGap = s.gapOpened := by
  unfold State.openGap
  simp only [status]
  rfl

theorem State.openGap_faulted (status : s.su.status = .faulted) :
    s.openGap = if s.pp.nextGap = 0 then s.gapOpened.grant s.pp.nextGap .reference false false else s.gapOpened := by
  unfold State.openGap
  simp only [status]
  rfl

theorem State.openGap_ok (status : s.su.status = .ok) :
    s.openGap = s.gapOpened.arbitrate s.pp.nextGap (s.pp.nextGap % 48) := by
  unfold State.openGap
  simp only [status]
  rfl

/-- Gap 0 is the reference check's in every frame but a HOLD frame. -/
theorem State.openGap_reference (status : s.su.status ≠ .hold) (first : s.pp.nextGap = 0) :
    s.openGap = s.gapOpened.grant s.pp.nextGap .reference false false := by
  cases standing : s.su.status with
  | hold => exact absurd standing status
  | faulted => rw [State.openGap_faulted standing, if_pos first]
  | ok =>
    rw [State.openGap_ok standing, first]
    exact State.arbitrate_reference

/-- A gap that opens changes the Sense Unit, SURVEY ENDED, and the gap's own fields of the Pixel Path. -/
theorem State.openGap_frame (s : State) : s.gapOpened.arbiterOnly s.openGap := by
  cases status : s.su.status with
  | hold =>
    rw [State.openGap_hold status]
    exact s.gapOpened.arbiterOnly_withSu s.su
  | faulted =>
    rw [State.openGap_faulted status]
    split
    · exact s.gapOpened.arbiterOnly_grant _ _ _ _
    · exact s.gapOpened.arbiterOnly_withSu s.su
  | ok =>
    rw [State.openGap_ok status]
    exact s.gapOpened.arbiterOnly_arbitrate _ _

/-- A survey's turn in a gap: no proving and no retest claims it. -/
theorem State.openGap_survey (status : s.su.status = .ok) (later : s.pp.nextGap ≠ 0)
    (unproved : s.provingClaim (s.pp.nextGap % 48) = none) (unclaimed : s.retestClaim (s.pp.nextGap % 48) = none)
    {v : Survey} (survey : s.su.survey = some v) :
    s.openGap = s.gapOpened.surveyGap s.pp.nextGap (s.pp.nextGap % 48) v :=
  (State.openGap_ok status).trans (State.arbitrate_survey (s := s.gapOpened) later unproved unclaimed survey)

end

/-- Settles O31: each claim is the first of its list or the search's result, and the arbiter's choice follows the claims in
their order. -/
theorem theArbiterGrantsTheGap : Obligations.TheArbiterGrantsTheGap := by
  refine ⟨fun s row => ⟨s.mayOpenGap_iff, s.provingClaim_eq_some_iff row, s.provingClaim_eq_none_iff row,
    s.retestClaim_eq_some_iff row, s.retestClaim_eq_none_iff row, s.re.servingUnit_cases,
    fun cursor => ⟨State.sweepNext_eq_none_iff cursor, State.sweepNext_eq_some_iff cursor⟩⟩,
    fun s may => ⟨_, exec_rowGapOpen may, ?_⟩, fun s v may status later unproved unclaimed survey =>
      ⟨_, exec_rowGapOpen may, fun wrapped => ?_, fun unwrapped none => ?_⟩,
    fun s v q u channel may status later unproved unclaimed survey unwrapped ahead inside before serves =>
      ⟨_, v.setCursor (s.pp.nextGap % 48) ⟨if q = 191 then 0 else q + 1, false⟩, exec_rowGapOpen may, ?_⟩⟩
  · obtain ⟨frame, _⟩ := s.openGap_frame
    refine ⟨?_, ?_, fun hold => ?_, fun status first => ?_, fun faulted later => ?_, fun ok later =>
      ⟨fun p claim => ?_, fun unproved => ⟨fun e claim => ?_, fun unclaimed idle => ?_⟩⟩⟩
    · rw [frame]
      rfl
    · rw [frame]
      rfl
    · rw [State.openGap_hold hold]
      exact ⟨rfl, rfl⟩
    · rw [State.openGap_reference status first, first]
      exact ⟨rfl, rfl⟩
    · rw [State.openGap_faulted faulted, if_neg later]
      exact ⟨rfl, rfl⟩
    · rw [State.openGap_ok ok, State.arbitrate_proving (s := s.gapOpened) later claim]
      exact ⟨rfl, rfl⟩
    · rw [State.openGap_ok ok, State.arbitrate_retest (s := s.gapOpened) later unproved claim]
      exact ⟨rfl, rfl⟩
    · have sweep : s.openGap = s.gapOpened.sweepGap s.pp.nextGap (s.pp.nextGap % 48) :=
        (State.openGap_ok ok).trans (State.arbitrate_sweep (s := s.gapOpened) later unproved unclaimed idle)
      rw [sweep]
      refine ⟨State.sweepGap_nu, fun n u channel next lies allowed serves => ?_, fun unused => ?_⟩
      · rw [State.sweepGap_grants (s := s.gapOpened) next lies allowed serves]
        rfl
      · rw [State.sweepGap_idle (s := s.gapOpened) unused]
        rfl
  · rw [State.openGap_survey status later unproved unclaimed survey, State.surveyGap_wrapped wrapped]
    exact ⟨rfl, rfl⟩
  · obtain ⟨_, others⟩ := s.openGap_frame
    have wraps : s.openGap = s.gapOpened.wrapRow (s.pp.nextGap % 48) :=
      (State.openGap_survey status later unproved unclaimed survey).trans
        (State.surveyGap_wraps (s := s.gapOpened) unwrapped none)
    rw [wraps] at others ⊢
    obtain ⟨su, unmeasured⟩ := s.gapOpened.wrapRow_su (s.pp.nextGap % 48)
    exact ⟨State.wrapRow_wrapsRow (s := s.gapOpened) survey _, su, unmeasured, others⟩
  · rw [State.openGap_survey status later unproved unclaimed survey,
      State.surveyGap_grants (s := s.gapOpened) unwrapped ahead inside before serves]
    refine ⟨rfl, rfl, rfl, rfl, rfl, rfl, ?_, fun row away => ?_⟩
    · rw [Survey.setCursor_cursor, if_pos rfl]
    · rw [Survey.setCursor_cursor, if_neg away.symm]

end Sys2Proof.Machine

end

section
/-! PROOFS. O32: compensation, classification and the baselines. -/

namespace Sys2Proof.Machine

/-! ## Compensation (R43) -/

/-- The clamped count as a whole number. -/
theorem compensated_eq (raw : Nat) (t : Int) (tempco : Nat) :
    (compensated raw (some t) tempco : Int) = max 0 (min 1023 (raw - Int.tdiv ((t - 30) * tempco) 16)) :=
  Int.toNat_of_nonneg (le_max_left _ _)

/-- At 30 °C and above the correction is not negative, so that truncation rounds it down. -/
theorem compensated_of_warm (raw tempco : Nat) {t : Int} (warm : 30 ≤ t) :
    (compensated raw (some t) tempco : Int) = max 0 (min 1023 (raw - (t - 30) * tempco / 16)) := by
  have rises : 0 ≤ (t - 30) * tempco := mul_nonneg (by omega) (Int.natCast_nonneg _)
  rw [compensated_eq, Int.tdiv_eq_ediv_of_nonneg rises]

/-- At 30 °C and below the correction raises the count, by the truncated size of its numerator. -/
theorem compensated_of_cool (raw tempco : Nat) {t : Int} (cool : t ≤ 30) :
    (compensated raw (some t) tempco : Int) = min 1023 (raw + (30 - t) * tempco / 16) := by
  have size : 0 ≤ (30 - t) * tempco := mul_nonneg (by omega) (Int.natCast_nonneg _)
  have turned : (t - 30) * tempco = -((30 - t) * tempco) := by ring
  rw [compensated_eq, turned, Int.neg_tdiv, Int.tdiv_eq_ediv_of_nonneg size]
  omega

/-! ## Classification (R44) -/

/-- Two counts are further apart than a limit when one exceeds the other by more. -/
theorem lt_distance_iff (limit a b : Nat) : limit < distance a b ↔ limit < a - b ∨ limit < b - a := by
  unfold distance
  split <;> omega

section

variable {s : State} {raw comp : Nat} {b : Baseline}

theorem State.classify_open (high : s.setting 6 ≤ raw) : s.classify raw comp b = .bad .openFault := if_pos high

theorem State.classify_short (regulated : raw < s.setting 6) (low : comp < s.setting 7) :
    s.classify raw comp b = .bad .shortFault :=
  (if_neg (Nat.not_le.2 regulated)).trans (if_pos low)

/-- A count that is neither OPEN nor SHORT is judged by the unit's baseline. -/
theorem State.classify_inside (regulated : raw < s.setting 6) (high : s.setting 7 ≤ comp) :
    (∀ v, s.classify raw comp (.set v) =
      if driftLimit (s.setting 8) < distance comp v then .bad .driftFault else .good) ∧
    ((∀ v, b ≠ .set v) → s.classify raw comp b = .good) := by
  have judged : ∀ b, s.classify raw comp b = match b with
      | .set v => if driftLimit (s.setting 8) < distance comp v then .bad .driftFault else .good
      | .none | .learning _ _ => .good :=
    fun b => (if_neg (Nat.not_le.2 regulated)).trans (if_neg (Nat.not_lt.2 high))
  refine ⟨fun v => judged (.set v), fun unset => (judged b).trans ?_⟩
  cases b with
  | none => rfl
  | learning => rfl
  | set v => exact absurd rfl (unset v)

end

/-! ## Baselines (R46) -/

theorem Baseline.next_learning {n : Nat} (few : n < 3) (sum c : Nat) :
    Baseline.next (.learning n sum) c = .learning (n + 1) (sum + c) := if_pos few

theorem Baseline.next_above {v c : Nat} (above : v < c) : Baseline.next (.set v) c = .set (v + 1) := if_pos above

theorem Baseline.next_below {v c : Nat} (below : c < v) : Baseline.next (.set v) c = .set (v - 1) :=
  (if_neg (Nat.lt_asymm below)).trans (if_pos below)

theorem Baseline.next_same (v : Nat) : Baseline.next (.set v) v = .set v :=
  (if_neg (Nat.lt_irrefl v)).trans (if_neg (Nat.lt_irrefl v))

/-- Settles O32: the correction's sign divides the temperatures at 30 °C, and classification and learning follow their
tests in order. -/
theorem countsAreCompensatedClassifiedAndLearned : Obligations.CountsAreCompensatedClassifiedAndLearned := by
  refine ⟨fun raw tempco t => ⟨compensated_of_warm raw tempco, compensated_of_cool raw tempco⟩,
    fun s raw comp b => ⟨State.classify_open, State.classify_short,
      fun regulated high => (State.classify_inside regulated high).2, fun v regulated high set => ?_⟩,
    fun _ => rfl, fun n sum c few => Baseline.next_learning few sum c, fun _ _ => rfl,
    fun v c => Baseline.next_above, fun v c => Baseline.next_below, Baseline.next_same⟩
  rw [set, (State.classify_inside (b := b) regulated high).1 v]
  exact if_congr (lt_distance_iff _ _ _) rfl rfl

end Sys2Proof.Machine

end

section
/-! PROOFS. O34: the reference check moves the reference condition. -/

namespace Sys2Proof.Machine

/-! ## The runs and the condition, case by case (R50, R51, R52) -/

/-- The status follows a move of the condition, but for a HOLD frame (log 20). -/
theorem SenseStatus.moved_eq (old new : SenseStatus) : old.moved new = if old = .hold then .hold else new := by
  cases old <;> rfl

theorem State.referenceGood_iff (s : State) (raw : Nat) :
    s.referenceGood raw = true ↔ 512 ≤ raw + s.setting 10 ∧ raw ≤ 512 + s.setting 10 := by
  unfold State.referenceGood
  rw [Bool.and_eq_true, decide_eq_true_eq, decide_eq_true_eq]
  rfl

/-- The reference condition becomes FAILED, before the cut of a survey (R50, R51). -/
def State.referenceFailed (s : State) : State :=
  (s.withSu { s.su with condition := .failed, status := s.su.status.moved .faulted, badRun := 0, goodRun := 0 }).notify
    (.senseFault true)

/-- The reference condition becomes SOUND again (R50, R51). -/
def State.referenceRestored (s : State) : State :=
  (s.withSu { s.su with condition := .sound, status := s.su.status.moved .ok, badRun := 0, goodRun := 0 }).notify
    (.senseFault false)

section

variable {s : State}

theorem State.referenceRuns_sound_good (sound : s.su.condition = .sound) :
    s.referenceRuns true = s.withSu { s.su with badRun := 0 } := by
  unfold State.referenceRuns
  rw [sound]

theorem State.referenceRuns_sound_bad (sound : s.su.condition = .sound) (few : s.su.badRun + 1 < 3) :
    s.referenceRuns false = s.withSu { s.su with badRun := s.su.badRun + 1 } := by
  unfold State.referenceRuns
  rw [sound]
  exact if_pos few

theorem State.referenceRuns_third_bad (sound : s.su.condition = .sound) (third : 3 ≤ s.su.badRun + 1) :
    s.referenceRuns false = s.referenceFailed.endSurvey .cut := by
  unfold State.referenceRuns
  rw [sound]
  exact if_neg (Nat.not_lt.2 third)

theorem State.referenceRuns_failed_bad (failed : s.su.condition = .failed) :
    s.referenceRuns false = s.withSu { s.su with goodRun := 0 } := by
  unfold State.referenceRuns
  rw [failed]

theorem State.referenceRuns_failed_good (failed : s.su.condition = .failed) (few : s.su.goodRun + 1 < 3) :
    s.referenceRuns true = s.withSu { s.su with goodRun := s.su.goodRun + 1 } := by
  unfold State.referenceRuns
  rw [failed]
  exact if_pos few

theorem State.referenceRuns_third_good (failed : s.su.condition = .failed) (third : 3 ≤ s.su.goodRun + 1) :
    s.referenceRuns true = s.referenceRestored := by
  unfold State.referenceRuns
  rw [failed]
  exact if_neg (Nat.not_lt.2 third)

end

/-- What the reference runs leave alone: every block but the Sense Unit and the Notice Unit, the baselines and the results
kept; and no measurement comes into flight. -/
structure ReferenceOnly (s t : State) : Prop where
  blocks : t = { s with su := t.su, nu := t.nu }
  baselines : t.su.baselines = s.su.baselines
  history : t.su.history = s.su.history
  unmeasured : s.su.inFlight = none → t.su.inFlight = none

/-- The cut of a survey is one of the changes that the reference runs make. -/
theorem State.endSurvey_referenceOnly (s : State) (o : SurveyOutcome) : ReferenceOnly s (s.endSurvey o) := by
  cases survey : s.su.survey with
  | none =>
    rw [State.endSurvey_of_none survey]
    exact ⟨rfl, rfl, rfl, id⟩
  | some v =>
    rw [State.endSurvey_of_some survey]
    exact ⟨rfl, rfl, rfl, fun unmeasured => congrArg (Option.map Measurement.leaveSurvey) unmeasured⟩

theorem State.referenceRuns_only (s : State) (good : Bool) : ReferenceOnly s (s.referenceRuns good) := by
  cases condition : s.su.condition <;> cases good
  case sound.false =>
    rcases Nat.lt_or_ge (s.su.badRun + 1) 3 with few | third
    · rw [State.referenceRuns_sound_bad condition few]
      exact ⟨rfl, rfl, rfl, id⟩
    · rw [State.referenceRuns_third_bad condition third]
      obtain ⟨blocks, baselines, history, unmeasured⟩ := s.referenceFailed.endSurvey_referenceOnly .cut
      refine ⟨?_, baselines, history, unmeasured⟩
      rw [blocks]
      rfl
  case sound.true =>
    rw [State.referenceRuns_sound_good condition]
    exact ⟨rfl, rfl, rfl, id⟩
  case failed.false =>
    rw [State.referenceRuns_failed_bad condition]
    exact ⟨rfl, rfl, rfl, id⟩
  case failed.true =>
    rcases Nat.lt_or_ge (s.su.goodRun + 1) 3 with few | third
    · rw [State.referenceRuns_failed_good condition few]
      exact ⟨rfl, rfl, rfl, id⟩
    · rw [State.referenceRuns_third_good condition third]
      exact ⟨rfl, rfl, rfl, id⟩

/-! ## The end of the reference check's gap (R49) -/

/-- The state with its gap closed and a reference result kept, before the runs take it. -/
def State.resultKept (s : State) (raw : Nat) (good : Bool) : State :=
  (s.withPp { s.pp with gap := none }).withSu { s.su with
    inFlight := none
    history := latestEight (s.su.history ++ [⟨raw, good⟩]) }

theorem exec_rowGapEnd_reference {s : State} {m : Measurement} (isOpen : s.pp.gap.isSome = true)
    (inFlight : s.su.inFlight = some m) (reference : m.grant = .reference) (ticks : Nat) (regulated : Bool) :
    exec (.rowGapEnd ticks regulated) s = .next
      ((s.resultKept (min ticks 1023) (s.referenceGood (min ticks 1023))).referenceRuns
        (s.referenceGood (min ticks 1023))) := by
  refine congrArg Host.Outcome.next ((if_pos isOpen).trans ?_)
  unfold State.endGap
  simp only [inFlight, reference]
  rfl

/-- Settles O34: the result is kept and handed to the runs, and each case of condition, verdict and run length has its
equation. -/
theorem threeReferenceResultsMoveTheCondition : Obligations.ThreeReferenceResultsMoveTheCondition := by
  intro s m ticks regulated good isOpen inFlight reference judged
  have verdict : s.referenceGood (min ticks 1023) = good :=
    Bool.eq_iff_iff.2 ((s.referenceGood_iff _).trans judged.symm)
  have ended := exec_rowGapEnd_reference isOpen inFlight reference ticks regulated
  rw [verdict] at ended
  obtain ⟨blocks, baselines, history, unmeasured⟩ := (s.resultKept (min ticks 1023) good).referenceRuns_only good
  refine ⟨_, ended, ?_, ?_, unmeasured rfl, baselines, history, fun sound isGood => ?_, fun sound isBad few => ?_,
    fun sound isBad third => ?_, fun failed isBad => ?_, fun failed isGood few => ?_, fun failed isGood third => ?_⟩
  · rw [blocks]
    rfl
  · rw [blocks]
    rfl
  · rw [isGood, State.referenceRuns_sound_good (s := s.resultKept _ true) sound]
    exact ⟨sound, rfl, rfl, rfl⟩
  · rw [isBad, State.referenceRuns_sound_bad (s := s.resultKept _ false) sound few]
    exact ⟨sound, rfl, rfl, rfl⟩
  · rw [isBad, State.referenceRuns_third_bad (s := s.resultKept _ false) sound third, State.endSurvey_su]
    refine ⟨rfl, rfl, rfl, SenseStatus.moved_eq _ _, rfl, ?_, fun v running => ?_⟩
    · rw [(State.endSurvey_notice _ _ 12).1 (by decide)]
      exact State.notify_notice_of_kind _ rfl
    · have unraised : (s.resultKept (min ticks 1023) false).referenceFailed.notice 9 = s.notice 9 :=
        State.notify_notice_of_other _ (by decide)
      rw [← unraised]
      exact (State.endSurvey_notice _ .cut 9).2 v running
  · rw [isBad, State.referenceRuns_failed_bad (s := s.resultKept _ false) failed]
    exact ⟨failed, rfl, rfl, rfl⟩
  · rw [isGood, State.referenceRuns_failed_good (s := s.resultKept _ true) failed few]
    exact ⟨failed, rfl, rfl, rfl⟩
  · rw [isGood, State.referenceRuns_third_good (s := s.resultKept _ true) failed third]
    exact ⟨rfl, rfl, rfl, SenseStatus.moved_eq _ _, State.notify_notice_of_kind _ rfl⟩

end Sys2Proof.Machine

end

section
/-! PROOFS. O41: READ-SENSE and CLEAR-BASELINES. -/

namespace Sys2Proof.Machine

/-! ## The report's fields (R54, R156; log 21) -/

theorem SenseUnit.state_bytes (su : SenseUnit) :
    byte1 su.status.code ++ byte1 su.condition.code =
      [match su.status with | .ok => 0 | .hold => 1 | .faulted => 2,
        match su.condition with | .sound => 0 | .failed => 1] := by
  cases su.status <;> cases su.condition <;> rfl

theorem temperature_eq (temp : Option Int) :
    temperature temp = [match temp with | some t => BitVec.ofInt 8 t | none => 0x80] := by
  cases temp <;> rfl

/-- The survey's state and its passes, all ones while none runs (log 21). -/
theorem SenseUnit.survey_bytes (su : SenseUnit) (before : List Byte) :
    before ++ byte1 (if su.survey.isSome then 1 else 0) ++ opt1 (su.survey.map (·.done)) ++
      opt1 (su.survey.map (·.requested)) =
    before ++ (match su.survey with | some v => [1] ++ byte1 v.done ++ byte1 v.requested | none => [0, 0xFF, 0xFF]) := by
  simp only [List.append_assoc]
  cases su.survey <;> rfl

theorem SenseUnit.learningCount_eq (su : SenseUnit) :
    su.learningCount = su.baselines.countP fun e => match e.2 with | .learning _ _ => true | _ => false := by
  rw [List.countP_eq_length_filter]
  refine congrArg List.length (List.filter_congr fun e _ => ?_)
  cases e.2 <;> rfl

theorem SenseUnit.setCount_eq (su : SenseUnit) :
    su.setCount = su.baselines.countP fun e => match e.2 with | .set _ => true | _ => false := by
  rw [List.countP_eq_length_filter]
  refine congrArg List.length (List.filter_congr fun e _ => ?_)
  cases e.2 <;> rfl

/-- A record that is sent on leaves the report as it was. -/
theorem State.heard_senseReport (s : State) (r : Request) (k : Byte) : (s.heard r k).senseReport = s.senseReport := by
  unfold State.senseReport
  rw [State.heard_su, State.heard_cm]

/-! ## READ-SENSE and CLEAR-BASELINES as requests (R48, R54) -/

theorem readSenseOp_malformed {body : List Byte} (malformed : oneByte body = none) (s : State) :
    readSenseOp body s = (s, ⟨.malformed, []⟩) := by
  unfold readSenseOp
  rw [malformed]
  rfl

theorem readSenseOp_outOfRange {body : List Byte} {n : Nat} (found : oneByte body = some n) (far : 1 < n) (s : State) :
    readSenseOp body s = (s, ⟨.outOfRange, []⟩) := by
  obtain ⟨k, rfl⟩ := Nat.exists_eq_add_of_le' far
  unfold readSenseOp
  rw [found]
  rfl

theorem readSenseOp_keep {body : List Byte} (keep : oneByte body = some 0) (s : State) :
    readSenseOp body s = (s, ⟨.done, s.senseReport⟩) := by
  unfold readSenseOp
  rw [keep]
  rfl

theorem readSenseOp_clear {body : List Byte} (clear : oneByte body = some 1) (s : State) :
    readSenseOp body s = (s.withSu s.su.clearStatistics, ⟨.done, s.senseReport⟩) := by
  unfold readSenseOp
  rw [clear]
  rfl

theorem clearBaselinesOp_malformed {body : List Byte} (long : body ≠ []) (s : State) :
    clearBaselinesOp body s = (s, ⟨.malformed, []⟩) := if_neg (by simpa using long)

theorem clearBaselinesOp_empty (s : State) :
    clearBaselinesOp [] s =
      (s.withSu { s.su with baselines := [], inFlight := s.su.inFlight.map Measurement.dropped }, ⟨.done, []⟩) := rfl

/-- Only a measurement of a unit has a baseline update to drop (R47, R48). -/
theorem Measurement.dropped_eq (m : Measurement) :
    m.dropped = { m with dropUpdate := m.dropUpdate || decide (m.grant ≠ .reference) } := by
  unfold Measurement.dropped
  cases granted : m.grant with
  | reference => simp [← granted]
  | unit u purpose channel => simp

/-- Settles O41: the report's fields are packed as stated, and each request does what its operation answers for its body. -/
theorem readSenseAndClearBaselinesActAsStated : Obligations.ReadSenseAndClearBaselinesActAsStated := by
  intro s r learning known report ⟨taken, runs⟩ learningIs knownIs reportIs
  have packed : (s.heard r 21).senseReport = report := by
    have learningCount : s.su.learningCount = learning := s.su.learningCount_eq.trans learningIs.symm
    have setCount : s.su.setCount = known := s.su.setCount_eq.trans knownIs.symm
    rw [State.heard_senseReport, reportIs]
    unfold State.senseReport
    rw [SenseUnit.state_bytes, temperature_eq, SenseUnit.survey_bytes, learningCount, setCount]
    rfl
  refine ⟨fun malformed => ?_, fun n found far => ?_, fun keep => ?_, fun clear => ?_, fun long => ?_, fun empty => ?_⟩
  · exact congrArg Host.Outcome.next
      (State.request_reports taken (Or.inl runs) rfl (by decide) (readSenseOp_malformed malformed _))
  · exact congrArg Host.Outcome.next
      (State.request_reports taken (Or.inl runs) rfl (by decide) (readSenseOp_outOfRange found far _))
  · rw [← packed]
    exact congrArg Host.Outcome.next
      (State.request_reports taken (Or.inl runs) rfl (by decide) (readSenseOp_keep keep _))
  · refine congrArg Host.Outcome.next ((State.request_operating _ taken runs rfl (Or.inl (by decide))).trans ?_)
    rw [readSenseOp_clear clear, packed, State.heard_su]
    rfl
  · exact congrArg Host.Outcome.next
      (State.request_reports taken (Or.inl runs) rfl (by decide) (clearBaselinesOp_malformed long _))
  · have answered : s.request r 22 (clearBaselinesOp r.body) = ((s.heard r 22).withSu { s.su with
        baselines := [], inFlight := s.su.inFlight.map Measurement.dropped }).answered r 22 s.pp.frame .done [] := by
      rw [State.request_operating _ taken runs rfl (Or.inl (by decide)), empty, clearBaselinesOp_empty, State.heard_su]
    refine ⟨_, congrArg Host.Outcome.next answered, rfl, fun idle => ?_, fun m inFlight => ?_⟩
    · exact congrArg (Option.map Measurement.dropped) idle
    · rw [← Measurement.dropped_eq]
      exact congrArg (Option.map Measurement.dropped) inFlight

end Sys2Proof.Machine

end

section
/-! PROOFS. O50 and O51: START-SURVEY and STOP-SURVEY. -/

namespace Sys2Proof.Machine

/-! ## What the two requests do (R65, R69) -/

theorem startSurveyOp_malformed {body : List Byte} (malformed : oneByte body = none) (s : State) :
    startSurveyOp body s = (s, ⟨.malformed, []⟩) := by
  unfold startSurveyOp
  rw [malformed]
  rfl

section

variable {body : List Byte} {n : Nat} {s : State}

/-- A body of one byte is checked for its range, then the survey, then the frame. -/
theorem startSurveyOp_eq (found : oneByte body = some n) :
    startSurveyOp body s =
      if n < 1 ∨ 4 < n then s.refuse .outOfRange
      else if s.su.survey.isSome then s.refuse .busy
      else if s.su.status ≠ .ok ∨ s.pp.showing.dark = false then s.refuse .wrongState
      else (s.setSurvey (some ⟨n, 0, 0, 0, []⟩), ⟨.accepted, []⟩) := by
  unfold startSurveyOp
  rw [found]

theorem startSurveyOp_outOfRange (found : oneByte body = some n) (outside : n = 0 ∨ 4 < n) :
    startSurveyOp body s = (s, ⟨.outOfRange, []⟩) := by
  rw [startSurveyOp_eq found, if_pos (by omega)]
  rfl

theorem startSurveyOp_busy (found : oneByte body = some n) (low : 1 ≤ n) (high : n ≤ 4)
    (running : s.su.survey.isSome = true) : startSurveyOp body s = (s, ⟨.busy, []⟩) := by
  rw [startSurveyOp_eq found, if_neg (by omega), if_pos running]
  rfl

theorem startSurveyOp_wrongState (found : oneByte body = some n) (low : 1 ≤ n) (high : n ≤ 4)
    (idle : s.su.survey = none) (unfit : s.su.status ≠ .ok ∨ s.pp.showing.dark = false) :
    startSurveyOp body s = (s, ⟨.wrongState, []⟩) := by
  rw [startSurveyOp_eq found, if_neg (by omega), if_neg (by simp [idle]), if_pos unfit]
  rfl

theorem startSurveyOp_starts (found : oneByte body = some n) (low : 1 ≤ n) (high : n ≤ 4)
    (idle : s.su.survey = none) (status : s.su.status = .ok) (dark : s.pp.showing.dark = true) :
    startSurveyOp body s = (s.setSurvey (some ⟨n, 0, 0, 0, []⟩), ⟨.accepted, []⟩) := by
  rw [startSurveyOp_eq found, if_neg (by omega), if_neg (by simp [idle]), if_neg (by simp [status, dark])]

end

theorem stopSurveyOp_malformed {body : List Byte} (long : body ≠ []) (s : State) :
    stopSurveyOp body s = (s, ⟨.malformed, []⟩) := if_neg (by simpa using long)

theorem stopSurveyOp_idle {s : State} (idle : s.su.survey = none) : stopSurveyOp [] s = (s, ⟨.wrongState, []⟩) :=
  if_neg (by simp [idle])

theorem stopSurveyOp_running {s : State} {v : Survey} (running : s.su.survey = some v) :
    stopSurveyOp [] s = (s.endSurvey .stopped, ⟨.done, []⟩) := if_pos (by simp [running])

/-! ## The requests -/

/-- Settles O50: each check of START-SURVEY in its order, and the survey that it starts. -/
theorem startSurveyNeedsADarkFrameAndAnIdleSurvey : Obligations.StartSurveyNeedsADarkFrameAndAnIdleSurvey := by
  intro s r ⟨taken, runs⟩
  have refuses : ∀ {status}, startSurveyOp r.body (s.heard r 19) = (s.heard r 19, ⟨status, []⟩) →
      exec (.startSurvey r) s = .next (s.refused r 19 status) := fun answer =>
    congrArg Host.Outcome.next (State.request_reports taken (Or.inl runs) rfl (by decide) answer)
  refine ⟨fun malformed => refuses (startSurveyOp_malformed malformed _), fun n found =>
    ⟨fun outside => refuses (startSurveyOp_outOfRange found outside), fun low high => ⟨fun running => ?_,
      fun idle unfit => ?_, fun idle status dark => ?_⟩⟩⟩
  · exact refuses (startSurveyOp_busy found low high (by rwa [State.heard_su]))
  · exact refuses (startSurveyOp_wrongState found low high (by rwa [State.heard_su])
      (by rwa [State.heard_su, State.heard_pp]))
  · refine congrArg Host.Outcome.next ((State.request_operating _ taken runs rfl (Or.inl (by decide))).trans ?_)
    rw [startSurveyOp_starts found low high (by rwa [State.heard_su]) (by rwa [State.heard_su]) (by rwa [State.heard_pp]),
      State.setSurvey, State.heard_su]
    rfl

/-- Settles O51: STOP-SURVEY is the end of the RUNNING survey, and without one it is refused. -/
theorem stopSurveyEndsARunningSurvey : Obligations.StopSurveyEndsARunningSurvey := by
  intro s r ⟨taken, runs⟩
  have refuses : ∀ {status}, stopSurveyOp r.body (s.heard r 20) = (s.heard r 20, ⟨status, []⟩) →
      exec (.stopSurvey r) s = .next (s.refused r 20 status) := fun answer =>
    congrArg Host.Outcome.next (State.request_reports taken (Or.inl runs) rfl (by decide) answer)
  refine ⟨fun long => refuses (stopSurveyOp_malformed long _), fun empty idle => refuses ?_, fun v empty running => ?_⟩
  · rw [empty, stopSurveyOp_idle (by rwa [State.heard_su])]
  · have heard : (s.heard r 20).su.survey = some v := by rwa [State.heard_su]
    have answered : s.request r 20 (stopSurveyOp r.body) =
        ((s.heard r 20).endSurvey .stopped).answered r 20 s.pp.frame .done [] := by
      rw [State.request_operating _ taken runs rfl (Or.inl (by decide)), empty, stopSurveyOp_running heard]
    refine ⟨_, congrArg Host.Outcome.next answered, ?_, ?_, ?_, fun k other => ?_⟩
    · rw [State.endSurvey_of_some heard, State.heard_su]
      rfl
    · rw [State.endSurvey_of_some heard, State.heard_su]
      rfl
    · rw [(State.endSurvey_notice _ .stopped 9).2 v heard, State.heard_notice]
    · rw [(State.endSurvey_notice _ .stopped k).1 other, State.heard_notice]

end Sys2Proof.Machine

end

section
/-! PROOFS. O33: the end of a granted gap. -/

namespace Sys2Proof.Machine

/-! ## What taking a verdict leaves of the other blocks -/

/-- What an event of the Repair Engine leaves: the whole Sense Unit while no measurement is in flight, for only a pulse can be
disconnected (R41), and the notices of the other blocks, which are the kinds from 9 on. -/
structure SenseApart (s t : State) : Prop where
  sense : s.su.inFlight = none → t.su = s.su
  notices : ∀ k, 9 ≤ k → t.notice k = s.notice k

namespace SenseApart

variable {s t u : State}

theorem refl (s : State) : SenseApart s s := ⟨fun _ => rfl, fun _ _ => rfl⟩

theorem trans (first : SenseApart s t) (second : SenseApart t u) : SenseApart s u := by
  refine ⟨fun unmeasured => ?_, fun k high => (second.notices k high).trans (first.notices k high)⟩
  have same := first.sense unmeasured
  exact (second.sense (same ▸ unmeasured)).trans same

theorem of_same (sense : t.su = s.su) (notices : t.nu = s.nu) : SenseApart s t :=
  ⟨fun _ => sense, fun _ _ => by rw [State.notice, notices]; rfl⟩

theorem notify (s : State) {d : Detail} (low : d.kind.number < 9) : SenseApart s (s.notify d) :=
  ⟨fun _ => rfl, fun _ high => State.notify_notice_of_other s (by omega)⟩

theorem ite {c : Prop} [Decidable c] (yes : SenseApart s t) (no : SenseApart s u) :
    SenseApart s (if c then t else u) := by
  split <;> assumption

theorem foldl {β : Type} (op : State → β → State) (each : ∀ s item, SenseApart s (op s item)) (items : List β) (s : State) :
    SenseApart s (items.foldl op s) :=
  foldl_keeps op (fun _ item before => before.trans (each _ item)) items (refl s)

end SenseApart

/-! ### Cells, channels and lines -/

theorem State.setCell_senseApart (s : State) (n : Nat) (c : CellState) (d : DieState) : SenseApart s (s.setCell n c d) :=
  .of_same (State.setCell_su _ _ _ _) (State.setCell_nu _ _ _ _)

theorem State.setChannel_senseApart (s : State) (k : Nat) (v : Channel) : SenseApart s (s.setChannel k v) :=
  .of_same (State.setChannel_su _ _ _) (State.setChannel_nu _ _ _)

theorem State.withRe_senseApart (s : State) (re : RepairEngine) : SenseApart s (s.withRe re) := .of_same rfl rfl

theorem State.disconnect_of_unmeasured {s : State} (unmeasured : s.su.inFlight = none) (k : Nat) : s.disconnect k = s := by
  unfold State.disconnect
  rw [unmeasured]

theorem State.dropPulse_senseApart (s : State) (k : Nat) : SenseApart s ((s.disconnect k).dropProving k) :=
  ⟨fun unmeasured => (congrArg State.su (State.disconnect_of_unmeasured unmeasured k) :),
    fun _ _ => by rw [State.notice, State.dropProving_nu, State.disconnect_nu]; rfl⟩

theorem State.freeNamed_senseApart (s : State) (c : CellState) : SenseApart s (s.freeNamed c) := by
  cases named : c.channel with
  | none =>
    rw [State.freeNamed_none s named]
    exact .refl s
  | some k =>
    rw [State.freeNamed_some s named]
    exact (s.dropPulse_senseApart k).trans (State.setChannel_senseApart _ _ _)

theorem State.strike_senseApart (s : State) (k : Nat) : SenseApart s (s.strike k) := by
  unfold State.strike
  exact .ite ((s.dropPulse_senseApart k).trans (State.setChannel_senseApart _ _ _))
    (((s.dropPulse_senseApart k).trans (State.setChannel_senseApart _ _ _)).trans (.notify _ (by decide : (4 : Nat) < 9)))

theorem State.strikeNamed_senseApart (s : State) (c : CellState) : SenseApart s (s.strikeNamed c) := by
  cases named : c.channel with
  | none =>
    unfold State.strikeNamed
    rw [named]
    exact .refl s
  | some k =>
    rw [State.strikeNamed_some s named]
    exact s.strike_senseApart k

theorem State.withdraw_senseApart (s : State) (n : Nat) (c : CellState) : SenseApart s (s.withdraw n c) :=
  (((s.withRe_senseApart _).trans (State.withRe_senseApart _ _)).trans (State.freeNamed_senseApart _ _)).trans
    (State.setCell_senseApart _ _ _ _)

theorem State.hold_senseApart (s : State) (l : Nat) : SenseApart s (s.hold l) := by
  have withdrawn : SenseApart s (s.withdrawAll (lineCells l) (.concealed .line)) :=
    .foldl _ (fun t n => t.withdraw_senseApart n _) _ s
  have owed : ∀ (t : State) n a b, SenseApart t (t.imageChanged n a b) := fun t n a b =>
    .of_same (State.imageChanged_su _ _ _ _) (State.imageChanged_nu _ _ _ _)
  rw [State.hold_eq]
  exact ((withdrawn.trans (State.withRe_senseApart _ _)).trans (owed _ _ _ _)).trans (.notify _ (by decide : (7 : Nat) < 9))

theorem State.judgeLimits_senseApart (s : State) (n : Nat) : SenseApart s (s.judgeLimits n) := by
  have first : SenseApart s (if s.atLimit (cLineOf n) then s.hold (cLineOf n) else s) :=
    .ite (s.hold_senseApart _) (.refl s)
  exact .ite (first.trans (State.hold_senseApart _ _)) first

/-! ### Entries and units -/

theorem State.setUnit_senseApart (s : State) (u : UnitId) (c : CellState) (d : DieState) : SenseApart s (s.setUnit u c d) := by
  unfold State.setUnit
  cases u.side <;> exact s.setCell_senseApart _ _ _

theorem State.condemn_senseApart (s : State) (u : UnitId) (kind : FaultKind) : SenseApart s (s.condemn u kind) := by
  have confirmed : SenseApart s ((s.setUnit u .condemned .condemned).notify (.faultConfirmed u kind)) :=
    (s.setUnit_senseApart u _ _).trans (.notify _ (by decide : (0 : Nat) < 9))
  unfold State.condemn
  cases u.side with
  | primary => exact confirmed.trans (State.judgeLimits_senseApart _ _)
  | spare => exact confirmed

theorem State.enlist_senseApart (s : State) (u : UnitId) (kind : FaultKind) : SenseApart s (s.enlist u kind) :=
  (s.withRe_senseApart _).trans (State.setUnit_senseApart _ _ _ _)

theorem State.askAdmission_senseApart (s : State) (u : UnitId) (kind : FaultKind) : SenseApart s (s.askAdmission u kind) := by
  have refused : SenseApart s (s.notify (.listFull false u)) := .notify s (by decide : (8 : Nat) < 9)
  unfold State.askAdmission
  refine .ite (s.enlist_senseApart u kind) ?_
  split
  · exact refused
  · exact refused
  · rename_i e _ _
    have evicted : SenseApart s ((s.dropEntry e.unit).returnUnit e.unit) :=
      (s.withRe_senseApart _).trans (State.setUnit_senseApart _ _ _ _)
    exact (evicted.trans (State.enlist_senseApart _ _ _)).trans (.notify _ (by decide : (8 : Nat) < 9))

theorem State.retest_senseApart (s : State) (e : Entry) (cls : VerdictClass) : SenseApart s (s.retest e cls) := by
  unfold State.retest
  cases cls with
  | good => exact .ite ((s.withRe_senseApart _).trans (State.setUnit_senseApart _ _ _ _)) (s.withRe_senseApart _)
  | bad k => exact .ite ((s.withRe_senseApart _).trans (State.condemn_senseApart _ _ _)) (s.withRe_senseApart _)

/-! ### Decisions -/

theorem State.startProving_senseApart (s : State) (n k : Nat) : SenseApart s (s.startProving n k) :=
  ((s.setChannel_senseApart k _).trans (State.withRe_senseApart _ _)).trans (State.setCell_senseApart _ _ _ _)

theorem State.spendBudget_senseApart (s : State) : SenseApart s s.spendBudget := by
  have spent : SenseApart s (s.withRe { s.re with budget := s.re.budget - 1 }) := s.withRe_senseApart _
  exact .ite (spent.trans (.notify _ (by decide : (6 : Nat) < 9))) spent

theorem State.decidePrimary_senseApart (s : State) (n : Nat) (kind : FaultKind) :
    SenseApart s (s.decidePrimary n kind) := by
  have put : ∀ c d (x : Detail), x.kind.number < 9 → SenseApart s ((s.setCell n c d).notify x) := fun c d x low =>
    (s.setCell_senseApart n c d).trans (.notify _ low)
  have referred : ∀ c d reason, SenseApart s ((s.setCell n c d).notify (.faultReferred n reason)) := fun c d _ =>
    put c d _ (by decide : (2 : Nat) < 9)
  refine .ite (referred _ _ _) (.ite (referred _ _ _) (.ite (referred _ _ _) ?_))
  split
  · exact put _ _ _ (by decide : (5 : Nat) < 9)
  · exact (s.startProving_senseApart n _).trans (State.spendBudget_senseApart _)

theorem State.decideEntry_senseApart (s : State) (e : Entry) : SenseApart s (s.decideEntry e) := by
  have dropped : SenseApart s (s.dropEntry e.unit) := s.withRe_senseApart _
  unfold State.decideEntry
  cases e.unit.side with
  | primary => exact dropped.trans (State.decidePrimary_senseApart _ _ _)
  | spare =>
    exact ((dropped.trans (State.setCell_senseApart _ _ _ _)).trans (State.strikeNamed_senseApart _ _)).trans
      (.notify _ (by decide : (3 : Nat) < 9))

theorem State.takeCondemned_senseApart (fuel : Nat) (s : State) : SenseApart s (s.takeCondemned fuel) := by
  induction fuel generalizing s with
  | zero => exact .refl s
  | succ fuel ih =>
    unfold State.takeCondemned
    split
    · exact .refl s
    · exact .ite (.refl s) ((s.decideEntry_senseApart _).trans (ih _))

theorem State.reconsider_senseApart (s : State) : SenseApart s s.reconsider := s.takeCondemned_senseApart _

/-! ### Provings and verdicts -/

theorem State.passProving_senseApart (s : State) (n k : Nat) : SenseApart s (s.passProving n k) := by
  have passed : ∀ c d, SenseApart s (((s.setChannel k ⟨.recording n, 0⟩).changeProving k fun p =>
      { p with phase := .recording }).setCell n c d) := fun _ _ =>
    ((s.setChannel_senseApart k _).trans (State.withRe_senseApart _ _)).trans (State.setCell_senseApart _ _ _ _)
  have bound : ∀ t : State, SenseApart t (t.bind n k) := fun t =>
    (((t.withRe_senseApart _).trans (State.setChannel_senseApart _ _ _)).trans (State.setCell_senseApart _ _ _ _)).trans
      (.notify _ (by decide : (1 : Nat) < 9))
  have unrecorded : ∀ t : State, SenseApart t (t.bindUnrecorded n k) := fun t => (bound t).trans (.of_same rfl rfl)
  exact .ite ((passed _ _).trans (unrecorded _)) (passed _ _)

theorem State.provingVerdict_senseApart (s : State) (n k : Nat) (cls : VerdictClass) :
    SenseApart s (s.provingVerdict n k cls) := by
  unfold State.provingVerdict
  split
  · exact .ite (s.withRe_senseApart _) (s.passProving_senseApart n k)
  · exact .refl s
  · exact ((s.setCell_senseApart n _ _).trans (State.strike_senseApart _ _)).trans (.notify _ (by decide : (3 : Nat) < 9))

/-- A verdict that is handed over concerns the Repair Engine alone (R45, R70). -/
theorem State.handVerdict_senseApart (s : State) (v : Verdict) : SenseApart s (s.handVerdict v) := by
  have asked : ∀ k, SenseApart s (if s.re.qualifies v.unit then (s.askAdmission v.unit k).reconsider else s) := fun k =>
    .ite ((s.askAdmission_senseApart _ k).trans (State.reconsider_senseApart _)) (.refl s)
  unfold State.handVerdict
  cases v.purpose with
  | sweep | survey =>
    cases v.cls with
    | good => exact .refl s
    | bad k => exact asked k
  | retest =>
    cases s.re.entry v.unit with
    | none => exact .refl s
    | some e => exact .ite (.refl s) ((s.retest_senseApart e _).trans (State.reconsider_senseApart _))
  | proving =>
    cases v.channel with
    | none => exact .refl s
    | some k => exact .ite ((s.provingVerdict_senseApart _ k _).trans (State.reconsider_senseApart _)) (.refl s)

/-! ## The sense statistics and the baselines (R46, R47, R53) -/

/-- The Sense Unit with a verdict counted and learned from. -/
def SenseUnit.takeVerdict (su : SenseUnit) (u : UnitId) (cls : VerdictClass) (comp : Nat) (drop : Bool) : SenseUnit :=
  (su.countVerdict cls comp).learn u cls comp drop

section

variable (su : SenseUnit) (u : UnitId) (comp : Nat) (drop : Bool)

theorem SenseUnit.takeVerdict_frame (cls : VerdictClass) :
    (su.takeVerdict u cls comp drop).inFlight = su.inFlight ∧ (su.takeVerdict u cls comp drop).status = su.status ∧
      (su.takeVerdict u cls comp drop).condition = su.condition ∧ (su.takeVerdict u cls comp drop).history = su.history ∧
      (su.takeVerdict u cls comp drop).sweepCursor = su.sweepCursor ∧
      (su.takeVerdict u cls comp drop).survey = su.survey := by
  cases cls with
  | good => cases drop <;> exact ⟨rfl, rfl, rfl, rfl, rfl, rfl⟩
  | bad kind => cases kind <;> exact ⟨rfl, rfl, rfl, rfl, rfl, rfl⟩

/-- A GOOD verdict's counts. -/
theorem SenseUnit.takeVerdict_good :
    (su.takeVerdict u .good comp drop).goodCount = min (su.goodCount + 1) 65535 ∧
      (su.takeVerdict u .good comp drop).openCount = su.openCount ∧
      (su.takeVerdict u .good comp drop).shortCount = su.shortCount ∧
      (su.takeVerdict u .good comp drop).driftCount = su.driftCount ∧
      (su.takeVerdict u .good comp drop).goodMin = min su.goodMin comp ∧
      (su.takeVerdict u .good comp drop).goodMax = max su.goodMax comp := by
  cases drop <;> exact ⟨rfl, rfl, rfl, rfl, rfl, rfl⟩

/-- What a GOOD verdict teaches: nothing when its update is dropped, and its own unit's baseline else. -/
theorem SenseUnit.takeVerdict_teaches :
    (su.takeVerdict u .good comp true).baselines = su.baselines ∧
      ∀ x, (su.takeVerdict u .good comp false).baseline x =
        if u.key = x.key then (su.baseline u).next comp else su.baseline x :=
  ⟨rfl, fun _ => Table.read_write _ _ _ _ _⟩

/-- A bad verdict's counts: its own kind's alone, and nothing learned. -/
theorem SenseUnit.takeVerdict_bad (kind : FaultKind) :
    (su.takeVerdict u (.bad kind) comp drop).goodCount = su.goodCount ∧
      (su.takeVerdict u (.bad kind) comp drop).goodMin = su.goodMin ∧
      (su.takeVerdict u (.bad kind) comp drop).goodMax = su.goodMax ∧
      (su.takeVerdict u (.bad kind) comp drop).openCount =
        (if kind = .openFault then min (su.openCount + 1) 65535 else su.openCount) ∧
      (su.takeVerdict u (.bad kind) comp drop).shortCount =
        (if kind = .shortFault then min (su.shortCount + 1) 65535 else su.shortCount) ∧
      (su.takeVerdict u (.bad kind) comp drop).driftCount =
        (if kind = .driftFault then min (su.driftCount + 1) 65535 else su.driftCount) ∧
      (su.takeVerdict u (.bad kind) comp drop).baselines = su.baselines := by
  cases kind <;> exact ⟨rfl, rfl, rfl, rfl, rfl, rfl, rfl⟩

end

/-! ## The survey's tallies (R66, R67, R70) -/

/-- The survey with a verdict of one of its grants counted. -/
def Survey.counting (v : Survey) (cls : VerdictClass) : Survey :=
  { v with units := v.units + 1, bad := if cls = .good then v.bad else v.bad + 1 }

section

variable {s : State} {m : Measurement} {v : Survey}

theorem State.tallySurvey_other (apart : m.surveyed = false ∨ s.su.survey = none) (cls : VerdictClass) :
    s.tallySurvey m cls = s := by
  unfold State.tallySurvey
  split
  · rename_i running
    have ungranted : m.surveyed = false := apart.resolve_right (by rw [running]; nofun)
    rw [ungranted]
    rfl
  · rfl

theorem State.tallySurvey_surveyed (surveyed : m.surveyed = true) (running : s.su.survey = some v) (cls : VerdictClass) :
    s.tallySurvey m cls =
      if m.wraps then (s.setSurvey (some (v.counting cls))).wrapRow (m.index % 48)
      else s.setSurvey (some (v.counting cls)) := by
  unfold State.tallySurvey
  simp only [running, surveyed]
  cases cls <;> rfl

/-- What the survey's tallies leave alone: with the survey, only SURVEY ENDED and, as one of the survey's, a measurement in
flight. -/
structure TallyOnly (s t : State) : Prop where
  frame : s.arbiterOnly t
  su : t.su = { s.su with survey := t.su.survey, inFlight := t.su.inFlight }
  unmeasured : s.su.inFlight = none → t.su.inFlight = none

theorem State.tallySurvey_only (s : State) (m : Measurement) (cls : VerdictClass) : TallyOnly s (s.tallySurvey m cls) := by
  have unchanged : TallyOnly s s := ⟨s.arbiterOnly_withSu s.su, rfl, id⟩
  cases running : s.su.survey with
  | none =>
    rw [State.tallySurvey_other (Or.inr running)]
    exact unchanged
  | some v =>
    cases surveyed : m.surveyed with
    | false =>
      rw [State.tallySurvey_other (Or.inl surveyed)]
      exact unchanged
    | true =>
      rw [State.tallySurvey_surveyed surveyed running]
      split
      · obtain ⟨blocks, others⟩ :=
          (s.setSurvey (some (v.counting cls))).arbiterOnly_wrapRow (m.index % 48)
        obtain ⟨su, unmeasured⟩ := (s.setSurvey (some (v.counting cls))).wrapRow_su (m.index % 48)
        exact ⟨⟨blocks, others⟩, su, unmeasured⟩
      · exact ⟨s.arbiterOnly_withSu _, rfl, id⟩

end

/-! ## The end of a gap granted to a unit (R28, R42) -/

/-- The state with its gap closed and its verdict counted and learned from, before the survey and the Repair Engine take it. -/
def State.verdictCounted (s : State) (m : Measurement) (u : UnitId) (cls : VerdictClass) (comp : Nat) : State :=
  (s.withPp { s.pp with gap := none }).withSu (({ s.su with inFlight := none } : SenseUnit).takeVerdict u cls comp m.dropUpdate)

/-- The state with its verdict counted, in the survey's tallies too, before the Repair Engine takes it. -/
def State.verdictTallied (s : State) (m : Measurement) (u : UnitId) (cls : VerdictClass) (comp : Nat) : State :=
  (s.verdictCounted m u cls comp).tallySurvey m cls

theorem rawCount_eq (ticks : Nat) (cut regulated : Bool) :
    rawCount ticks cut regulated = if cut = true ∧ regulated = false then 1023 else min ticks 1023 := by
  cases cut <;> cases regulated <;> rfl

theorem exec_rowGapEnd_unused {s : State} (unused : s.su.inFlight = none) (ticks : Nat) (regulated : Bool) :
    exec (.rowGapEnd ticks regulated) s = .next { s with pp := { s.pp with gap := none } } := by
  refine congrArg Host.Outcome.next ?_
  by_cases isOpen : s.pp.gap.isSome = true
  · rw [if_pos isOpen]
    unfold State.endGap
    simp only [unused]
    rw [← unused]
    rfl
  · have closed : s.pp.gap = none := by simpa using isOpen
    rw [if_neg isOpen, ← closed]

section

variable {s : State} {m : Measurement} {u : UnitId} {purpose : Purpose} {channel : Option Nat} {ticks : Nat}
  {regulated : Bool} {raw comp : Nat} {cls : VerdictClass}

theorem exec_rowGapEnd_unit (isOpen : s.pp.gap.isSome = true) (inFlight : s.su.inFlight = some m)
    (granted : m.grant = .unit u purpose channel)
    (count : raw = if m.cut = true ∧ regulated = false then 1023 else min ticks 1023)
    (compensates : comp = compensated raw m.temp (s.setting 9)) (classified : cls = s.classify raw comp (s.su.baseline u)) :
    exec (.rowGapEnd ticks regulated) s = .next
      ((s.verdictTallied m u cls comp).handVerdict ⟨u, purpose, cls, raw, comp, m.frame, channel⟩) := by
  refine congrArg Host.Outcome.next ((if_pos isOpen).trans ?_)
  rw [← rawCount_eq] at count
  unfold State.endGap
  simp only [inFlight, granted]
  rw [← count, classified, compensates]
  rfl

end

/-- The verdict is the Sense Unit's: beside it only the gap is closed, and SURVEY ENDED may be raised. -/
theorem State.verdictTallied_blocks (s : State) (m : Measurement) (u : UnitId) (cls : VerdictClass) (comp : Nat) :
    s.verdictTallied m u cls comp = { s with
      pp := { s.pp with gap := none }, su := (s.verdictTallied m u cls comp).su, nu := (s.verdictTallied m u cls comp).nu } :=
  (State.tallySurvey_only _ m cls).frame.1

theorem State.verdictTallied_notice (s : State) (m : Measurement) (u : UnitId) (cls : VerdictClass) (comp : Nat) {k : Nat}
    (other : k ≠ 9) : (s.verdictTallied m u cls comp).notice k = s.notice k :=
  (State.tallySurvey_only (s.verdictCounted m u cls comp) m cls).frame.2 k other

theorem State.verdictTallied_su (s : State) (m : Measurement) (u : UnitId) (cls : VerdictClass) (comp : Nat) :
    (s.verdictTallied m u cls comp).su =
        { ({ s.su with inFlight := none } : SenseUnit).takeVerdict u cls comp m.dropUpdate with
          survey := (s.verdictTallied m u cls comp).su.survey
          inFlight := (s.verdictTallied m u cls comp).su.inFlight } ∧
      (s.verdictTallied m u cls comp).su.inFlight = none := by
  have only := (s.verdictCounted m u cls comp).tallySurvey_only m cls
  exact ⟨only.su, only.unmeasured (SenseUnit.takeVerdict_frame _ _ _ _ _).1⟩

/-- What the survey makes of the verdict. -/
theorem State.verdictTallied_survey (s : State) (m : Measurement) (u : UnitId) (cls : VerdictClass) (comp : Nat) :
    (m.surveyed = false ∨ s.su.survey = none → (s.verdictTallied m u cls comp).su.survey = s.su.survey ∧
      (s.verdictTallied m u cls comp).notice 9 = s.notice 9) ∧
    ∀ v, m.surveyed = true → s.su.survey = some v →
      (m.wraps = false → (s.verdictTallied m u cls comp).su.survey = some (v.counting cls) ∧
        (s.verdictTallied m u cls comp).notice 9 = s.notice 9) ∧
      (m.wraps = true → (v.counting cls).wrapsRow (m.index % 48) (s.verdictTallied m u cls comp).su.survey (s.notice 9)
        ((s.verdictTallied m u cls comp).notice 9)) := by
  obtain ⟨_, _, _, _, _, survey⟩ :=
    ({ s.su with inFlight := none } : SenseUnit).takeVerdict_frame u comp m.dropUpdate cls
  have counted : (s.verdictCounted m u cls comp).su.survey = s.su.survey := survey
  unfold State.verdictTallied
  refine ⟨fun apart => ?_, fun v surveyed running => ?_⟩
  · rw [State.tallySurvey_other (by rwa [counted])]
    exact ⟨counted, rfl⟩
  · rw [State.tallySurvey_surveyed surveyed (counted.trans running)]
    refine ⟨fun inside => ?_, fun wraps => ?_⟩
    · rw [inside]
      exact ⟨rfl, rfl⟩
    · rw [if_pos wraps]
      exact State.wrapRow_wrapsRow (s := (s.verdictCounted m u cls comp).setSurvey (some (v.counting cls))) rfl _

/-- Settles O33: the verdict is counted, then tallied by the survey, and the Repair Engine, which takes it last, leaves the
Sense Unit and SURVEY ENDED alone. -/
theorem aGapEndCountsItsVerdict : Obligations.AGapEndCountsItsVerdict := by
  refine ⟨fun s ticks regulated unused => exec_rowGapEnd_unused unused ticks regulated, ?_⟩
  intro s m u purpose channel ticks regulated raw comp isOpen inFlight granted count compensates
  generalize classified : s.classify raw comp (s.su.baseline u) = cls
  have ended := exec_rowGapEnd_unit isOpen inFlight granted count compensates classified.symm
  generalize ({ unit := u, purpose, cls, raw, compensated := comp, frame := m.frame, channel } : Verdict) = v at ended
  have apart := (s.verdictTallied m u cls comp).handVerdict_senseApart v
  obtain ⟨su, unmeasured⟩ := s.verdictTallied_su m u cls comp
  have blocks := s.verdictTallied_blocks m u cls comp
  obtain ⟨⟨_, clk, live, stored, ci, cm⟩, pp, _⟩ := (State.repairOnly_iff _ _).1
    ((Kept.repairOnly _).handVerdict v (s.verdictTallied m u cls comp).repairOnly_refl)
  obtain ⟨_, status, condition, history, sweepCursor, _⟩ :=
    ({ s.su with inFlight := none } : SenseUnit).takeVerdict_frame u comp m.dropUpdate cls
  obtain ⟨unsurveyed, tallied⟩ := s.verdictTallied_survey m u cls comp
  refine ⟨_, ended, ?_⟩
  rw [apart.sense unmeasured, apart.notices 9 (le_refl 9)]
  refine ⟨?_, unmeasured, clk.trans (congrArg State.clk blocks :), live.trans (congrArg State.live blocks :),
    stored.trans (congrArg State.stored blocks :), ci.trans (congrArg State.ci blocks :), cm.trans (congrArg State.cm blocks :),
    ?_, ?_, ?_, ?_, fun isGood => ?_, fun k isBad => ?_, unsurveyed, fun v w surveyed running counted => ?_⟩
  · rw [pp, blocks]
  · rw [su]
    exact status
  · rw [su]
    exact condition
  · rw [su]
    exact history
  · rw [su]
    exact sweepCursor
  · subst isGood
    obtain ⟨goods, opens, shorts, drifts, least, greatest⟩ :=
      ({ s.su with inFlight := none } : SenseUnit).takeVerdict_good u comp m.dropUpdate
    obtain ⟨dropped, learned⟩ := ({ s.su with inFlight := none } : SenseUnit).takeVerdict_teaches u comp
    rw [su]
    refine ⟨goods, opens, shorts, drifts, least, greatest, fun drop => ?_, fun keep => ?_⟩
    · rw [drop]
      exact dropped
    · rw [keep]
      exact ⟨(learned u).trans (if_pos rfl), fun x other => (learned x).trans (if_neg other.symm)⟩
  · subst isBad
    rw [su]
    exact SenseUnit.takeVerdict_bad _ u comp m.dropUpdate k
  · subst counted
    exact tallied v surveyed running

end Sys2Proof.Machine

end

section
/-! PROOFS. O36: retests. -/

namespace Sys2Proof.Machine

/-! ## The words of the statement -/

/-- SHORT is above OPEN, and OPEN above DRIFT (R74). -/
theorem FaultKind.moreSevere_eq (a b : FaultKind) :
    a.moreSevere b = (if a = .shortFault ∨ b = .shortFault then .shortFault
      else if a = .openFault ∨ b = .openFault then .openFault else .driftFault) := by
  cases a <;> cases b <;> rfl

/-- The counted standing, state by state (R116). -/
theorem CellState.counted_iff (c : CellState) :
    c.counted = true ↔ c = .condemned ∨ (∃ phase k, c = .pendingSpare phase k) ∨ (∃ k, c = .spared k) ∨
      ∃ reason, c = .concealed reason ∧ reason ≠ .ordered ∧ reason ≠ .line := by
  cases c with
  | concealed reason => cases reason <;> simp [CellState.counted]
  | healthy | suspect | condemned | pendingSpare phase k | spared k => simp [CellState.counted]

/-! ## The judgement of the limits (R117, R119, R120) -/

theorem State.atLimit_iff (s : State) (l : Nat) :
    s.atLimit l = true ↔ (s.re.line l).state = .normal ∧ s.lineLimit l ≤ (s.re.line l).tally := by
  unfold State.atLimit
  rw [Bool.and_eq_true, decide_eq_true_eq, decide_eq_true_eq]

/-- Both lines are judged before either is held. -/
theorem State.judgeLimits_cases (s : State) (n : Nat) :
    (s.atLimit (cLineOf n) = false ∧ s.atLimit (rLineOf n) = false ∧ s.judgeLimits n = s) ∨
    (s.atLimit (cLineOf n) = true ∧ s.atLimit (rLineOf n) = false ∧ s.judgeLimits n = s.hold (cLineOf n)) ∨
    (s.atLimit (cLineOf n) = false ∧ s.atLimit (rLineOf n) = true ∧ s.judgeLimits n = s.hold (rLineOf n)) ∨
    (s.atLimit (cLineOf n) = true ∧ s.atLimit (rLineOf n) = true ∧
      s.judgeLimits n = (s.hold (cLineOf n)).hold (rLineOf n)) := by
  unfold State.judgeLimits
  cases s.atLimit (cLineOf n) <;> cases s.atLimit (rLineOf n) <;> simp

theorem State.judgeLimits_below {s : State} {n : Nat} (c : s.atLimit (cLineOf n) = false)
    (r : s.atLimit (rLineOf n) = false) : s.judgeLimits n = s := by
  unfold State.judgeLimits
  rw [c, r]
  rfl

/-- Holds raise LINE HELD alone. -/
theorem State.judgeLimits_notice (s : State) (n : Nat) {k : Nat} (other : k ≠ 7) :
    (s.judgeLimits n).notice k = s.notice k := by
  have held : ∀ (t : State) l, (t.hold l).notice k = t.notice k := fun t l => by
    rw [State.hold_notice, if_neg other]
  obtain ⟨_, _, same⟩ | ⟨_, _, same⟩ | ⟨_, _, same⟩ | ⟨_, _, same⟩ := s.judgeLimits_cases n
  · rw [same]
  · rw [same, held]
  · rw [same, held]
  · rw [same, held, held]

/-- In an event from `s` to `t` line `l` has been held with cell `n` on it: the cell is CONCEALED(LINE), no entry of it is
left, and LINE HELD has been raised. -/
structure HeldWith (l n : Nat) (s t : State) : Prop where
  line : (t.re.line l).state = .held
  cell : t.re.cell n = .concealed .line
  entries : ∀ x ∈ t.re.suspects, x.unit.cell ≠ n
  raised : (s.notice 7).count < (t.notice 7).count ∨ 255 ≤ (t.notice 7).count

section

variable {l n : Nat} {s t u : State}

theorem State.hold_raises (s : State) (l : Nat) :
    (s.notice 7).count < ((s.hold l).notice 7).count ∨ 255 ≤ ((s.hold l).notice 7).count := by
  rw [State.hold_notice, if_pos rfl]
  dsimp only
  omega

theorem State.hold_heldWith (s : State) (on : n ∈ lineCells l) : HeldWith l n s (s.hold l) := by
  refine ⟨by rw [State.hold_line], by rw [State.hold_cell, if_pos on], fun x left here => ?_, s.hold_raises l⟩
  rw [State.hold_suspects] at left
  exact of_decide_eq_true (List.mem_filter.1 left).2 (here ▸ on)

theorem HeldWith.of_later (held : HeldWith l n t u)
    (raised : (s.notice 7).count < (t.notice 7).count ∨ 255 ≤ (t.notice 7).count) : HeldWith l n s u := by
  obtain ⟨line, cell, entries, again⟩ := held
  exact ⟨line, cell, entries, by omega⟩

/-- The hold of the cell's other line comes on top of the first one. -/
theorem HeldWith.hold (held : HeldWith l n s t) {j : Nat} (on : n ∈ lineCells j) : HeldWith l n s (t.hold j) := by
  obtain ⟨_, cell, entries, _⟩ := t.hold_heldWith on
  refine ⟨?_, cell, entries, ?_⟩
  · rw [State.hold_line_state, held.line, ite_self]
  · have before := held.raised
    have again := t.hold_raises j
    omega

/-- The judgement after a rise of a cell's tallies holds each of its lines that is at its limit. -/
theorem State.judgeLimits_holds (wall : n < 9216) (isLine : l = cLineOf n ∨ l = rLineOf n) (reached : s.atLimit l = true) :
    HeldWith l n s (s.judgeLimits n) := by
  have onC : n ∈ lineCells (cLineOf n) := (mem_lineCells _ _ ((cLineOf_lt n).trans (by decide)) wall).2 (Or.inl rfl)
  have onR : n ∈ lineCells (rLineOf n) := (mem_lineCells _ _ (rLineOf_lt wall).2 wall).2 (Or.inr rfl)
  rcases isLine with rfl | rfl
  · obtain ⟨c, _⟩ | ⟨_, _, same⟩ | ⟨c, _⟩ | ⟨_, _, same⟩ := s.judgeLimits_cases n
    · rw [c] at reached
      cases reached
    · rw [same]
      exact s.hold_heldWith onC
    · rw [c] at reached
      cases reached
    · rw [same]
      exact (s.hold_heldWith onC).hold onR
  · obtain ⟨_, r, _⟩ | ⟨_, r, _⟩ | ⟨_, _, same⟩ | ⟨_, _, same⟩ := s.judgeLimits_cases n
    · rw [r] at reached
      cases reached
    · rw [r] at reached
      cases reached
    · rw [same]
      exact s.hold_heldWith onR
    · rw [same]
      exact (State.hold_heldWith _ onR).of_later (s.hold_raises _)

end

/-! ## A condemnation (R81, R116) -/

theorem movedTally_le (before : Bool) (tally : Nat) : movedTally before true tally ≤ tally + 1 := by
  cases before
  · exact le_refl _
  · exact Nat.le_succ _

@[simp] theorem State.setUnit_nu (s : State) (u : UnitId) (c : CellState) (d : DieState) : (s.setUnit u c d).nu = s.nu := by
  unfold State.setUnit
  cases u.side <;> exact State.setCell_nu _ _ _ _

section

variable (s : State) (u : UnitId) (f : Entry → Entry)

theorem State.confirm_cell (m : Nat) :
    (s.confirm u f).re.cell m = if u.side = .primary ∧ u.cell = m then .condemned else s.re.cell m :=
  State.setUnit_cell _ _ _ _ _

theorem State.confirm_die (m : Nat) :
    (s.confirm u f).re.die m = if u.side = .spare ∧ u.cell = m then .condemned else s.re.die m :=
  State.setUnit_die _ _ _ _ _

theorem State.confirm_notice (k : Nat) : (s.confirm u f).notice k = s.notice k := by
  unfold State.confirm State.notice
  rw [State.setUnit_nu]
  rfl

theorem State.confirm_lineLimit (l : Nat) : (s.confirm u f).lineLimit l = s.lineLimit l :=
  State.setting_congr (s.confirm_live u f) _

variable {u}

/-- A condemned primary is counted in the tallies of its two lines (R116). -/
theorem State.confirm_line (primary : u.side = .primary) {l : Nat} (isLine : l = cLineOf u.cell ∨ l = rLineOf u.cell) :
    (s.confirm u f).re.line l =
      { s.re.line l with tally := movedTally (s.re.cell u.cell).counted true (s.re.line l).tally } := by
  unfold State.confirm State.setUnit
  rw [primary]
  exact (State.setCell_line _ _ _ _ _).trans (if_pos isLine)

/-- A line that the rise of one leaves below its limit is not at it. -/
theorem State.confirm_below (primary : u.side = .primary) {l : Nat} (isLine : l = cLineOf u.cell ∨ l = rLineOf u.cell)
    (below : (s.re.line l).tally + 1 < s.lineLimit l) : (s.confirm u f).atLimit l = false := by
  rw [Bool.eq_false_iff, ne_eq, State.atLimit_iff, State.confirm_line s f primary isLine, State.confirm_lineLimit]
  rintro ⟨_, reached⟩
  have rises := movedTally_le (s.re.cell u.cell).counted (s.re.line l).tally
  exact absurd reached (by dsimp only; omega)

/-- A NORMAL line that the condemnation of a SUSPECT cell brings to its limit. -/
theorem State.confirm_reaches (primary : u.side = .primary) {l : Nat} (isLine : l = cLineOf u.cell ∨ l = rLineOf u.cell)
    (suspect : s.re.cell u.cell = .suspect) (normal : (s.re.line l).state = .normal)
    (reached : s.lineLimit l ≤ (s.re.line l).tally + 1) : (s.confirm u f).atLimit l = true := by
  rw [State.atLimit_iff, State.confirm_line s f primary isLine, State.confirm_lineLimit, suspect]
  exact ⟨normal, reached⟩

variable (u)

/-- FAULT CONFIRMED is raised, and by a hold at most LINE HELD with it. -/
theorem State.announce_notice (kind : FaultKind) :
    (s.announce u kind).notice 0 = ⟨min ((s.notice 0).count + 1) 255, some (.faultConfirmed u kind)⟩ := by
  have raised : (s.notify (.faultConfirmed u kind)).notice 0 =
      ⟨min ((s.notice 0).count + 1) 255, some (.faultConfirmed u kind)⟩ := State.notify_notice_of_kind s rfl
  unfold State.announce
  cases u.side with
  | primary => exact (State.judgeLimits_notice _ _ (by decide)).trans raised
  | spare => exact raised

variable {u}

theorem State.announce_spare (spare : u.side = .spare) (kind : FaultKind) :
    s.announce u kind = s.notify (.faultConfirmed u kind) := by
  unfold State.announce
  rw [spare]

theorem State.announce_primary (primary : u.side = .primary) (kind : FaultKind) :
    s.announce u kind = (s.notify (.faultConfirmed u kind)).judgeLimits u.cell := by
  unfold State.announce
  rw [primary]

/-- A condemned die leaves its cell as it was. -/
theorem State.condemned_die (spare : u.side = .spare) (kind : FaultKind) :
    ((s.confirm u f).announce u kind).re.die u.cell = .condemned ∧
      ((s.confirm u f).announce u kind).re.cell u.cell = s.re.cell u.cell := by
  rw [State.announce_spare _ spare, State.notify_re, State.confirm_die, State.confirm_cell, if_pos ⟨spare, rfl⟩,
    if_neg (by simp [spare])]
  exact ⟨rfl, rfl⟩

/-- A condemned primary that brings neither of its lines to its limit stays CONDEMNED. -/
theorem State.condemned_stays (primary : u.side = .primary) (kind : FaultKind)
    (belowC : (s.re.line (cLineOf u.cell)).tally + 1 < s.lineLimit (cLineOf u.cell))
    (belowR : (s.re.line (rLineOf u.cell)).tally + 1 < s.lineLimit (rLineOf u.cell)) :
    ((s.confirm u f).announce u kind).re.cell u.cell = .condemned ∧
      ((s.confirm u f).announce u kind).re.die u.cell = s.re.die u.cell := by
  have unheld : ((s.confirm u f).notify (.faultConfirmed u kind)).judgeLimits u.cell = _ :=
    State.judgeLimits_below (State.confirm_below s f primary (Or.inl rfl) belowC)
      (State.confirm_below s f primary (Or.inr rfl) belowR)
  rw [State.announce_primary _ primary, unheld, State.notify_re, State.confirm_cell, State.confirm_die,
    if_pos ⟨primary, rfl⟩, if_neg (by simp [primary])]
  exact ⟨rfl, rfl⟩

/-- A NORMAL line that the condemnation of a SUSPECT cell brings to its limit is held in the same event. -/
theorem State.condemned_holds (primary : u.side = .primary) (kind : FaultKind) {l : Nat}
    (isLine : l = cLineOf u.cell ∨ l = rLineOf u.cell) (wall : u.cell < 9216) (suspect : s.re.cell u.cell = .suspect)
    (normal : (s.re.line l).state = .normal) (reached : s.lineLimit l ≤ (s.re.line l).tally + 1) :
    HeldWith l u.cell s ((s.confirm u f).announce u kind) := by
  have otherKind : (Detail.faultConfirmed u kind).kind.number ≠ 7 := (by decide : (0 : Nat) ≠ 7)
  have confirmed : ((s.confirm u f).notify (.faultConfirmed u kind)).notice 7 = s.notice 7 :=
    (State.notify_notice_of_other _ otherKind).trans (s.confirm_notice u f 7)
  obtain ⟨line, cell, entries, raised⟩ := State.judgeLimits_holds
    (s := (s.confirm u f).notify (.faultConfirmed u kind)) wall isLine
    (State.confirm_reaches s f primary isLine suspect normal reached)
  rw [State.announce_primary _ primary]
  exact ⟨line, cell, entries, confirmed ▸ raised⟩

end

/-! ## Retests, case by case (R61, R80, R81) -/

section

variable {s : State} {e : Entry}

/-- A RETEST verdict reaches the uncondemned entry of its unit. -/
theorem State.handVerdict_retest {v : Verdict} (purpose : v.purpose = .retest) (listed : s.re.entry v.unit = some e)
    (uncondemned : e.evidence ≠ s.setting 13) : s.handVerdict v = (s.retest e v.cls).reconsider := by
  unfold State.handVerdict
  rw [purpose, listed]
  exact if_neg (by rw [State.condemnedMark_eq]; simpa using uncondemned)

theorem RepairEngine.entry_unit {r : RepairEngine} {u : UnitId} (listed : r.entry u = some e) : e.unit = u := by
  simpa using List.find?_some listed

theorem State.retest_returns (low : e.evidence ≤ 1) :
    s.retest e .good = (s.dropEntry e.unit).returnUnit e.unit := if_pos low

theorem State.retest_lowers (high : 1 < e.evidence) :
    s.retest e .good =
      s.changeEntry e.unit fun x => { x with evidence := x.evidence - 1, due := s.setting 12 } :=
  if_neg (Nat.not_le.2 high)

theorem State.retest_raises {k : FaultKind} (short : e.evidence + 1 ≠ s.setting 13) :
    s.retest e (.bad k) = s.changeEntry e.unit fun x =>
      { x with kind := e.kind.moreSevere k, evidence := x.evidence + 1, due := s.setting 12 } := if_neg short

theorem State.retest_confirms {k : FaultKind} (reached : e.evidence + 1 = s.setting 13) :
    s.retest e (.bad k) = (s.confirm e.unit fun x =>
      { x with kind := e.kind.moreSevere k, evidence := x.evidence + 1, due := s.setting 12 }).announce e.unit
        (e.kind.moreSevere k) :=
  (if_pos reached).trans (State.changeEntry_condemn _ _ _ _)

end

/-- Settles O36: the verdict reaches its entry with the Repair Engine as it was, and each case of verdict and evidence has its
equation; a condemnation is then judged against the limits. -/
theorem retestsMoveTheEvidence : Obligations.RetestsMoveTheEvidence := by
  refine ⟨FaultKind.moreSevere_eq, CellState.counted_iff, fun _ _ => rfl, ?_⟩
  intro s m u channel ticks regulated e cls raw isOpen inFlight granted count classified listed uncondemned
  generalize compensates : compensated raw m.temp (s.setting 9) = comp at classified
  have ended := exec_rowGapEnd_unit isOpen inFlight granted count compensates.symm classified
  have blocks := s.verdictTallied_blocks m u cls comp
  have re : (s.verdictTallied m u cls comp).re = s.re := by rw [blocks]
  have live : (s.verdictTallied m u cls comp).live = s.live := by rw [blocks]
  have notices : ∀ j, j ≠ 9 → (s.verdictTallied m u cls comp).notice j = s.notice j := fun _ =>
    s.verdictTallied_notice m u cls comp
  clear blocks
  generalize s.verdictTallied m u cls comp = t at ended notices re live
  have setting : ∀ n, t.setting n = s.setting n := State.setting_congr live
  have lineLimit : ∀ l, t.lineLimit l = s.lineLimit l := fun _ => setting _
  have unit : e.unit = u := RepairEngine.entry_unit listed
  rw [State.handVerdict_retest rfl (by rwa [re]) (by rwa [setting])] at ended
  refine ⟨_, ended, ?_⟩
  rw [← re, ← setting 12, ← setting 13]
  simp only [← lineLimit]
  refine ⟨?_, ?_, ?_, ?_⟩
  · rintro rfl low
    rw [State.retest_returns low, unit]
    unfold State.returnUnit
    refine ⟨State.setUnit_suspects _ _ _ _, fun j other => ?_, fun primary => ?_, fun spare => ?_⟩
    · rw [← notices j other, State.notice, State.setUnit_nu]
      rfl
    · rw [State.setUnit_cell, if_pos ⟨primary, rfl⟩]
    · rw [State.setUnit_die, if_pos ⟨spare, rfl⟩]
  · rintro rfl high
    rw [State.retest_lowers high, unit]
    exact ⟨rfl, notices⟩
  · rintro k rfl short
    rw [State.retest_raises short, unit]
    exact ⟨rfl, notices⟩
  · rintro k rfl reached
    rw [State.retest_confirms reached, unit]
    refine ⟨?_, fun spare => State.condemned_die t _ spare _, fun primary => State.condemned_stays t _ primary _,
      fun l listedLine primary wall suspect normal limit => ?_⟩
    · rw [State.announce_notice, State.confirm_notice, notices 0 (by decide)]
    · obtain ⟨line, cell, entries, raised⟩ := State.condemned_holds t _ primary (e.kind.moreSevere k)
        (by simpa using listedLine) wall suspect normal limit
      exact ⟨line, cell, entries, notices 7 (by decide) ▸ raised⟩

end Sys2Proof.Machine

end

section
/-! PROOFS. O3: every change of a block keeps the bounds. -/

namespace Sys2Proof.Machine

/-- The bounds of `s` on both directions of the chain, the notices, the proving slots and the owed list hold of `t` too
(R88, R128, R158, R163, R171). -/
structure KeepsBounds (s t : State) : Prop where
  chain : s.ci.bounded → t.ci.bounded
  notices : noticesBounded s.nu → noticesBounded t.nu
  slots : s.re.slotsBounded → t.re.slotsBounded
  owed : s.rj.owedOnce → t.rj.owedOnce

theorem ReStep.slotsBounded {a b : RepairEngine} (step : ReStep a b) (bounded : a.slotsBounded) : b.slotsBounded :=
  step.2.2.trans (max_le bounded (le_refl _))

/-- One occurrence takes no count above 255 (R171). -/
theorem State.notify_noticesBounded (s : State) (d : Detail) (bounded : noticesBounded s.nu) :
    noticesBounded (s.notify d).nu :=
  noticesBounded_write _ _ (min_le_right _ _) bounded

/-- A reset leaves nothing that a bound could catch. -/
theorem State.resetBlocks_keepsBounds (s t : State) (phase : StartPhase) (bank0 bank1 : Bank) :
    KeepsBounds s (t.resetBlocks phase bank0 bank1) where
  chain := fun _ => ⟨⟨Nat.zero_le _, Nat.zero_le _⟩, Nat.zero_le _, Nat.zero_le _⟩
  notices := fun _ => ⟨Table.wf_nil fun _ => (⟨0, none⟩ : Notice), nofun⟩
  slots := fun _ => Nat.zero_le _
  owed := fun _ => List.nodup_nil

/-- Every change of a block that the part's operations make keeps these bounds. -/
theorem KeptAll.keepsBounds (s : State) : KeptAll (KeepsBounds s) where
  inFlight := fun _ _ ⟨chain, notices, slots, owed⟩ => ⟨chain, notices, slots, owed⟩
  post := fun _ _ _ ⟨chain, notices, slots, owed⟩ => ⟨chain, notices, slots, owed⟩
  re := fun _ _ step ⟨chain, notices, slots, owed⟩ => ⟨chain, notices, step.slotsBounded ∘ slots, owed⟩
  rj := fun _ _ step ⟨chain, notices, slots, owed⟩ => ⟨chain, notices, slots, step.1 ∘ owed⟩
  notify := fun t d ⟨chain, notices, slots, owed⟩ => ⟨chain, t.notify_noticesBounded d ∘ notices, slots, owed⟩
  enlist := fun _ _ _ ⟨chain, notices, slots, owed⟩ => ⟨chain, notices, slots, owed⟩
  full := Or.inr fun _ _ ⟨chain, notices, slots, owed⟩ => ⟨chain, notices, slots, owed⟩
  su := fun _ _ _ ⟨chain, notices, slots, owed⟩ => ⟨chain, notices, slots, owed⟩
  pp := fun _ _ _ ⟨chain, notices, slots, owed⟩ => ⟨chain, notices, slots, owed⟩
  journal := fun _ _ step ⟨chain, notices, slots, owed⟩ => ⟨chain, notices, slots, step ∘ owed⟩
  clk := fun _ _ ⟨chain, notices, slots, owed⟩ => ⟨chain, notices, slots, owed⟩
  cm := fun _ _ ⟨chain, notices, slots, owed⟩ => ⟨chain, notices, slots, owed⟩
  ci := fun _ _ step ⟨chain, notices, slots, owed⟩ => ⟨step ∘ chain, notices, slots, owed⟩
  nu := fun _ _ _ step ⟨chain, notices, slots, owed⟩ => ⟨chain, step ∘ notices, slots, owed⟩
  settings := fun _ _ _ _ _ ⟨chain, notices, slots, owed⟩ => ⟨chain, notices, slots, owed⟩
  tables := fun _ _ _ _ provings ⟨chain, notices, _, owed⟩ =>
    ⟨chain, notices, fun _ => (congrArg List.length provings).trans_le (Nat.zero_le _), owed⟩
  reset := fun t phase bank0 bank1 _ => s.resetBlocks_keepsBounds t phase bank0 bank1

/-- Every change of a block keeps the suspect list at 32 entries: an entry joins only a list with room (R75, R77). -/
theorem KeptAll.listBounded : KeptAll fun t => t.re.listBounded where
  inFlight := fun _ _ bounded => bounded
  post := fun _ _ _ bounded => bounded
  re := fun _ _ step bounded => step.2.1.trans bounded
  rj := fun _ _ _ bounded => bounded
  notify := fun _ _ bounded => bounded
  enlist := fun _ _ room _ => (List.length_append ..).trans_le room
  full := Or.inl fun _ bounded => bounded
  su := fun _ _ _ bounded => bounded
  pp := fun _ _ _ bounded => bounded
  journal := fun _ _ _ bounded => bounded
  clk := fun _ _ bounded => bounded
  cm := fun _ _ bounded => bounded
  ci := fun _ _ _ bounded => bounded
  nu := fun _ _ _ _ bounded => bounded
  settings := fun _ _ _ _ _ bounded => bounded
  tables := fun _ _ _ suspects _ _ => (congrArg List.length suspects).trans_le (Nat.zero_le _)
  reset := fun _ _ _ _ _ => Nat.zero_le _

/-- Settles O3: each change of a block keeps each bound, so every command and every step does. -/
theorem stepsKeepEveryBound : Obligations.StepsKeepEveryBound := by
  intro s t taken
  have bounds : KeepsBounds s t := step_keeps (fun _ _ ⟨chain, notices, slots, owed⟩ => ⟨chain, notices, slots, owed⟩)
    (fun c _ _ kept done => (KeptAll.keepsBounds s).exec c kept done) ⟨id, id, id, id⟩ taken
  have list : s.re.listBounded → t.re.listBounded := fun bounded =>
    step_keeps (P := fun t => t.re.listBounded) (fun _ _ kept => kept)
      (fun c _ _ kept done => KeptAll.listBounded.exec c kept done) bounded taken
  exact ⟨bounds.chain, bounds.notices, list, bounds.slots, bounds.owed⟩

end Sys2Proof.Machine

end

section
/-! PROOFS. O49: how the requests of the Repair Engine are refused and answered, and SET-BUDGET. -/

namespace Sys2Proof.Machine

/-! ## A request of the Repair Engine is refused or done (R164) -/

section

variable {s t : State} {r : Request} {kind : Byte} {op : State → State × Answer} {status : Status} {body : List Byte}

/-- A served request that its block refuses. -/
theorem State.serves.refuses (serves : s.serves r) (known : knownKind kind = true) (other : kind ≠ 2)
    (answer : op (s.heard r kind) = (s.heard r kind).refuse status) :
    s.request r kind op = s.refused r kind status :=
  State.request_reports serves.1 (Or.inl serves.2) known other answer

/-- A served request that its block does. -/
theorem State.serves.does (serves : s.serves r) (known : knownKind kind = true) (other : kind ≠ 2)
    (answer : op (s.heard r kind) = (t, ⟨status, body⟩)) :
    s.request r kind op = t.answered r kind s.pp.frame status body := by
  rw [State.request_operating op serves.1 serves.2 known (Or.inl other), answer]

end

/-! ## SET-BUDGET (R113) -/

theorem setBudgetOp_malformed {body : List Byte} (malformed : oneNumber body = none) (s : State) :
    setBudgetOp body s = s.refuse .malformed := by
  unfold setBudgetOp
  rw [malformed]

theorem setBudgetOp_eq {body : List Byte} {v : Nat} (found : oneNumber body = some v) (s : State) :
    setBudgetOp body s =
      if v = 65535 then (s.reconsider, ⟨.done, byte2 s.re.budget ++ byte2 s.re.budget⟩)
      else if 768 < v then s.refuse .outOfRange
      else ((s.setBudget v).reconsider, ⟨.done, byte2 s.re.budget ++ byte2 v⟩) := by
  unfold setBudgetOp
  rw [found]
  rfl

/-- Settles O49: SET-BUDGET is refused, keeps the budget or sets it, and each answer's fields are read before it. -/
theorem setBudgetReportsBeforeAndAfter : Obligations.SetBudgetReportsBeforeAndAfter := by
  intro s r serves
  refine ⟨fun malformed => ?_, fun v found high other => ?_, fun keep => ?_, fun v found low => ?_⟩
  · exact congrArg Host.Outcome.next (serves.refuses rfl (by decide) (setBudgetOp_malformed malformed _))
  · refine congrArg Host.Outcome.next (serves.refuses rfl (by decide) ?_)
    rw [setBudgetOp_eq found, if_neg other, if_pos high]
  · refine congrArg Host.Outcome.next (serves.does rfl (by decide) ?_)
    rw [setBudgetOp_eq keep, if_pos rfl, State.heard_re]
  · have small : v ≠ 65535 := by omega
    refine congrArg Host.Outcome.next (serves.does rfl (by decide) ?_)
    rw [setBudgetOp_eq found, if_neg small, if_neg (Nat.not_lt.2 low), State.setBudget, State.heard_re]
    rfl

end Sys2Proof.Machine

end

section
/-! PROOFS. O45: RESTORE, CONCEAL and FORGIVE. -/

namespace Sys2Proof.Machine

/-! ## The checks of RESTORE and CONCEAL (R109, R110) -/

theorem CellState.not_mayBeRestored_iff (c : CellState) :
    (!c.mayBeRestored) = true ↔ c = .healthy ∨ c = .concealed .line := by
  cases c with
  | concealed reason => cases reason <;> simp [CellState.mayBeRestored]
  | healthy | suspect | condemned | pendingSpare phase k | spared k => simp [CellState.mayBeRestored]

theorem CellState.isConcealed_iff (c : CellState) : c.isConcealed = true ↔ ∃ reason, c = .concealed reason := by
  cases c <;> simp [CellState.isConcealed]

theorem State.clearClaim_own (s : State) (u : UnitId) : (s.clearClaim [u]).su.baseline u = .none := by
  rw [State.clearClaim_baseline, if_pos (List.mem_map_of_mem (List.mem_singleton.2 rfl))]

theorem restoreOp_malformed {body : List Byte} (malformed : oneNumber body = none) (s : State) :
    restoreOp body s = s.refuse .malformed := by
  unfold restoreOp
  rw [malformed]

theorem restoreOp_eq {body : List Byte} {n : Nat} (found : oneNumber body = some n) (s : State) :
    restoreOp body s =
      if 9216 ≤ n then s.refuse .outOfRange
      else if !(s.re.cell n).mayBeRestored then s.refuse .wrongState
      else (((s.withdraw n .healthy).clearClaim [⟨.primary, n⟩]).reconsider, ⟨.done, []⟩) := by
  unfold restoreOp
  rw [found]
  rfl

theorem concealOp_malformed {body : List Byte} (malformed : oneNumber body = none) (s : State) :
    concealOp body s = s.refuse .malformed := by
  unfold concealOp
  rw [malformed]

theorem concealOp_eq {body : List Byte} {n : Nat} (found : oneNumber body = some n) (s : State) :
    concealOp body s =
      if 9216 ≤ n then s.refuse .outOfRange
      else if (s.re.cell n).isConcealed then s.refuse .wrongState
      else ((s.withdraw n (.concealed .ordered)).reconsider, ⟨.done, []⟩) := by
  unfold concealOp
  rw [found]
  rfl

/-! ## The checks of FORGIVE, and a unit returned (R75, R85, R156) -/

theorem unitOf_none {w : Nat} (high : 32768 ≤ w) : unitOf w = none := by
  obtain ⟨side, past⟩ : ∃ side, w / 16384 = side + 2 := ⟨w / 16384 - 2, by omega⟩
  unfold unitOf
  rw [past]
  rfl

theorem RepairEngine.entry_isNone_iff (r : RepairEngine) (u : UnitId) :
    (r.entry u).isNone = true ↔ ∀ e ∈ r.suspects, e.unit ≠ u := by
  unfold RepairEngine.entry
  simp

theorem forgiveOp_malformed {body : List Byte} (malformed : (oneNumber body).bind unitOf = none) (s : State) :
    forgiveOp body s = s.refuse .malformed := by
  unfold forgiveOp
  rw [malformed]

theorem forgiveOp_eq {body : List Byte} {u : UnitId} (found : (oneNumber body).bind unitOf = some u) (s : State) :
    forgiveOp body s =
      if 9216 ≤ u.cell then s.refuse .outOfRange
      else if (s.re.entry u).isNone then s.refuse .wrongState
      else (((s.dropEntry u).returnUnit u).reconsider, ⟨.done, []⟩) := by
  unfold forgiveOp
  rw [found]
  rfl

@[simp] theorem State.setUnit_su (s : State) (u : UnitId) (c : CellState) (d : DieState) : (s.setUnit u c d).su = s.su := by
  unfold State.setUnit
  cases u.side <;> exact State.setCell_su _ _ _ _

@[simp] theorem State.setUnit_channels (s : State) (u : UnitId) (c : CellState) (d : DieState) :
    (s.setUnit u c d).re.channels = s.re.channels := by
  unfold State.setUnit
  cases u.side <;> exact State.setCell_re_channels _ _ _ _

/-- A unit's own change leaves the other side of its cell, and every other cell and die. -/
theorem State.setUnit_units (s : State) (u : UnitId) (c : CellState) (d : DieState) :
    (u.side = .primary → (s.setUnit u c d).re.cell u.cell = c ∧ (s.setUnit u c d).re.die u.cell = s.re.die u.cell) ∧
      (u.side = .spare → (s.setUnit u c d).re.die u.cell = d ∧ (s.setUnit u c d).re.cell u.cell = s.re.cell u.cell) ∧
      ∀ m, m ≠ u.cell → (s.setUnit u c d).re.cell m = s.re.cell m ∧ (s.setUnit u c d).re.die m = s.re.die m := by
  refine ⟨fun primary => ?_, fun spare => ?_, fun m other => ?_⟩ <;> rw [State.setUnit_cell, State.setUnit_die]
  · rw [if_pos ⟨primary, rfl⟩, if_neg (by simp [primary])]
    exact ⟨rfl, rfl⟩
  · rw [if_pos ⟨spare, rfl⟩, if_neg (by simp [spare])]
    exact ⟨rfl, rfl⟩
  · rw [if_neg fun both => other both.2.symm, if_neg fun both => other both.2.symm]
    exact ⟨rfl, rfl⟩

/-! ## The requests -/

section

variable {s : State} {r : Request} (serves : s.serves r)
include serves

/-- A RESTORE that is accepted is the withdrawal to HEALTHY, then the clear claim on the cell's baseline (R109). -/
theorem State.serves.restores {n : Nat} (found : oneNumber r.body = some n) (cell : n < 9216)
    (state : s.re.cell n ≠ .healthy ∧ s.re.cell n ≠ .concealed .line) :
    exec (.restore r) s = .next ((((s.heard r 11).withdraw n .healthy).clearClaim [⟨.primary, n⟩]).reconsider.answered
      r 11 s.pp.frame .done []) := by
  refine congrArg Host.Outcome.next (serves.does rfl (by decide) ?_)
  have may : ¬(!((s.heard r 11).re.cell n).mayBeRestored) = true := by
    rw [CellState.not_mayBeRestored_iff, State.heard_re, not_or]
    exact state
  rw [restoreOp_eq found, if_neg (Nat.not_le.2 cell), if_neg may]

/-- A CONCEAL that is accepted is the withdrawal to CONCEALED(ORDERED) (R110). -/
theorem State.serves.conceals {n : Nat} (found : oneNumber r.body = some n) (cell : n < 9216)
    (shown : ∀ reason, s.re.cell n ≠ .concealed reason) :
    exec (.conceal r) s = .next (((s.heard r 12).withdraw n (.concealed .ordered)).reconsider.answered
      r 12 s.pp.frame .done []) := by
  refine congrArg Host.Outcome.next (serves.does rfl (by decide) ?_)
  have may : ¬((s.heard r 12).re.cell n).isConcealed = true := by
    rw [CellState.isConcealed_iff, State.heard_re]
    exact not_exists.2 shown
  rw [concealOp_eq found, if_neg (Nat.not_le.2 cell), if_neg may]

/-- A FORGIVE that is accepted takes the unit's entry off the list and returns the unit (R85). -/
theorem State.serves.forgives {u : UnitId} (found : (oneNumber r.body).bind unitOf = some u) (cell : u.cell < 9216)
    (listed : ∃ e ∈ s.re.suspects, e.unit = u) :
    exec (.forgive r) s = .next ((((s.heard r 13).dropEntry u).returnUnit u).reconsider.answered
      r 13 s.pp.frame .done []) := by
  refine congrArg Host.Outcome.next (serves.does rfl (by decide) ?_)
  have may : ¬((s.heard r 13).re.entry u).isNone = true := by
    rw [RepairEngine.entry_isNone_iff, State.heard_re]
    obtain ⟨e, on, same⟩ := listed
    exact fun absent => absent e on same
  rw [forgiveOp_eq found, if_neg (Nat.not_le.2 cell), if_neg may]

end

/-- Settles O45: each request's checks in their order; an accepted RESTORE and CONCEAL are withdrawals, and an accepted FORGIVE
the return of a unit that has left the list. -/
theorem restoreConcealAndForgiveWithdrawFromRepair : Obligations.RestoreConcealAndForgiveWithdrawFromRepair := by
  intro s r serves
  refine ⟨fun malformed => ⟨?_, ?_, ?_⟩, fun n found => ⟨fun far => ⟨?_, ?_⟩, fun cell => ⟨fun state => ?_,
    fun unhealthy unheld => ?_, fun concealed => ?_, fun shown => ?_⟩⟩, fun w found => ⟨fun high => ?_,
    fun u unit far => ?_, fun u unit cell => ⟨fun unlisted => ?_, fun listed => ?_⟩⟩⟩
  · exact congrArg Host.Outcome.next (serves.refuses rfl (by decide) (restoreOp_malformed malformed _))
  · exact congrArg Host.Outcome.next (serves.refuses rfl (by decide) (concealOp_malformed malformed _))
  · exact congrArg Host.Outcome.next (serves.refuses rfl (by decide) (forgiveOp_malformed (by rw [malformed]; rfl) _))
  · refine congrArg Host.Outcome.next (serves.refuses rfl (by decide) ?_)
    rw [restoreOp_eq found, if_pos far]
  · refine congrArg Host.Outcome.next (serves.refuses rfl (by decide) ?_)
    rw [concealOp_eq found, if_pos far]
  · refine congrArg Host.Outcome.next (serves.refuses rfl (by decide) ?_)
    rw [restoreOp_eq found, if_neg (Nat.not_le.2 cell), if_pos ((CellState.not_mayBeRestored_iff _).2 ?_)]
    rwa [State.heard_re]
  · refine ⟨_, _, serves.restores found cell ⟨unhealthy, unheld⟩, State.withdraw_withdrawn _ n _, rfl, ?_⟩
    exact State.clearClaim_own _ _
  · refine congrArg Host.Outcome.next (serves.refuses rfl (by decide) ?_)
    rw [concealOp_eq found, if_neg (Nat.not_le.2 cell), if_pos ((CellState.isConcealed_iff _).2 ?_)]
    rwa [State.heard_re]
  · exact ⟨_, serves.conceals found cell shown, State.withdraw_withdrawn _ n _⟩
  · refine congrArg Host.Outcome.next (serves.refuses rfl (by decide) (forgiveOp_malformed ?_ _))
    rw [found]
    exact unitOf_none high
  · refine congrArg Host.Outcome.next (serves.refuses rfl (by decide) ?_)
    rw [forgiveOp_eq (by rw [found]; exact unit), if_pos far]
  · refine congrArg Host.Outcome.next (serves.refuses rfl (by decide) ?_)
    rw [forgiveOp_eq (by rw [found]; exact unit), if_neg (Nat.not_le.2 cell),
      if_pos ((RepairEngine.entry_isNone_iff _ _).2 ?_)]
    rwa [State.heard_re]
  · have K := Kept.repairOnly (s.heard r 13)
    refine ⟨_, serves.forgives (by rw [found]; exact unit) cell listed, K.returnUnit _ (K.dropEntry _ rfl), ?_⟩
    obtain ⟨primary, spare, others⟩ := ((s.heard r 13).dropEntry u).setUnit_units u .healthy .good
    simp only [State.dropEntry_cell, State.dropEntry_die, State.heard_re] at primary spare others
    unfold State.returnUnit
    exact ⟨by rw [State.setUnit_suspects, State.dropEntry_suspects, State.heard_re], by simp, by simp, by simp, by simp,
      primary, spare, others⟩

end Sys2Proof.Machine

end

section
/-! PROOFS. O46: REVIVE-DIE and RESTORE-CHANNEL. -/

namespace Sys2Proof.Machine

/-! ## A die and a channel brought back (R111, R112) -/

/-- A change of a cell that leaves its counted standing changes the cell and die maps alone. -/
theorem State.setCell_re_of_counted (s : State) (n : Nat) {c : CellState} (d : DieState)
    (standing : (s.re.cell n).counted = c.counted) : (s.setCell n c d).re = (s.writeCell n c d).re := by
  unfold State.setCell State.countTallies
  simp [standing]

theorem State.setChannel_re (s : State) (k : Nat) (v : Channel) :
    (s.setChannel k v).re = { s.re with channels := (s.setChannel k v).re.channels } := by
  unfold State.setChannel
  rw [State.imageChanged_re]
  rfl

/-- A cell whose die is not GOOD calls for the same route whether the die is DEAD or UNTRIED (R14). -/
theorem routeFor_dead (c : CellState) : routeFor c .dead = routeFor c .untried := by
  cases c <;> rfl

theorem reviveDieOp_malformed {body : List Byte} (malformed : oneNumber body = none) (s : State) :
    reviveDieOp body s = s.refuse .malformed := by
  unfold reviveDieOp
  rw [malformed]

theorem reviveDieOp_eq {body : List Byte} {n : Nat} (found : oneNumber body = some n) (s : State) :
    reviveDieOp body s =
      if 9216 ≤ n then s.refuse .outOfRange
      else if s.re.die n ≠ .dead then s.refuse .wrongState
      else (((s.setCell n (s.re.cell n) .untried).clearClaim [⟨.spare, n⟩]).reconsider, ⟨.done, []⟩) := by
  unfold reviveDieOp
  rw [found]
  rfl

theorem restoreChannelOp_malformed {body : List Byte} (malformed : oneNumber body = none) (s : State) :
    restoreChannelOp body s = s.refuse .malformed := by
  unfold restoreChannelOp
  rw [malformed]

theorem restoreChannelOp_eq {body : List Byte} {k : Nat} (found : oneNumber body = some k) (s : State) :
    restoreChannelOp body s =
      if 768 ≤ k then s.refuse .outOfRange
      else if (s.re.channel k).state ≠ .failed then s.refuse .wrongState
      else ((s.setChannel k ⟨.free, 0⟩).reconsider, ⟨.done, []⟩) := by
  unfold restoreChannelOp
  rw [found]
  rfl

/-- A DEAD die that becomes UNTRIED is owed; nothing but its own entry changes, and no route is posted (R14, R111). -/
theorem State.reviveDie_eq {s : State} {n : Nat} (dead : s.re.die n = .dead) :
    (s.setCell n (s.re.cell n) .untried).re = (s.writeCell n (s.re.cell n) .untried).re ∧
      (s.setCell n (s.re.cell n) .untried).rj.owed = oweList s.rj.owed (dieSubject n) ∧
      (s.setCell n (s.re.cell n) .untried).pp = s.pp := by
  refine ⟨s.setCell_re_of_counted n _ rfl, ?_, s.setCell_pp n _ _ (by rw [dead, routeFor_dead])⟩
  rw [State.setCell_owed, dead]
  simp [dieImage]

/-- Settles O46: the checks of each request in their order, and what brings a die and a channel back. -/
theorem reviveDieAndRestoreChannelBringBack : Obligations.ReviveDieAndRestoreChannelBringBack := by
  intro s r serves
  refine ⟨fun malformed => ⟨?_, ?_⟩, fun n found => ⟨fun far => ?_, fun cell alive => ?_, fun cell dead => ?_⟩,
    fun k found => ⟨fun far => ?_, fun channel stands => ?_, fun channel failed => ?_⟩⟩
  · exact congrArg Host.Outcome.next (serves.refuses rfl (by decide) (reviveDieOp_malformed malformed _))
  · exact congrArg Host.Outcome.next (serves.refuses rfl (by decide) (restoreChannelOp_malformed malformed _))
  · refine congrArg Host.Outcome.next (serves.refuses rfl (by decide) ?_)
    rw [reviveDieOp_eq found, if_pos far]
  · refine congrArg Host.Outcome.next (serves.refuses rfl (by decide) ?_)
    rw [reviveDieOp_eq found, if_neg (Nat.not_le.2 cell), if_pos (by rwa [State.heard_re])]
  · have heard : (s.heard r 14).re.die n = .dead := by rwa [State.heard_re]
    have revives : exec (.reviveDie r) s = .next ((((s.heard r 14).setCell n ((s.heard r 14).re.cell n) .untried).clearClaim
        [⟨.spare, n⟩]).reconsider.answered r 14 s.pp.frame .done []) := by
      refine congrArg Host.Outcome.next (serves.does rfl (by decide) ?_)
      rw [reviveDieOp_eq found, if_neg (Nat.not_le.2 cell), if_neg (not_not.2 heard)]
    obtain ⟨re, owed, pp⟩ := State.reviveDie_eq heard
    refine ⟨_, revives, ((Kept.repairOnly _).setCell n _ _ (State.repairOnly_refl _)).clearClaim _, ?_, fun m => ?_, ?_, fun m other => ?_, ?_,
      ?_, ?_, by simp⟩
    · rw [State.clearClaim_re, re, ← State.heard_re s r 14]
      rfl
    · rw [State.clearClaim_re, State.setCell_cell, State.heard_re]
      split
      · rename_i here
        rw [here]
      · rfl
    · rw [State.clearClaim_re, State.setCell_die, if_pos rfl]
    · rw [State.clearClaim_re, State.setCell_die, if_neg other.symm, State.heard_re]
    · rw [State.clearClaim_rj, owed, State.heard_rj]
    · exact State.clearClaim_own _ _
    · rw [State.clearClaim_pp, pp, State.heard_pp]
  · refine congrArg Host.Outcome.next (serves.refuses rfl (by decide) ?_)
    rw [restoreChannelOp_eq found, if_pos far]
  · refine congrArg Host.Outcome.next (serves.refuses rfl (by decide) ?_)
    rw [restoreChannelOp_eq found, if_neg (Nat.not_le.2 channel), if_pos (by rwa [State.heard_re])]
  · have heard : ((s.heard r 15).re.channel k).state = .failed := by rwa [State.heard_re]
    have restores : exec (.restoreChannel r) s = .next (((s.heard r 15).setChannel k ⟨.free, 0⟩).reconsider.answered
        r 15 s.pp.frame .done []) := by
      refine congrArg Host.Outcome.next (serves.does rfl (by decide) ?_)
      rw [restoreChannelOp_eq found, if_neg (Nat.not_le.2 channel), if_neg (not_not.2 heard)]
    have changed : channelImage .failed ≠ channelImage .free := by decide
    refine ⟨_, restores, (Kept.repairOnly _).setChannel k _ (State.repairOnly_refl _), ?_, ?_, fun j other => ?_, ?_, by simp, by simp, by simp⟩
    · rw [← State.heard_re s r 15]
      exact State.setChannel_re _ _ _
    · rw [State.setChannel_channel, if_pos rfl]
    · rw [State.setChannel_channel, if_neg other.symm, State.heard_re]
    · rw [State.setChannel_owed, heard, if_neg changed, State.heard_rj]

end Sys2Proof.Machine

end

section
/-! PROOFS. O35: admissions to the suspect list. -/

namespace Sys2Proof.Machine

/-! ## A change of a unit that its cell's images, route and standing do not show (R14, R106, R116) -/

/-- Nothing but a cell's own state, or its die's, has changed: nothing is owed, no route posted, no tally moved and no notice
raised. -/
structure UnitsOnly (s t : State) : Prop where
  re : t.re = { s.re with cells := t.re.cells, dies := t.re.dies }
  rj : t.rj = s.rj
  pp : t.pp = s.pp
  nu : t.nu = s.nu

theorem UnitsOnly.of_setCell {s : State} {n : Nat} {c : CellState} {d : DieState}
    (standing : (s.re.cell n).counted = c.counted) (image : cellImage (s.re.cell n) = cellImage c)
    (dieImage : dieImage (s.re.die n) = dieImage d) (route : routeFor (s.re.cell n) (s.re.die n) = routeFor c d) :
    UnitsOnly s (s.setCell n c d) where
  re := by
    rw [s.setCell_re_of_counted n d standing]
    rfl
  rj := s.setCell_rj n c d image dieImage
  pp := s.setCell_pp n c d route
  nu := s.setCell_nu n c d

/-- A unit that qualifies becomes SUSPECT unseen (R77). -/
theorem State.suspectUnit_only {s : State} {u : UnitId} (qualifies : s.re.qualifies u = true) :
    UnitsOnly s (s.setUnit u .suspect .suspect) := by
  obtain ⟨side, n⟩ := u
  cases side with
  | primary =>
    have healthy : s.re.cell n = .healthy := of_decide_eq_true qualifies
    exact .of_setCell (by rw [healthy]; rfl) (by rw [healthy]; rfl) rfl (by rw [healthy]; rfl)
  | spare =>
    unfold RepairEngine.qualifies at qualifies
    cases state : s.re.cell n <;> simp only [state, decide_eq_true_eq, Bool.false_eq_true] at qualifies
    exact .of_setCell rfl rfl (by rw [qualifies]; rfl) (by rw [state, qualifies]; rfl)

/-- A SUSPECT unit of the list is returned unseen (R75). -/
theorem State.returnUnit_only {s : State} {u : UnitId} (listed : s.re.entryAgrees u) (suspected : s.re.isSuspected u) :
    UnitsOnly s (s.returnUnit u) := by
  obtain ⟨side, n⟩ := u
  cases side with
  | primary =>
    have suspect : s.re.cell n = .suspect := suspected
    exact .of_setCell (by rw [suspect]; rfl) (by rw [suspect]; rfl) rfl (by rw [suspect]; rfl)
  | spare =>
    have suspect : s.re.die n = .suspect := suspected
    have spared : (s.re.cell n).isSpared = true := listed.2
    cases state : s.re.cell n <;> simp only [state, CellState.isSpared, Bool.false_eq_true] at spared
    exact .of_setCell rfl rfl (by rw [suspect]; rfl) (by rw [state, suspect]; rfl)

/-! ## Which units qualify (R62, R76) -/

theorem RepairEngine.qualifies_spare_iff (r : RepairEngine) (n : Nat) :
    r.qualifies ⟨.spare, n⟩ = true ↔ (∃ k, r.cell n = .spared k) ∧ r.die n = .good := by
  unfold RepairEngine.qualifies
  cases r.cell n <;> simp

/-! ## The admission and its refusals (R77 to R79) -/

section

variable {s : State} {u : UnitId} {kind : FaultKind}

theorem State.askAdmission_room (room : s.re.suspects.length < 32) : s.askAdmission u kind = s.enlist u kind := if_pos room

theorem State.askAdmission_refused (full : 32 ≤ s.re.suspects.length)
    (none : kind = .driftFault ∨ s.evictable = .none) : s.askAdmission u kind = s.notify (.listFull false u) := by
  refine (if_neg (Nat.not_lt.2 full)).trans ?_
  rcases none with rfl | none
  · rfl
  · rw [none]
    cases kind <;> rfl

theorem State.askAdmission_evicts (full : 32 ≤ s.re.suspects.length) (severe : kind ≠ .driftFault) {e : Entry}
    (evicts : s.evictable = some e) : s.askAdmission u kind =
      (((s.dropEntry e.unit).returnUnit e.unit).enlist u kind).notify (.listFull true e.unit) := by
  refine (if_neg (Nat.not_lt.2 full)).trans ?_
  rw [evicts]
  cases kind
  case driftFault => exact absurd rfl severe
  all_goals rfl

/-- The entry that an admission adds, and its unit's state; nothing else changes (R77). -/
theorem State.enlist_only (qualifies : s.re.qualifies u = true) :
    UnitsOnly (s.setSuspects (s.re.suspects ++ [⟨u, kind, 1, s.setting 12, s.pp.frame⟩])) (s.enlist u kind) :=
  State.suspectUnit_only qualifies

theorem State.enlist_suspects (s : State) (u : UnitId) (kind : FaultKind) :
    (s.enlist u kind).re.suspects = s.re.suspects ++ [⟨u, kind, 1, s.setting 12, s.pp.frame⟩] :=
  State.setUnit_suspects _ _ _ _

theorem State.enlist_units (s : State) (u : UnitId) (kind : FaultKind) :
    (u.side = .primary → (s.enlist u kind).re.cell u.cell = .suspect ∧
        (s.enlist u kind).re.die u.cell = s.re.die u.cell) ∧
      (u.side = .spare → (s.enlist u kind).re.die u.cell = .suspect ∧
        (s.enlist u kind).re.cell u.cell = s.re.cell u.cell) ∧
      ∀ m, m ≠ u.cell → (s.enlist u kind).re.cell m = s.re.cell m ∧ (s.enlist u kind).re.die m = s.re.die m := by
  have units := State.setUnit_units (s.setSuspects (s.re.suspects ++ [⟨u, kind, 1, s.setting 12, s.pp.frame⟩])) u
    .suspect .suspect
  unfold State.enlist
  exact units

/-- LIST FULL and nothing else (R79). -/
theorem State.notify_listFull (s : State) (evicted : Bool) (u : UnitId) :
    (s.notify (.listFull evicted u)).notice 8 = ⟨min ((s.notice 8).count + 1) 255, some (.listFull evicted u)⟩ ∧
      ∀ j, j ≠ 8 → (s.notify (.listFull evicted u)).notice j = s.notice j :=
  ⟨State.notify_notice_of_kind s (d := .listFull evicted u) rfl, fun _ other =>
    State.notify_notice_of_other s (d := .listFull evicted u) other.symm⟩

/-- An admission condemns nobody: evidence 1 is below the threshold (R81). -/
theorem State.enlist_no_candidate (none : s.candidate = .none) (threshold : 2 ≤ s.setting 13) :
    (s.enlist u kind).candidate = .none := by
  have live : (s.enlist u kind).live = s.live := by
    unfold State.enlist State.setUnit
    cases u.side <;> exact State.setCell_live _ _ _ _
  have unmarked : ∀ e ∈ s.re.suspects, e.evidence ≠ s.setting 13 := by
    simpa [State.candidate, State.condemnedMark_eq] using none
  refine List.find?_eq_none.2 fun e on => ?_
  rw [State.enlist_suspects] at on
  rw [State.condemnedMark_eq, State.setting_congr live, decide_eq_true_eq]
  rcases List.mem_append.1 on with before | new
  · exact unmarked e before
  · rw [List.mem_singleton.1 new]
    dsimp only
    omega

theorem State.evictable_none (condemned : ∀ e ∈ s.re.suspects, e.kind = .driftFault → e.evidence = s.setting 13) :
    s.evictable = none := by
  refine List.find?_eq_none.2 fun e on => ?_
  rw [State.condemnedMark_eq]
  simpa using condemned e (List.mem_reverse.1 on)

theorem State.evictable_spec {e : Entry} (evicts : s.evictable = some e) :
    e ∈ s.re.suspects ∧ e.evidence ≠ s.setting 13 := by
  have found := List.find?_some evicts
  rw [State.condemnedMark_eq] at found
  refine ⟨List.mem_reverse.1 (List.mem_of_find?_eq_some evicts), ?_⟩
  simpa using And.right (by simpa using found)

/-- The last uncondemned DRIFT entry is the one to evict (R78). -/
theorem State.evictable_some {front back : List Entry} {e : Entry} (list : s.re.suspects = front ++ e :: back)
    (drift : e.kind = .driftFault) (uncondemned : e.evidence ≠ s.setting 13)
    (later : ∀ x ∈ back, x.kind = .driftFault → x.evidence = s.setting 13) : s.evictable = some e := by
  have behind : back.reverse.find? (fun e => decide (e.kind = .driftFault) && !s.condemnedMark e) = none := by
    refine List.find?_eq_none.2 fun x on => ?_
    rw [State.condemnedMark_eq]
    simpa using later x (List.mem_reverse.1 on)
  have here : (decide (e.kind = .driftFault) && !s.condemnedMark e) = true := by
    rw [State.condemnedMark_eq]
    simp [drift, uncondemned]
  unfold State.evictable
  rw [list, List.reverse_append, List.reverse_cons, List.append_assoc, List.find?_append, behind,
    Option.none_or]
  refine List.find?_cons_of_pos ?_
  exact here

/-- An uncondemned entry's unit is SUSPECT (R75, R81). -/
theorem State.suspected_of_uncondemned (agree : s.re.consistent) (lawful : s.suspectsLawful) {e : Entry}
    (on : e ∈ s.re.suspects) (uncondemned : e.evidence ≠ s.setting 13) : s.re.isSuspected e.unit := by
  have listed : s.re.entryAgrees e.unit := agree.2.2.1 e on
  have innocent : ¬s.re.isCondemned e.unit := fun condemned => uncondemned ((lawful.2.1 e on).2.2.1 condemned)
  unfold RepairEngine.isCondemned at innocent
  unfold RepairEngine.isSuspected
  unfold RepairEngine.entryAgrees at listed
  cases side : e.unit.side <;> simp only [side] at listed innocent ⊢
  · exact listed.resolve_right innocent
  · exact listed.1.resolve_right innocent

/-- What an eviction leaves: the evicted unit returned and the new one SUSPECT, on other cells, and the list closed up behind the
evicted entry with the new one at its end (R78). -/
structure Evicted (e : Entry) (u : UnitId) (kind : FaultKind) (s t : State) : Prop where
  re : t.re = { s.re with suspects := t.re.suspects, cells := t.re.cells, dies := t.re.dies }
  rj : t.rj = s.rj
  pp : t.pp = s.pp
  nu : t.nu = s.nu
  suspects : t.re.suspects =
    s.re.suspects.filter (fun x => decide (x.unit ≠ e.unit)) ++ [⟨u, kind, 1, s.setting 12, s.pp.frame⟩]
  returned : (e.unit.side = .primary → t.re.cell e.unit.cell = .healthy ∧ t.re.die e.unit.cell = s.re.die e.unit.cell) ∧
    (e.unit.side = .spare → t.re.die e.unit.cell = .good ∧ t.re.cell e.unit.cell = s.re.cell e.unit.cell)
  admitted : (u.side = .primary → t.re.cell u.cell = .suspect ∧ t.re.die u.cell = s.re.die u.cell) ∧
    (u.side = .spare → t.re.die u.cell = .suspect ∧ t.re.cell u.cell = s.re.cell u.cell)
  others : ∀ n, n ≠ u.cell → n ≠ e.unit.cell → t.re.cell n = s.re.cell n ∧ t.re.die n = s.re.die n

theorem State.evicted {e : Entry} (listed : s.re.entryAgrees e.unit) (suspected : s.re.isSuspected e.unit)
    (qualifies : s.re.qualifies u = true) :
    Evicted e u kind s (((s.dropEntry e.unit).returnUnit e.unit).enlist u kind) := by
  have apart : e.unit.cell ≠ u.cell := fun same => by
    rw [← listed.serves.alone (RepairEngine.serves_of_qualifies qualifies) same.symm] at listed
    exact RepairEngine.unlisted_of_qualifies qualifies listed
  have back : UnitsOnly (s.dropEntry e.unit) ((s.dropEntry e.unit).returnUnit e.unit) :=
    State.returnUnit_only listed suspected
  have units := (s.dropEntry e.unit).setUnit_units e.unit .healthy .good
  have list : ((s.dropEntry e.unit).returnUnit e.unit).re.suspects = _ :=
    State.setUnit_suspects (s.dropEntry e.unit) e.unit .healthy .good
  have live : ((s.dropEntry e.unit).returnUnit e.unit).live = s.live := by
    unfold State.returnUnit State.setUnit
    cases e.unit.side <;> exact State.setCell_live _ _ _ _
  have still := State.returnUnit_qualifies listed qualifies
  rw [← State.returnUnit] at units
  generalize (s.dropEntry e.unit).returnUnit e.unit = w at back units list live still
  have joined := w.enlist_only (kind := kind) still
  have newUnits := w.enlist_units u kind
  have newList := w.enlist_suspects u kind
  obtain ⟨primary, spare, others⟩ := units
  obtain ⟨newPrimary, newSpare, newOthers⟩ := newUnits
  obtain ⟨cellHere, dieHere⟩ := newOthers _ apart
  obtain ⟨cellThere, dieThere⟩ := others _ apart.symm
  generalize w.enlist u kind = t at *
  refine ⟨?_, joined.rj.trans back.rj, joined.pp.trans back.pp, joined.nu.trans back.nu, ?_, ⟨fun side => ?_, fun side => ?_⟩,
    ⟨fun side => ?_, fun side => ?_⟩, fun n offNew offOld => ?_⟩
  · rw [joined.re, State.setSuspects, State.withRe_re, back.re]
    rfl
  · rw [newList, list, State.setting_congr live, back.pp]
    rfl
  · rw [cellHere, dieHere]
    exact primary side
  · rw [cellHere, dieHere]
    exact spare side
  · rw [← State.dropEntry_die s e.unit, ← dieThere]
    exact newPrimary side
  · rw [← State.dropEntry_cell s e.unit, ← cellThere]
    exact newSpare side
  · obtain ⟨cell, die⟩ := newOthers n offNew
    rw [cell, die]
    exact others n offOld

end

/-! ## The verdict that asks for an admission -/

/-- A bad SWEEP or SURVEY verdict on a unit that qualifies asks for its admission (R76). -/
theorem State.handVerdict_asks {s : State} {v : Verdict} {k : FaultKind}
    (purpose : v.purpose = .sweep ∨ v.purpose = .survey) (bad : v.cls = .bad k) (qualifies : s.re.qualifies v.unit = true) :
    s.handVerdict v = (s.askAdmission v.unit k).reconsider := by
  unfold State.handVerdict
  rcases purpose with purpose | purpose <;> rw [purpose, bad] <;> exact if_pos qualifies

section

variable {s : State} {m : Measurement} {u : UnitId} {purpose : Purpose} {channel : Option Nat} {ticks : Nat}
  {regulated : Bool} {k : FaultKind} {raw : Nat}

/-- The gap's end with a bad verdict on a qualifying unit: its admission is asked for in a state whose Repair Engine, journal and
settings are as they were. -/
theorem exec_rowGapEnd_asks (isOpen : s.pp.gap.isSome = true) (inFlight : s.su.inFlight = some m)
    (granted : m.grant = .unit u purpose channel) (routine : purpose = .sweep ∨ purpose = .survey)
    (count : raw = if m.cut = true ∧ regulated = false then 1023 else min ticks 1023)
    (classified : s.classify raw (compensated raw m.temp (s.setting 9)) (s.su.baseline u) = .bad k)
    (qualifies : s.re.qualifies u = true) :
    ∃ t : State, exec (.rowGapEnd ticks regulated) s = .next (t.askAdmission u k).reconsider ∧ t.re = s.re ∧ t.rj = s.rj ∧
      t.pp = { s.pp with gap := none } ∧ t.live = s.live ∧ ∀ j, j ≠ 9 → t.notice j = s.notice j := by
  have ended := exec_rowGapEnd_unit isOpen inFlight granted count rfl classified.symm
  have blocks := s.verdictTallied_blocks m u (.bad k) (compensated raw m.temp (s.setting 9))
  have re : (s.verdictTallied m u (.bad k) (compensated raw m.temp (s.setting 9))).re = s.re := by rw [blocks]
  have rj : (s.verdictTallied m u (.bad k) (compensated raw m.temp (s.setting 9))).rj = s.rj := by rw [blocks]
  have live : (s.verdictTallied m u (.bad k) (compensated raw m.temp (s.setting 9))).live = s.live := by rw [blocks]
  rw [State.handVerdict_asks routine rfl (by rw [re]; exact qualifies)] at ended
  exact ⟨_, ended, re, rj, congrArg State.pp blocks, live, fun j => s.verdictTallied_notice m u _ _⟩

end

/-- Settles O35: with room the verdict's unit is enlisted and nobody is condemned by it; with a full list the request for
admission is refused, or takes the place of the last uncondemned DRIFT entry. -/
theorem aBadVerdictAdmitsItsUnit : Obligations.ABadVerdictAdmitsItsUnit := by
  refine ⟨fun r n => ⟨decide_eq_true_iff, r.qualifies_spare_iff n⟩, ?_, ?_⟩
  · intro s m u purpose channel ticks regulated k raw isOpen inFlight granted routine count classified qualifies room none
      threshold
    obtain ⟨t, ended, re, rj, pp, live, notices⟩ :=
      exec_rowGapEnd_asks isOpen inFlight granted routine count classified qualifies
    have setting : ∀ n, t.setting n = s.setting n := State.setting_congr live
    have idle : t.candidate = .none := by
      rw [← none]
      unfold State.candidate
      rw [re]
      exact congrArg (fun p => List.find? p _) (funext fun e => by rw [State.condemnedMark_eq, setting]; rfl)
    rw [← re] at qualifies room
    rw [State.askAdmission_room room, State.reconsider_of_no_candidate _
      (State.enlist_no_candidate idle (by rwa [setting]))] at ended
    obtain ⟨reOnly, rjSame, ppSame, nuSame⟩ := t.enlist_only (kind := k) qualifies
    have units := t.enlist_units u k
    rw [re] at units
    obtain ⟨primary, spare, others⟩ := units
    refine ⟨_, ended, ?_, ?_, primary, spare, others, rjSame.trans rj, ppSame.trans pp, fun j other => ?_⟩
    · rw [reOnly, ← re]
      rfl
    · rw [State.enlist_suspects, re, setting, pp]
    · rw [← notices j other, State.notice, nuSame]
      rfl
  · intro s m u purpose channel ticks regulated k raw isOpen inFlight granted routine count classified qualifies full agree
      lawful
    obtain ⟨t, ended, re, rj, pp, live, notices⟩ :=
      exec_rowGapEnd_asks isOpen inFlight granted routine count classified qualifies
    have setting : ∀ n, t.setting n = s.setting n := State.setting_congr live
    rw [← re] at full qualifies
    have last : ∀ front back e, s.re.suspects = front ++ e :: back → e.kind = .driftFault → e.evidence ≠ s.setting 13 →
        (∀ x ∈ back, x.kind = .driftFault → x.evidence = s.setting 13) → t.evictable = some e := by
      intro front back e list drift uncondemned later
      rw [← re] at list
      rw [← setting] at uncondemned later
      exact State.evictable_some list drift uncondemned later
    by_cases refused : k = .driftFault ∨ t.evictable = none
    · rw [State.askAdmission_refused full refused] at ended
      refine ⟨_, ended, rj, pp, fun j off other => ?_, fun _ => ⟨re, ?_⟩,
        fun front back e severe list drift uncondemned later => ?_⟩
      · rw [(t.notify_listFull false u).2 j off, notices j other]
      · rw [(t.notify_listFull false u).1, notices 8 (by decide)]
      · have evicts := last front back e list drift uncondemned later
        rw [refused.resolve_left severe] at evicts
        cases evicts
    · obtain ⟨severe, someEvictable⟩ := not_or.1 refused
      obtain ⟨e, evicts⟩ := Option.ne_none_iff_exists'.1 someEvictable
      obtain ⟨on, uncondemned⟩ := State.evictable_spec evicts
      rw [re] at on
      rw [setting] at uncondemned
      have suspected := State.suspected_of_uncondemned agree lawful on uncondemned
      have listed : s.re.entryAgrees e.unit := agree.2.2.1 e on
      rw [← re] at listed suspected
      rw [State.askAdmission_evicts full severe evicts] at ended
      have evicted := State.evicted (u := u) (kind := k) listed suspected qualifies
      generalize ((t.dropEntry e.unit).returnUnit e.unit).enlist u k = v at ended evicted
      have unraised : ∀ j, j ≠ 9 → v.notice j = s.notice j := fun j other => by
        rw [← notices j other, State.notice, evicted.nu]
        rfl
      refine ⟨_, ended, evicted.rj.trans rj, evicted.pp.trans pp, fun j off other => ?_, fun none => ?_,
        fun front back x _ list drift condemned later => ?_⟩
      · rw [(v.notify_listFull true e.unit).2 j off, unraised j other]
      · refine absurd (State.evictable_none ?_) someEvictable
        rw [re, setting]
        exact none.resolve_left severe
      · obtain rfl : e = x := Option.some.inj (evicts.symm.trans (last front back x list drift condemned later))
        rw [(v.notify_listFull true e.unit).1, unraised 8 (by decide), State.notify_re, ← re, ← setting 12]
        refine ⟨rfl, evicted.re, ?_, evicted.returned.1, evicted.returned.2, evicted.admitted.1, evicted.admitted.2,
          evicted.others⟩
        rw [evicted.suspects, pp]

end Sys2Proof.Machine

end

section
/-! PROOFS. O48: RELEASE-LINE. -/

namespace Sys2Proof.Machine

/-! ## The lines that cross a line (R7, R123) -/

theorem eq_line_or_otherLine {l n : Nat} (line : l < 240) (on : n ∈ lineCells l) (j : Nat) :
    j = cLineOf n ∨ j = rLineOf n ↔ j = l ∨ j = otherLineOf l n := by
  have cell := lineCells_lt line on
  have low := cLineOf_lt n
  have high := (rLineOf_lt cell).1
  unfold otherLineOf
  rcases line_of_mem_lineCells cell on with here | here <;> split <;> omega

theorem mem_crossing_iff {l : Nat} (line : l < 240) (j : Nat) :
    j ∈ crossing l ↔ ∃ n ∈ lineCells l, j = otherLineOf l n := by
  unfold crossing lineCells otherLineOf cellAt cLineOf rLineOf rowOf columnOf colourOf
  split
  · simp only [List.mem_map, List.mem_range, exists_exists_and_eq_and]
    refine exists_congr fun row => and_congr_right fun small => ?_
    omega
  · simp only [List.mem_map, List.mem_range, exists_exists_and_eq_and]
    constructor
    · exact fun small => ⟨j, small, by omega⟩
    · rintro ⟨i, small, rfl⟩
      omega

theorem self_notMem_crossing {l : Nat} : l ∉ crossing l := by
  unfold crossing
  split <;> simp <;> omega

/-! ## Cells returned to service one after another (R123) -/

/-- The cells of a release become HEALTHY; each die keeps its state. -/
def State.returnCells (s : State) (cells : List Nat) : State :=
  cells.foldl (fun t n => t.setCell n .healthy (t.re.die n)) s

theorem State.returnCells_cons (s : State) (n : Nat) (cells : List Nat) :
    s.returnCells (n :: cells) = (s.setCell n .healthy (s.re.die n)).returnCells cells := rfl

theorem State.setCell_own_die (s : State) (n : Nat) (c : CellState) (m : Nat) :
    (s.setCell n c (s.re.die n)).re.die m = s.re.die m := by
  rw [State.setCell_die]
  split
  · rename_i here
    rw [here]
  · rfl

theorem State.returnCells_cell (s : State) (cells : List Nat) (m : Nat) :
    (s.returnCells cells).re.cell m = if m ∈ cells then .healthy else s.re.cell m := by
  induction cells generalizing s with
  | nil => rfl
  | cons n rest ih =>
    rw [State.returnCells_cons, ih, State.setCell_cell]
    by_cases here : n = m
    · simp [here]
    · simp [here, Ne.symm here]

theorem State.returnCells_die (s : State) (cells : List Nat) (m : Nat) :
    (s.returnCells cells).re.die m = s.re.die m := by
  induction cells generalizing s with
  | nil => rfl
  | cons n rest ih => rw [State.returnCells_cons, ih, State.setCell_own_die]

theorem State.returnCells_pendingRoute (s : State) (cells : List Nat) (m : Nat) :
    (s.returnCells cells).pp.pendingRoute m =
      if m ∈ cells ∧ s.re.calledRoute m ≠ .primary then some .primary else s.pp.pendingRoute m := by
  induction cells generalizing s with
  | nil => simp [State.returnCells]
  | cons n rest ih =>
    have called : (s.setCell n .healthy (s.re.die n)).re.calledRoute m =
        if n = m then .primary else s.re.calledRoute m := by
      unfold RepairEngine.calledRoute
      rw [State.setCell_cell, State.setCell_own_die]
      split <;> rfl
    rw [State.returnCells_cons, ih, State.setCell_pendingRoute, called]
    by_cases here : n = m
    · subst here
      simp [RepairEngine.calledRoute, routeFor]
    · simp [here, Ne.symm here]

/-- The cells of a line that the maps agree on have the image of HEALTHY already (R106). -/
theorem State.returnCells_rj (s : State) (cells : List Nat) (same : ∀ n ∈ cells, cellImage (s.re.cell n) = .healthy) :
    (s.returnCells cells).rj = s.rj := by
  induction cells generalizing s with
  | nil => rfl
  | cons n rest ih =>
    rw [State.returnCells_cons, ih, State.setCell_rj _ _ _ _ (same n List.mem_cons_self) rfl]
    intro m on
    rw [State.setCell_cell]
    split
    · rfl
    · exact same m (List.mem_cons_of_mem _ on)

/-- A line keeps its state and its repairs undone, and with none of the cells on it its tally too. -/
theorem State.returnCells_line (s : State) (cells : List Nat) (j : Nat) :
    ((s.returnCells cells).re.line j = { s.re.line j with tally := ((s.returnCells cells).re.line j).tally }) ∧
      ((∀ n ∈ cells, ¬(j = cLineOf n ∨ j = rLineOf n)) → (s.returnCells cells).re.line j = s.re.line j) := by
  induction cells generalizing s with
  | nil => exact ⟨rfl, fun _ => rfl⟩
  | cons n rest ih =>
    obtain ⟨entry, apart⟩ := ih (s.setCell n .healthy (s.re.die n))
    rw [State.returnCells_cons]
    refine ⟨?_, fun off => ?_⟩
    · rw [entry, State.setCell_line]
      split <;> rfl
    · rw [apart fun m on => off m (List.mem_cons_of_mem _ on), State.setCell_line, if_neg (off n List.mem_cons_self)]

/-- What cells returned to service leave unchanged. -/
theorem State.returnCells_leaves (s : State) (cells : List Nat) :
    (s.returnCells cells).re.suspects = s.re.suspects ∧ (s.returnCells cells).re.channels = s.re.channels ∧
      (s.returnCells cells).re.provings = s.re.provings ∧ (s.returnCells cells).nu = s.nu := by
  induction cells generalizing s with
  | nil => exact ⟨rfl, rfl, rfl, rfl⟩
  | cons n rest ih =>
    obtain ⟨suspects, channels, provings, notices⟩ := ih (s.setCell n .healthy (s.re.die n))
    rw [State.returnCells_cons, suspects, channels, provings, notices]
    simp

/-! ## Tallies counted again (R123) -/

/-- A recount changes the line table only. -/
theorem State.recounts_eq (s : State) (lines : List Nat) :
    ∃ table, lines.foldl State.recount s = s.withRe { s.re with lines := table } := by
  induction lines generalizing s with
  | nil => exact ⟨s.re.lines, rfl⟩
  | cons l rest ih =>
    obtain ⟨table, eq⟩ := ih (s.recount l)
    exact ⟨table, eq⟩

theorem State.recounts_line (s : State) (lines : List Nat) (j : Nat) :
    (lines.foldl State.recount s).re.line j =
      if j ∈ lines then { s.re.line j with tally := (lineCells j).countP fun n => (s.re.cell n).counted }
      else s.re.line j := by
  induction lines generalizing s with
  | nil => rfl
  | cons l rest ih =>
    have first : (s.recount l).re.line j =
        if l = j then { s.re.line l with tally := (lineCells l).countP fun n => (s.re.cell n).counted }
        else s.re.line j := State.setLine_line _ _ _ _
    have cells : ∀ n, (s.recount l).re.cell n = s.re.cell n := fun _ => rfl
    rw [List.foldl_cons, ih]
    simp only [first, cells]
    by_cases here : l = j
    · subst here
      simp
    · simp [here, Ne.symm here]

/-! ## The release (R123) -/

theorem State.mem_releasedCells (s : State) (l n : Nat) :
    n ∈ s.releasedCells l ↔ n ∈ lineCells l ∧ (s.re.line (otherLineOf l n)).state = .normal := by
  unfold State.releasedCells
  rw [List.mem_filter, decide_eq_true_eq]

/-- The line opened and its cells returned, before the tallies are counted again. -/
def State.opened (s : State) (l : Nat) : State :=
  ((s.changeLine l ⟨.normal, (s.re.line l).tally, 0⟩).returnCells (s.releasedCells l)).clearClaim
    ((s.releasedCells l).map fun n => ⟨.primary, n⟩)

theorem State.release_eq (s : State) (l : Nat) : s.release l = (l :: crossing l).foldl State.recount (s.opened l) := rfl

/-- Nothing after the opening changes what is not a tally. -/
theorem State.release_rest (s : State) (l : Nat) :
    ∃ table, s.release l = (s.opened l).withRe { (s.opened l).re with lines := table } :=
  State.recounts_eq _ _

theorem State.opened_cell (s : State) (l n : Nat) :
    (s.opened l).re.cell n = if n ∈ s.releasedCells l then .healthy else s.re.cell n := by
  unfold State.opened
  rw [State.clearClaim_re, State.returnCells_cell, State.changeLine_re, State.setLine_cell]

theorem State.release_cell (s : State) (l n : Nat) :
    (s.release l).re.cell n = if n ∈ s.releasedCells l then .healthy else s.re.cell n := by
  obtain ⟨table, rest⟩ := s.release_rest l
  rw [rest, ← State.opened_cell]
  rfl

theorem State.release_die (s : State) (l n : Nat) : (s.release l).re.die n = s.re.die n := by
  obtain ⟨table, rest⟩ := s.release_rest l
  rw [rest]
  refine (State.returnCells_die _ _ n).trans ?_
  rw [State.changeLine_re, State.setLine_die]

theorem State.release_pendingRoute (s : State) (l n : Nat) :
    (s.release l).pp.pendingRoute n =
      if n ∈ s.releasedCells l ∧ s.re.calledRoute n ≠ .primary then some .primary else s.pp.pendingRoute n := by
  obtain ⟨table, rest⟩ := s.release_rest l
  rw [rest]
  refine (State.returnCells_pendingRoute _ _ n).trans ?_
  unfold RepairEngine.calledRoute State.changeLine
  rw [State.imageChanged_re, State.imageChanged_pp, State.setLine_cell, State.setLine_die, State.setLine_pp]

/-- The baselines of the cells returned are cleared (R47). -/
theorem State.release_baseline (s : State) {l n : Nat} (freed : n ∈ s.releasedCells l) :
    (s.release l).su.baseline ⟨.primary, n⟩ = .none := by
  obtain ⟨table, rest⟩ := s.release_rest l
  rw [rest]
  refine (State.clearClaim_baseline _ _ _).trans (if_pos ?_)
  exact List.mem_map_of_mem (List.mem_map_of_mem (f := fun n => (⟨.primary, n⟩ : UnitId)) freed)

/-- A release leaves the suspect list, the channels, the proving records and the notices. -/
theorem State.release_leaves (s : State) (l : Nat) :
    (s.release l).re.suspects = s.re.suspects ∧ (s.release l).re.channels = s.re.channels ∧
      (s.release l).re.provings = s.re.provings ∧ (s.release l).nu = s.nu := by
  obtain ⟨table, rest⟩ := s.release_rest l
  obtain ⟨suspects, channels, provings, notices⟩ :=
    (s.changeLine l ⟨.normal, (s.re.line l).tally, 0⟩).returnCells_leaves (s.releasedCells l)
  rw [State.changeLine_re] at suspects channels provings
  rw [rest]
  exact ⟨suspects, channels, provings, notices.trans (State.imageChanged_nu _ _ _ _)⟩

/-- Where the maps agree, the cells returned were CONCEALED(LINE), and the line is all that the release owes. -/
theorem State.release_owed (s : State) {l : Nat} (held : (s.re.line l).state = .held) (agree : s.re.consistent) :
    (s.release l).rj.owed = oweList s.rj.owed (lineSubject l) := by
  obtain ⟨table, rest⟩ := s.release_rest l
  obtain ⟨-, -, -, lines, -⟩ := agree
  have same : ∀ n ∈ s.releasedCells l,
      cellImage ((s.changeLine l ⟨.normal, (s.re.line l).tally, 0⟩).re.cell n) = .healthy := fun n freed => by
    rw [State.changeLine_re, State.setLine_cell, lines l held n ((s.mem_releasedCells l n).1 freed).1]
    rfl
  rw [rest]
  change ((s.changeLine l ⟨.normal, (s.re.line l).tally, 0⟩).returnCells (s.releasedCells l)).rj.owed = _
  rw [State.returnCells_rj _ _ same, State.changeLine, State.imageChanged_owed, held, if_neg nofun, State.setLine_rj]

/-- The operations of the Repair Engine that do not read the state before them keep what a release keeps. -/
theorem Kept.release {P : State → Prop} (K : Kept P) (claims : ∀ t us, P t → P (t.clearClaim us)) {s : State} {l : Nat}
    (opened : P (s.changeLine l ⟨.normal, (s.re.line l).tally, 0⟩)) : P (s.release l) :=
  foldl_keeps _ (fun _ _ held => K.setLine _ _ held) _
    (claims _ _ (foldl_keeps _ (fun _ n held => K.setCell n _ _ held) _ opened))

theorem State.release_repairOnly (s : State) (l : Nat) : s.repairOnly (s.release l) :=
  have K := Kept.repairOnly s
  K.release (fun _ us held => held.clearClaim us) (K.imageChanged _ _ _ (K.setLine _ _ s.repairOnly_refl))

theorem State.release_owes (s : State) {l : Nat} (held : (s.re.line l).state = .held) :
    lineSubject l ∈ (s.release l).rj.owed := by
  refine (Kept.owes (lineSubject l)).release (fun _ _ owed => owed) (State.imageChanged_owes _ _ ?_)
  rw [held]
  exact nofun

/-- The line released and the lines that cross it count their cells again; every other line stays. -/
theorem State.release_line (s : State) {l : Nat} (line : l < 240) (j : Nat) :
    (s.release l).re.line j =
      if j = l then ⟨.normal, (lineCells l).countP fun n => ((s.release l).re.cell n).counted, 0⟩
      else if ∃ n ∈ lineCells l, j = otherLineOf l n then
        { s.re.line j with tally := (lineCells j).countP fun n => ((s.release l).re.cell n).counted }
      else s.re.line j := by
  have cells : ∀ n, (s.opened l).re.cell n = (s.release l).re.cell n := fun n => by
    rw [State.opened_cell, State.release_cell]
  obtain ⟨entry, apart⟩ :=
    (s.changeLine l ⟨.normal, (s.re.line l).tally, 0⟩).returnCells_line (s.releasedCells l) j
  change (s.opened l).re.line j = { (s.changeLine l ⟨.normal, (s.re.line l).tally, 0⟩).re.line j with
    tally := ((s.opened l).re.line j).tally } at entry
  change _ → (s.opened l).re.line j = _ at apart
  rw [State.changeLine_line] at entry apart
  rw [State.release_eq, State.recounts_line, ← State.release_eq]
  simp only [cells, ← mem_crossing_iff line]
  by_cases own : j = l
  · subst own
    rw [if_pos List.mem_cons_self, if_pos rfl, entry, if_pos rfl]
  · rw [if_neg (Ne.symm own)] at entry apart
    rw [if_neg own]
    by_cases crosses : j ∈ crossing l
    · rw [if_pos (List.mem_cons_of_mem _ crosses), if_pos crosses, entry]
    · rw [if_neg (by simp [own, crosses]), if_neg crosses]
      refine apart fun n freed on => ?_
      have here := ((s.mem_releasedCells l n).1 freed).1
      rcases (eq_line_or_otherLine line here j).1 on with same | other
      · exact own same
      · exact crosses ((mem_crossing_iff line j).2 ⟨n, here, other⟩)

/-! ## RELEASE-LINE -/

theorem releaseLineOp_malformed {body : List Byte} (malformed : oneByte body = none) (s : State) :
    releaseLineOp body s = s.refuse .malformed := by
  unfold releaseLineOp
  rw [malformed]

theorem releaseLineOp_eq {body : List Byte} {l : Nat} (found : oneByte body = some l) (s : State) :
    releaseLineOp body s =
      if 240 ≤ l then s.refuse .outOfRange
      else if (s.re.line l).state = .normal then s.refuse .wrongState
      else ((s.release l).reconsider, ⟨.done, []⟩) := by
  unfold releaseLineOp
  rw [found]
  rfl

/-- Settles O48: RELEASE-LINE opens the line, returns the cells whose other line is NORMAL and counts the tallies again. -/
theorem releaseLineReturnsItsCells : Obligations.ReleaseLineReturnsItsCells := by
  intro s r serves
  refine ⟨fun malformed => ?_, fun l found => ⟨fun far => ?_, fun line normal => ?_, fun line held => ?_⟩⟩
  · exact congrArg Host.Outcome.next (serves.refuses rfl (by decide) (releaseLineOp_malformed malformed _))
  · refine congrArg Host.Outcome.next (serves.refuses rfl (by decide) ?_)
    rw [releaseLineOp_eq found, if_pos far]
  · refine congrArg Host.Outcome.next (serves.refuses rfl (by decide) ?_)
    rw [releaseLineOp_eq found, if_neg (Nat.not_le.2 line), if_pos (by rwa [State.heard_re])]
  · have done : exec (.releaseLine r) s =
        .next (((s.heard r 17).release l).reconsider.answered r 17 s.pp.frame .done []) := by
      refine congrArg Host.Outcome.next (serves.does rfl (by decide) ?_)
      rw [releaseLineOp_eq found, if_neg (Nat.not_le.2 line), if_neg (by rw [State.heard_re, held]; decide)]
    have heardHeld : ((s.heard r 17).re.line l).state = .held := by rwa [State.heard_re]
    obtain ⟨suspects, channels, provings, notices⟩ := (s.heard r 17).release_leaves l
    have lines := (s.heard r 17).release_line line
    have cells := (s.heard r 17).release_cell l
    have freed := (s.heard r 17).mem_releasedCells l
    have routes := (s.heard r 17).release_pendingRoute l
    have dies := (s.heard r 17).release_die l
    have owed := (s.heard r 17).release_owed heardHeld
    simp only [freed, State.heard_re, State.heard_pp, and_assoc] at lines cells routes
    simp only [State.heard_re, State.heard_rj, State.heard_nu] at dies owed suspects channels provings notices
    refine ⟨_, done, State.release_repairOnly _ l, by rw [lines, if_pos rfl], by rw [lines, if_pos rfl],
      by rw [lines, if_pos rfl], fun n on => ?_, fun j own others => ?_, routes, owed,
      fun n on normal => ⟨?_, ?_⟩,
      fun n on other => ?_, fun n off => ?_, dies, suspects, channels, provings,
      State.release_owes _ heardHeld, notices⟩
    · have apart : otherLineOf l n ≠ l := fun same =>
        self_notMem_crossing ((mem_crossing_iff line l).2 ⟨n, on, same.symm⟩)
      rw [lines, if_neg apart, if_pos ⟨n, on, rfl⟩]
    · rw [lines, if_neg own, if_neg fun ⟨n, on, other⟩ => others n on other]
    · rw [cells, if_pos ⟨on, normal⟩]
    · exact State.release_baseline _ ((freed n).2 ⟨on, by rwa [State.heard_re]⟩)
    · rw [cells, if_neg (by simp [other])]
    · rw [cells, if_neg (by simp [off])]

end Sys2Proof.Machine

end

section
/-! PROOFS. O54: the journal's own operations, equation by equation. -/

namespace Sys2Proof.Machine

/-! ## Banks and slots (R129, R130) -/

/-- A change of a bank leaves everything in the journal but the banks. -/
theorem Journal.setBank_eq (j : Journal) (i : BankId) (b : Bank) :
    j.setBank i b = { j with bank0 := (j.setBank i b).bank0, bank1 := (j.setBank i b).bank1 } := by
  cases i <;> rfl

theorem Journal.setBank_other (j : Journal) (i : BankId) (b : Bank) : (j.setBank i b).bank i.other = j.bank i.other := by
  cases i <;> rfl

theorem Journal.useSlot_eq {j : Journal} {i : BankId} (writes : j.writesTo = some i) (x : Slot) :
    j.useSlot x = j.setBank i { j.bank i with slots := (j.bank i).slots ++ [x] } := by
  unfold Journal.useSlot
  rw [writes]
  rfl

theorem Journal.writesTo_of_snapshot {j : Journal} {step : CompactionStep} (writer : j.writer = .compacting step) :
    j.writesTo = some j.newBank := by
  unfold Journal.writesTo
  rw [writer]

theorem Journal.writesTo_of_not_compacting {j : Journal} (outside : j.compacting = false) : j.writesTo = j.active := by
  unfold Journal.compacting at outside
  unfold Journal.writesTo
  split at outside
  · cases outside
  all_goals simp [*]

/-- The journal with a verified record in its slot. -/
def Journal.recorded (j : Journal) (w : RecordWrite) : Journal :=
  { j.useSlot (.complete w.subject w.image) with failures := 0, record := none }

theorem Journal.recorded_eq {j : Journal} {i : BankId} (writes : j.writesTo = some i) (w : RecordWrite) :
    j.recorded w = { j with
      bank0 := (j.recorded w).bank0, bank1 := (j.recorded w).bank1, failures := 0, record := none } := by
  unfold Journal.recorded
  rw [Journal.useSlot_eq writes, Journal.setBank_eq]

theorem Journal.recorded_bank {j : Journal} {i : BankId} (writes : j.writesTo = some i) (w : RecordWrite) :
    (j.recorded w).bank i =
      { j.bank i with slots := (j.bank i).slots ++ [.complete w.subject w.image] } ∧
      (j.recorded w).bank i.other = j.bank i.other := by
  unfold Journal.recorded
  rw [Journal.useSlot_eq writes]
  exact ⟨Journal.setBank_same _ _ _, Journal.setBank_other _ _ _⟩

theorem exec_recordWriteEnd_verified {s : State} {w : RecordWrite} (operating : s.operating = true)
    (record : s.rj.record = some w) :
    exec (.recordWriteEnd true) s = .next ((s.withRj (s.rj.recorded w)).recordWritten w) := by
  refine congrArg Host.Outcome.next ((if_pos operating).trans ?_)
  rw [record]
  rfl

/-! ## The owed list (R128, R135) -/

theorem mem_oweList {owed : List Nat} {n m : Nat} : m ∈ oweList owed n ↔ m ∈ owed ∨ m = n := by
  unfold oweList
  split
  · rename_i on
    exact ⟨.inl, fun either => either.elim id fun same => same ▸ on⟩
  · simp

theorem mem_oweAll {subjects owed : List Nat} {m : Nat} :
    m ∈ subjects.foldl oweList owed ↔ m ∈ owed ∨ m ∈ subjects := by
  induction subjects generalizing owed with
  | nil => simp
  | cons n rest ih => rw [List.foldl_cons, ih, mem_oweList, List.mem_cons, or_assoc]

theorem State.oweAll_eq (subjects : List Nat) (s : State) :
    ∃ unrecorded, subjects.foldl State.owe s =
      s.withRj { s.rj with owed := subjects.foldl oweList s.rj.owed, unrecorded := unrecorded } := by
  induction subjects generalizing s with
  | nil => exact ⟨s.rj.unrecorded, rfl⟩
  | cons n rest ih =>
    obtain ⟨unrecorded, eq⟩ := ih (s.owe n)
    exact ⟨unrecorded, eq⟩

/-- A compaction that ends without its mark: only the journal changes, and what the walk took is owed again (R135). -/
theorem State.endUnmarked_eq (s : State) :
    ∃ unrecorded, s.endUnmarked = s.withRj { s.rj with
      walkTaken := [], heldReports := [], walk := 0, operation := none
      owed := s.rj.walkTaken.foldl oweList s.rj.owed, unrecorded := unrecorded } :=
  State.oweAll_eq _ _

/-! ## Identity order (R126) -/

theorem mem_placeRising {n m : Nat} {l : List Nat} : m ∈ placeRising n l ↔ m = n ∨ m ∈ l := by
  induction l with
  | nil => simp [placeRising]
  | cons a rest ih =>
    unfold placeRising
    split
    · simp
    · simp only [List.mem_cons, ih]
      tauto

theorem mem_rising {m : Nat} {l : List Nat} : m ∈ rising l ↔ m ∈ l := by
  induction l with
  | nil => rfl
  | cons a rest ih => exact mem_placeRising.trans ((or_congr_right ih).trans List.mem_cons.symm)

/-! ## Bindings (R100 to R102) -/

theorem State.bind_su (s : State) (n k : Nat) : (s.bind n k).su = s.su := by
  unfold State.bind
  simp

theorem State.bind_channel (s : State) (n k : Nat) : (s.bind n k).re.channel k = ⟨.bound n, (s.re.channel k).strike⟩ := by
  unfold State.bind
  rw [State.notify_re, State.setCell_channel, State.setChannel_channel, if_pos rfl]

theorem State.bind_notice (s : State) (n k : Nat) :
    (s.bind n k).notice 1 = ⟨min ((s.notice 1).count + 1) 255, some (.spared n k)⟩ ∧
      ∀ j, j ≠ 1 → (s.bind n k).notice j = s.notice j := by
  have before : ∀ j, (((s.dropProving k).setChannel k ⟨.bound n, (s.re.channel k).strike⟩).setCell n (.spared k)
      (s.re.die n)).notice j = s.notice j := fun j => by
    unfold State.notice
    rw [State.setCell_nu, State.setChannel_nu, State.dropProving_nu]
  unfold State.bind
  refine ⟨?_, fun j other => ?_⟩
  · rw [State.notify_notice_of_kind _ (k := 1) rfl, before]
  · rw [State.notify_notice_of_other _ (Ne.symm other), before]

/-- A recording has its cell's and its channel's image already, so its binding owes nothing (R106). -/
theorem State.bind_rj {s : State} {n k : Nat} (agree : s.re.consistent) (waits : s.re.cell n = .pendingSpare .recording k) :
    (s.bind n k).rj = s.rj := by
  obtain ⟨channels, -⟩ := agree
  have recording := (channels n k).2.1.1 waits
  unfold State.bind
  rw [State.notify_rj, State.setCell_rj, State.setChannel_rj, State.dropProving_rj]
  · rw [State.dropProving_channel, recording]
    rfl
  · rw [State.setChannel_cell, State.dropProving_cell, waits]
    rfl
  · rw [State.setChannel_die, State.dropProving_die]

theorem State.report_binds {s : State} {w : RecordWrite} {k : Nat} (cell : w.subject < 9216)
    (waits : s.re.cell w.subject = .pendingSpare .recording k) (image : w.image = .spared k) :
    s.report w = s.bind w.subject k := by
  unfold State.report
  rw [waits, image]
  refine if_pos ?_
  rw [decide_eq_true rfl, Bool.true_and]
  exact decide_eq_true cell

theorem State.report_none {s : State} {w : RecordWrite}
    (none : (∀ k, w.image ≠ .spared k) ∨ ∀ k, s.re.cell w.subject ≠ .pendingSpare .recording k) : s.report w = s := by
  unfold State.report
  split
  · rename_i waits image
    exact none.elim (fun other => absurd image (other _)) fun other => absurd waits (other _)
  · rfl

/-- A report binds a recording or changes nothing. -/
theorem State.report_cases (s : State) (w : RecordWrite) :
    s.report w = s ∨ ∃ k, s.re.cell w.subject = .pendingSpare .recording k ∧ s.report w = s.bind w.subject k := by
  unfold State.report
  split
  · rename_i k k' waits _
    split
    · exact .inr ⟨k, waits, rfl⟩
    · exact .inl rfl
  · exact .inl rfl

theorem State.report_rj {s : State} (agree : s.re.consistent) (w : RecordWrite) : (s.report w).rj = s.rj := by
  rcases s.report_cases w with same | ⟨k, waits, binds⟩
  · rw [same]
  · rw [binds, State.bind_rj agree waits]

/-- A repair event that leaves the Sense Unit too changes the Repair Engine, the journal, the pending routes and the notices. -/
theorem State.repairOnly.frame {s u : State} (frame : s.repairOnly u) (sense : u.su = s.su) :
    u = { s with re := u.re, rj := u.rj, pp := u.pp, nu := u.nu } := by
  obtain ⟨⟨pending, clk, live, stored, ci, cm⟩, -⟩ := (State.repairOnly_iff s u).1 frame
  obtain ⟨⟩ := u
  simp only at pending clk live stored ci cm sense
  subst pending clk live stored ci cm sense
  rfl

theorem State.report_frame (s : State) (w : RecordWrite) :
    s.report w = { s with re := (s.report w).re, rj := (s.report w).rj, pp := (s.report w).pp, nu := (s.report w).nu } := by
  refine ((Kept.repairOnly s).report w s.repairOnly_refl).frame ?_
  rcases s.report_cases w with same | ⟨k, -, binds⟩
  · rw [same]
  · rw [binds, State.bind_su]

/-! ## Every recording bound (R102) -/

theorem State.bindUnrecorded_su (s : State) (n k : Nat) : (s.bindUnrecorded n k).su = s.su := s.bind_su n k

theorem State.bindRecordings_su (s : State) : s.bindRecordings.su = s.su := by
  have stays : ∀ (t : State) (p : Proving), t.su = s.su → (t.bindUnrecorded p.cell p.channel).su = s.su :=
    fun t p kept => (t.bindUnrecorded_su p.cell p.channel).trans kept
  unfold State.bindRecordings
  exact foldl_keeps (P := fun t : State => t.su = s.su) _ stays _ rfl

theorem State.bindUnrecorded_notice (s : State) (n k : Nat) {j : Nat} (other : j ≠ 1) :
    (s.bindUnrecorded n k).notice j = s.notice j := by
  obtain ⟨-, others⟩ := s.bind_notice n k
  exact (State.withRj_notice _ _ _).trans (others j other)

theorem State.bindRecordings_notice (s : State) {j : Nat} (other : j ≠ 1) : s.bindRecordings.notice j = s.notice j := by
  have stays : ∀ (t : State) (p : Proving), t.notice j = s.notice j →
      (t.bindUnrecorded p.cell p.channel).notice j = s.notice j := fun t p kept =>
    (t.bindUnrecorded_notice p.cell p.channel other).trans kept
  unfold State.bindRecordings
  exact foldl_keeps (P := fun t : State => t.notice j = s.notice j) _ stays _ rfl

theorem State.bindUnrecorded_provings (s : State) (n k : Nat) :
    (s.bindUnrecorded n k).re.provings = s.re.provings.filter fun p => decide (p.channel ≠ k) := by
  obtain ⟨-, -, -, -, -, provings⟩ := s.bind_maps n k
  exact provings

theorem State.bindAll_provings {records : List Proving} {s : State} {p : Proving}
    (on : p ∈ (records.foldl (fun t q => t.bindUnrecorded q.cell q.channel) s).re.provings) :
    p ∈ s.re.provings ∧ ∀ q ∈ records, p.channel ≠ q.channel := by
  induction records generalizing s with
  | nil => exact ⟨on, List.forall_mem_nil _⟩
  | cons q rest ih =>
    rw [List.foldl_cons] at on
    obtain ⟨left, others⟩ := ih on
    rw [State.bindUnrecorded_provings, List.mem_filter, decide_eq_true_eq] at left
    exact ⟨left.1, List.forall_mem_cons.2 ⟨left.2, others⟩⟩

/-- No recording is left waiting. -/
theorem State.bindRecordings_none_waits (s : State) : ∀ p ∈ s.bindRecordings.re.provings, p.phase ≠ .recording := by
  intro p on recording
  obtain ⟨listed, others⟩ := State.bindAll_provings on
  exact others p (List.mem_filter.2 ⟨listed, decide_eq_true recording⟩) rfl

/-! ## FULL, overflow, and a stop in a snapshot (R135, R136, R139) -/

theorem State.repairOnly.journal {s u : State} (frame : s.repairOnly u) :
    u.rj = { s.rj with owed := u.rj.owed, liveImages := u.rj.liveImages, unrecorded := u.rj.unrecorded } := by
  obtain ⟨-, -, -, journal⟩ := (State.repairOnly_iff s u).1 frame
  exact journal

/-- A writer that becomes FULL, before the recordings that wait are bound. -/
def State.fill (s : State) : State := (s.withRj { s.rj with writer := .full, due := false }).notify (.journal .full)

theorem State.enterFull_eq (s : State) : s.enterFull = s.fill.bindRecordings.noteUnable := rfl

/-- Being FULL is kept by what follows the change of the writer. -/
theorem Kept.enterFull {P : State → Prop} (K : Kept P) {s : State} (full : P s.fill) : P s.enterFull :=
  K.setUnrecorded _ (K.bindRecordings full)

theorem State.enterFull_frame (s : State) :
    s.enterFull = { s with re := s.enterFull.re, rj := s.enterFull.rj, pp := s.enterFull.pp, nu := s.enterFull.nu } :=
  ((Kept.repairOnly s.fill).enterFull s.fill.repairOnly_refl).frame s.fill.bindRecordings_su

theorem State.enterFull_rj (s : State) :
    s.enterFull.rj = { s.rj with
      writer := .full, due := false, owed := s.enterFull.rj.owed, liveImages := s.enterFull.rj.liveImages
      unrecorded := s.enterFull.rj.unrecorded } :=
  ((Kept.repairOnly s.fill).enterFull s.fill.repairOnly_refl).journal

theorem State.enterFull_notice (s : State) :
    s.enterFull.notice 14 = ⟨min ((s.notice 14).count + 1) 255, some (.journal .full)⟩ :=
  (s.fill.bindRecordings_notice (by decide)).trans (State.notify_notice_of_kind _ rfl)

/-- What an overflow finds owed, before the writer becomes FULL. -/
theorem State.overflow_eq (s : State) :
    ∃ unrecorded, s.overflow = (s.withRj { s.rj with
      walkTaken := [], heldReports := [], walk := 0, operation := none
      owed := s.nonFactory.foldl oweList (s.rj.walkTaken.foldl oweList s.rj.owed)
      unrecorded := unrecorded }).enterFull := by
  obtain ⟨taken, ended⟩ := s.endUnmarked_eq
  obtain ⟨unrecorded, owes⟩ := State.oweAll_eq s.nonFactory s.endUnmarked
  have listed : s.endUnmarked.nonFactory = s.nonFactory := by
    rw [ended]
    rfl
  rw [← listed] at owes
  unfold State.overflow
  dsimp only
  rw [owes, listed, ended]
  exact ⟨unrecorded, rfl⟩

/-- What an overflow leaves of the journal and the notices, and what it owes (R135). -/
theorem State.overflow_spec (s : State) :
    s.overflow = { s with
        re := s.overflow.re, rj := s.overflow.rj, pp := s.overflow.pp, nu := s.overflow.nu } ∧
      s.overflow.rj = { s.rj with
        writer := .full, due := false, operation := none, walkTaken := [], heldReports := [], walk := 0
        owed := s.overflow.rj.owed, liveImages := s.overflow.rj.liveImages, unrecorded := s.overflow.rj.unrecorded } ∧
      (∀ m, m ∈ s.rj.owed ∨ m ∈ s.rj.walkTaken ∨ m ∈ s.nonFactory → m ∈ s.overflow.rj.owed) ∧
      s.overflow.notice 14 = ⟨min ((s.notice 14).count + 1) 255, some (.journal .full)⟩ ∧
      ∀ p ∈ s.overflow.re.provings, p.phase ≠ .recording := by
  obtain ⟨unrecorded, eq⟩ := s.overflow_eq
  rw [eq]
  refine ⟨State.enterFull_frame _, State.enterFull_rj _, fun m listed => ?_, State.enterFull_notice _,
    State.bindRecordings_none_waits _⟩
  refine (Kept.owes m).enterFull ?_
  change m ∈ s.nonFactory.foldl oweList (s.rj.walkTaken.foldl oweList s.rj.owed)
  rw [mem_oweAll, mem_oweAll, or_assoc]
  exact listed

theorem State.holdCompaction_eq (s : State) :
    ∃ unrecorded, s.holdCompaction = s.withRj { s.rj with
      walkTaken := [], heldReports := [], walk := 0, operation := none
      owed := s.rj.walkTaken.foldl oweList s.rj.owed, unrecorded := unrecorded
      due := true, writer := .held false, stopping := false } := by
  obtain ⟨unrecorded, ended⟩ := s.endUnmarked_eq
  unfold State.holdCompaction
  rw [ended]
  exact ⟨unrecorded, rfl⟩

/-! ## The walk (R133, R134) -/

/-- With nothing left that is not factory the walk ends, and the mark's write begins. -/
theorem State.walkFrom_none {s : State} {start : Nat} (none : (s.nonFactory.find? fun n => decide (start ≤ n)) = .none) :
    s.walkFrom start = (s.walkOver start 19483).withRj { (s.walkOver start 19483).rj with
      writer := .compacting .finish, walk := 19483, operation := some .mark } := by
  unfold State.walkFrom
  rw [none]
  rfl

theorem State.walkFrom_some {s : State} {start n : Nat}
    (next : (s.nonFactory.find? fun n => decide (start ≤ n)) = some n) :
    s.walkFrom start =
      if (s.walkOver start (n + 1)).rj.canAppend then
        (s.walkOver start (n + 1)).withRj { (s.walkOver start (n + 1)).rj with walk := n, record := some ⟨n, s.imageOf n⟩ }
      else (s.walkOver start (n + 1)).overflow := by
  unfold State.walkFrom
  rw [next]

theorem State.walkOver_owed (s : State) (past stop : Nat) :
    (s.walkOver (past + 1) stop).rj.owed = s.rj.owed.filter fun m => decide (m ≤ past ∨ stop ≤ m) := by
  refine List.filter_congr fun m _ => ?_
  dsimp only
  rw [← Bool.decide_and, ← decide_not]
  refine decide_eq_decide.2 ?_
  omega

theorem State.mem_walkOver_walkTaken (s : State) (past stop m : Nat) :
    m ∈ (s.walkOver (past + 1) stop).rj.walkTaken ↔
      m ∈ s.rj.walkTaken ∨ m ∈ s.rj.owed ∧ past < m ∧ m < stop := by
  unfold State.walkOver
  rw [State.withRj_rj]
  dsimp only
  rw [List.mem_append, mem_rising, List.mem_filter, Bool.and_eq_true, decide_eq_true_eq, decide_eq_true_eq, Nat.succ_le_iff]

/-- A snapshot goes on after a record: it is held for a LOW supply, or the walk goes to the next subject. -/
def State.snapshotOn (s : State) : State := if s.rj.stopping then s.holdCompaction else s.walkFrom (s.rj.walk + 1)

theorem State.snapshotOn_stops {s : State} (stopping : s.rj.stopping = true) : s.snapshotOn = s.holdCompaction :=
  if_pos stopping

theorem State.snapshotOn_walks {s : State} (walks : s.rj.stopping = false) : s.snapshotOn = s.walkFrom (s.rj.walk + 1) :=
  if_neg (by rw [walks]; decide)

/-- The banks, the active bank and the failure count are the same. -/
def Journal.sameBanks (a b : Journal) : Prop :=
  b.bank0 = a.bank0 ∧ b.bank1 = a.bank1 ∧ b.active = a.active ∧ b.failures = a.failures

theorem Journal.sameBanks.bank {a b : Journal} (same : a.sameBanks b) (i : BankId) : b.bank i = a.bank i := by
  obtain ⟨zero, one, -⟩ := same
  cases i
  · exact zero
  · exact one

/-- A snapshot that goes on writes nothing in that event. -/
theorem State.snapshotOn_banks (s : State) : s.rj.sameBanks s.snapshotOn.rj := by
  unfold State.snapshotOn State.walkFrom
  split
  · obtain ⟨unrecorded, held⟩ := s.holdCompaction_eq
    rw [held]
    exact ⟨rfl, rfl, rfl, rfl⟩
  · split
    · rename_i n _
      dsimp only
      split
      · exact ⟨rfl, rfl, rfl, rfl⟩
      · obtain ⟨-, journal, -⟩ := (s.walkOver (s.rj.walk + 1) (n + 1)).overflow_spec
        rw [journal]
        exact ⟨rfl, rfl, rfl, rfl⟩
    · exact ⟨rfl, rfl, rfl, rfl⟩

/-! ## The end of a record write outside a snapshot (R130, R132, R138, R139) -/

/-- What the end of a record write makes of the due flag and the writer, before a stop that waits. -/
def Journal.settled (j : Journal) : Journal := { j with due := j.becomesDue, writer := j.afterWrite }

/-- The journal with a stop made that waited for the work in progress. -/
def Journal.stopped (j : Journal) : Journal :=
  if j.stopping && j.record.isNone && j.operation.isNone then { j with writer := j.writer.stopped, stopping := false }
  else j

/-- The journal that is judged unable to write. -/
def Journal.noted (j : Journal) : Journal := { j with unrecorded := j.unrecorded || (j.unable && !j.owed.isEmpty) }

theorem State.stopIfDue_eq (s : State) : s.stopIfDue = s.withRj s.rj.stopped := by
  unfold State.stopIfDue Journal.stopped
  split <;> rfl

theorem State.endWrite_eq (s : State) : s.endWrite = (s.withRj s.rj.settled.stopped.noted).reconsider := by
  unfold State.endWrite
  rw [State.stopIfDue_eq]
  rfl

theorem Journal.stopped_eq (j : Journal) :
    j.stopped = { j with writer := j.stopped.writer, stopping := j.stopped.stopping } := by
  unfold Journal.stopped
  split <;> rfl

theorem Journal.stopped_of_not_stopping {j : Journal} (goes : j.stopping = false) : j.stopped = j :=
  if_neg (by rw [goes]; exact nofun)

theorem Journal.stopped_of_stopping {j : Journal} (stopping : j.stopping = true) (record : j.record = none)
    (operation : j.operation = none) : j.stopped = { j with writer := j.writer.stopped, stopping := false } :=
  if_pos (by rw [stopping, record, operation]; rfl)

theorem Journal.becomesDue_iff {j : Journal} (outside : j.compacting = false) :
    j.becomesDue = true ↔ j.due = true ∨ 896 ≤ j.used ∧ j.blocked = false := by
  unfold Journal.becomesDue
  rw [outside, Bool.or_eq_true, Bool.not_false, Bool.and_true, Bool.and_eq_true, decide_eq_true_eq, Bool.not_eq_true']
  exact Iff.rfl

theorem Journal.free_eq (j : Journal) : j.free = if j.owed = [] then .idle else .writing := by
  unfold Journal.free
  simp only [List.isEmpty_iff]

theorem Journal.afterWrite_free {j : Journal} (writer : j.writer = .idle ∨ j.writer = .writing) :
    j.afterWrite = if j.owed = [] then .idle else .writing := by
  rw [← Journal.free_eq]
  unfold Journal.afterWrite
  rcases writer with writer | writer <;> rw [writer]

theorem Journal.afterWrite_stays {j : Journal} (writer : j.writer = .full ∨ j.writer = .erasingOld) :
    j.afterWrite = j.writer := by
  unfold Journal.afterWrite
  rcases writer with writer | writer <;> rw [writer]

/-- The journal as the end of a record write outside a snapshot leaves it. -/
def Journal.writeEnded (j : Journal) : Journal := j.settled.stopped.noted

theorem Journal.writeEnded_eq (j : Journal) :
    j.writeEnded = { j with
      due := j.becomesDue, writer := j.settled.stopped.writer, stopping := j.settled.stopped.stopping
      unrecorded := j.writeEnded.unrecorded } := by
  unfold Journal.writeEnded
  rw [Journal.stopped_eq]
  rfl

theorem Journal.writeEnded_goes_on {j : Journal} (goes : j.stopping = false) : j.writeEnded = j.settled.noted := by
  unfold Journal.writeEnded
  rw [Journal.stopped_of_not_stopping (j := j.settled) goes]

theorem Journal.writeEnded_stops {j : Journal} (stopping : j.stopping = true) (record : j.record = none)
    (operation : j.operation = none) :
    j.writeEnded = { j.settled with writer := j.afterWrite.stopped, stopping := false }.noted := by
  unfold Journal.writeEnded
  rw [Journal.stopped_of_stopping (j := j.settled) stopping record operation]
  rfl

/-- A FULL writer without an erased slot is unable to write: a subject that is owed is unrecorded (R138). -/
theorem Journal.noted_unrecorded {j : Journal} {i : BankId} (writer : j.writer = .full) (active : j.active = some i)
    (used : 1024 ≤ (j.bank i).slots.length) (owed : j.owed ≠ []) : j.noted.unrecorded = true := by
  have unable : j.unable = true := by
    unfold Journal.unable Journal.hasSlot
    rw [writer, active]
    exact congrArg not (decide_eq_false (Nat.not_lt.2 used))
  change (j.unrecorded || (j.unable && !j.owed.isEmpty)) = true
  rw [unable, List.isEmpty_eq_false_iff.2 owed]
  simp

/-! ## A good verify outside a snapshot (R100, R130) -/

/-- The state in which a record has been written and reported outside a snapshot, before its write ends. -/
def State.reported (s : State) (w : RecordWrite) : State := (s.withRj (s.rj.recorded w)).report w

theorem exec_verified_outside {s : State} {w : RecordWrite} {i : BankId} (operating : s.operating = true)
    (record : s.rj.record = some w) (active : s.rj.active = some i) (outside : s.rj.compacting = false)
    (agree : s.re.consistent) :
    exec (.recordWriteEnd true) s = .next ((s.reported w).withRj (s.rj.recorded w).writeEnded).reconsider := by
  have writes := (Journal.writesTo_of_not_compacting outside).trans active
  have apart : ¬(s.rj.recorded w).compacting = true := by
    rw [Journal.recorded_eq writes]
    exact Bool.not_eq_true _ ▸ outside
  rw [exec_recordWriteEnd_verified operating record]
  refine congrArg Host.Outcome.next ((if_neg apart).trans ?_)
  rw [State.endWrite_eq, State.report_rj (s := s.withRj (s.rj.recorded w)) agree]
  rfl

/-- What the write's end leaves of the journal, with the used count one higher. -/
theorem Journal.recorded_writeEnded {j : Journal} {i : BankId} (active : j.active = some i) (outside : j.compacting = false)
    (w : RecordWrite) :
    (j.recorded w).writeEnded.bank i = { j.bank i with slots := (j.bank i).slots ++ [.complete w.subject w.image] } ∧
      (j.recorded w).writeEnded.bank i.other = j.bank i.other ∧ (j.recorded w).writeEnded.record = none ∧
      (j.recorded w).writeEnded.failures = 0 ∧ (j.recorded w).writeEnded.active = some i ∧
      (j.recorded w).writeEnded.operation = j.operation ∧ (j.recorded w).writeEnded.owed = j.owed ∧
      (j.recorded w).writeEnded.liveImages = j.liveImages ∧
      ((j.recorded w).writeEnded.due = true ↔
        j.due = true ∨ 896 ≤ (j.bank i).slots.length + 1 ∧ j.blocked = false) := by
  have writes := (Journal.writesTo_of_not_compacting outside).trans active
  obtain ⟨own, other⟩ := Journal.recorded_bank writes w
  have eq := Journal.recorded_eq writes w
  have used : (j.recorded w).used = (j.bank i).slots.length + 1 := by
    have same : (j.recorded w).active = some i := by rw [eq, active]
    unfold Journal.used
    rw [same]
    dsimp only
    rw [own, List.length_append, List.length_singleton]
  have banks : ∀ b, (j.recorded w).writeEnded.bank b = (j.recorded w).bank b := fun b => by
    rw [Journal.writeEnded_eq]
    cases b <;> rfl
  have due := Journal.becomesDue_iff (j := j.recorded w) (by rw [eq]; exact outside)
  rw [used] at due
  refine ⟨(banks i).trans own, (banks _).trans other, ?_⟩
  rw [Journal.writeEnded_eq]
  refine ⟨?_, ?_, ?_, ?_, ?_, ?_, due.trans ?_⟩ <;> rw [eq]
  · exact active
  · exact Iff.rfl

end Sys2Proof.Machine

end

section
/-! PROOFS. O54: a good verify, in a snapshot and outside one. -/

namespace Sys2Proof.Machine

/-! ## A good verify in a snapshot (R133 to R135, R139) -/

/-- The state in which a snapshot's record has been written and its report is held back, before the walk goes on. -/
def State.heldBack (s : State) (w : RecordWrite) : State :=
  s.withRj { s.rj.recorded w with heldReports := s.rj.heldReports ++ [w] }

section

variable {s : State} {w : RecordWrite} (writer : s.rj.writer = .compacting .snapshot)
include writer

theorem State.heldBack_eq : s.heldBack w = s.withRj { s.rj with
    bank0 := (s.rj.recorded w).bank0, bank1 := (s.rj.recorded w).bank1, failures := 0, record := none
    heldReports := s.rj.heldReports ++ [w] } := by
  unfold State.heldBack
  rw [Journal.recorded_eq (Journal.writesTo_of_snapshot writer)]

theorem exec_verified_snapshot (operating : s.operating = true) (record : s.rj.record = some w) :
    exec (.recordWriteEnd true) s = .next (s.heldBack w).snapshotOn.reconsider := by
  have eq := Journal.recorded_eq (Journal.writesTo_of_snapshot writer) w
  have inside : (s.rj.recorded w).compacting = true := by
    rw [eq]
    unfold Journal.compacting
    rw [writer]
  have reports : (s.rj.recorded w).heldReports = s.rj.heldReports := by rw [eq]
  rw [exec_recordWriteEnd_verified operating record]
  refine congrArg Host.Outcome.next ((if_pos inside).trans ?_)
  unfold State.heldBack
  rw [← reports]
  rfl

theorem State.heldBack_bank :
    (s.heldBack w).rj.bank s.rj.newBank = { s.rj.bank s.rj.newBank with
      slots := (s.rj.bank s.rj.newBank).slots ++ [.complete w.subject w.image] } ∧
      (s.heldBack w).rj.bank s.rj.newBank.other = s.rj.bank s.rj.newBank.other := by
  obtain ⟨own, other⟩ := Journal.recorded_bank (Journal.writesTo_of_snapshot writer) w
  have banks : ∀ b, (s.heldBack w).rj.bank b = (s.rj.recorded w).bank b := fun b => by cases b <;> rfl
  exact ⟨(banks _).trans own, (banks _).trans other⟩

/-- What every good verify in a snapshot leaves of the banks. -/
theorem State.heldBack_banks {u : State} (here : u = (s.heldBack w).snapshotOn) :
    u.rj.failures = 0 ∧ u.rj.active = s.rj.active ∧
      u.rj.bank s.rj.newBank = { s.rj.bank s.rj.newBank with
        slots := (s.rj.bank s.rj.newBank).slots ++ [.complete w.subject w.image] } ∧
      u.rj.bank s.rj.newBank.other = s.rj.bank s.rj.newBank.other := by
  have same := (s.heldBack w).snapshotOn_banks
  rw [← here] at same
  obtain ⟨own, other⟩ := State.heldBack_bank (w := w) writer
  refine ⟨?_, ?_, (same.bank _).trans own, (same.bank _).trans other⟩
  all_goals
    obtain ⟨-, -, active, failures⟩ := same
    rw [State.heldBack_eq writer] at active failures
  · exact failures
  · exact active

/-- The new bank has room for the next record when this one did not take its last slot. -/
theorem State.heldBack_canAppend (start stop : Nat) :
    ((s.heldBack w).walkOver start stop).rj.canAppend = true ↔ (s.rj.bank s.rj.newBank).slots.length + 1 < 1024 := by
  obtain ⟨own, -⟩ := State.heldBack_bank (w := w) writer
  have writes : ((s.heldBack w).walkOver start stop).rj.writesTo = some s.rj.newBank := by
    rw [State.heldBack_eq writer]
    exact Journal.writesTo_of_snapshot writer
  have banks : ∀ b, ((s.heldBack w).walkOver start stop).rj.bank b = (s.heldBack w).rj.bank b := fun b => by cases b <;> rfl
  unfold Journal.canAppend
  rw [writes]
  dsimp only
  rw [banks, own, List.length_append, List.length_singleton, decide_eq_true_eq]
  exact Iff.rfl

/-- A stop for a LOW supply ends the compaction (R139). -/
theorem State.heldBack_stops (stopping : s.rj.stopping = true) {u : State} (here : u = (s.heldBack w).snapshotOn) :
    u = { s with rj := u.rj } ∧ u.rj.writer = .held false ∧ u.rj.due = true ∧
      u.rj.stopping = false ∧ u.rj.record = none ∧ u.rj.operation = none ∧ u.rj.heldReports = [] ∧
      ∀ m, m ∈ u.rj.owed ↔ m ∈ s.rj.owed ∨ m ∈ s.rj.walkTaken := by
  have eq := State.heldBack_eq (w := w) writer
  obtain ⟨unrecorded, held⟩ := (s.heldBack w).holdCompaction_eq
  rw [State.snapshotOn_stops (by rw [eq]; exact stopping), held, eq] at here
  rw [here]
  exact ⟨rfl, rfl, rfl, rfl, rfl, rfl, rfl, fun m => mem_oweAll⟩

variable (walks : s.rj.stopping = false)
include walks

theorem State.heldBack_walks : (s.heldBack w).snapshotOn = (s.heldBack w).walkFrom (s.rj.walk + 1) := by
  have eq := State.heldBack_eq (w := w) writer
  rw [State.snapshotOn_walks (by rw [eq]; exact walks), show (s.heldBack w).rj.walk = s.rj.walk by rw [eq]; rfl]

/-- With no subject left that is not factory the mark is written. -/
theorem State.heldBack_finishes (last : (s.nonFactory.find? fun n => decide (s.rj.walk + 1 ≤ n)) = none) {u : State}
    (here : u = (s.heldBack w).snapshotOn) :
    u = { s with rj := u.rj } ∧ u.rj.writer = .compacting .finish ∧ u.rj.operation = some .mark ∧
      u.rj.record = none ∧ u.rj.heldReports = s.rj.heldReports ++ [w] ∧
      u.rj.owed = s.rj.owed.filter (fun m => decide (m ≤ s.rj.walk ∨ 19483 ≤ m)) := by
  rw [State.heldBack_walks writer walks, State.walkFrom_none (s := s.heldBack w) last, State.heldBack_eq writer] at here
  rw [here]
  exact ⟨rfl, rfl, rfl, rfl, rfl, State.walkOver_owed s _ _⟩

variable {n : Nat} (next : (s.nonFactory.find? fun m => decide (s.rj.walk + 1 ≤ m)) = some n)
include next

/-- The walk goes on to the next subject, whose record write begins. -/
theorem State.heldBack_next (room : (s.rj.bank s.rj.newBank).slots.length + 1 < 1024) (idle : s.rj.operation = none)
    {u : State} (here : u = (s.heldBack w).snapshotOn) :
    u = { s with rj := u.rj } ∧ u.rj.writer = .compacting .snapshot ∧ u.rj.operation = none ∧ u.rj.walk = n ∧
      u.rj.record = some ⟨n, s.imageOf n⟩ ∧ u.rj.heldReports = s.rj.heldReports ++ [w] ∧
      u.rj.owed = s.rj.owed.filter (fun m => decide (m ≤ s.rj.walk ∨ n < m)) ∧
      ∀ m, m ∈ u.rj.walkTaken ↔ m ∈ s.rj.walkTaken ∨ m ∈ s.rj.owed ∧ s.rj.walk < m ∧ m ≤ n := by
  rw [State.heldBack_walks writer walks, State.walkFrom_some (s := s.heldBack w) next,
    if_pos ((State.heldBack_canAppend writer _ _).2 room), State.heldBack_eq writer] at here
  rw [here]
  refine ⟨rfl, writer, idle, rfl, rfl, rfl, State.walkOver_owed s _ _, fun m => ?_⟩
  exact (s.mem_walkOver_walkTaken _ _ m).trans (by rw [Nat.lt_succ_iff])

/-- The new bank is full: an overflow (R135). -/
theorem State.heldBack_overflows (full : 1024 ≤ (s.rj.bank s.rj.newBank).slots.length + 1)
    {u : State} (here : u = (s.heldBack w).snapshotOn) :
    u = { s with re := u.re, rj := u.rj, pp := u.pp, nu := u.nu } ∧
      u.rj.writer = .full ∧ u.rj.due = false ∧ u.rj.record = none ∧ u.rj.operation = none ∧
      u.rj.heldReports = [] ∧ u.rj.walkTaken = [] ∧
      (∀ m, m ∈ s.rj.owed ∨ m ∈ s.rj.walkTaken ∨ m ∈ s.nonFactory → m ∈ u.rj.owed) ∧
      u.notice 14 = ⟨min ((s.notice 14).count + 1) 255, some (.journal .full)⟩ ∧
      ∀ p ∈ u.re.provings, p.phase ≠ .recording := by
  rw [State.heldBack_walks writer walks, State.walkFrom_some (s := s.heldBack w) next,
    if_neg (mt (State.heldBack_canAppend writer _ _).1 (Nat.not_lt.2 full))] at here
  obtain ⟨frame, journal, owes, notice, provings⟩ :=
    ((s.heldBack w).walkOver (s.rj.walk + 1) (n + 1)).overflow_spec
  rw [← here] at frame journal owes notice provings
  have walked : ((s.heldBack w).walkOver (s.rj.walk + 1) (n + 1)).rj.record = none ∧
      ((s.heldBack w).walkOver (s.rj.walk + 1) (n + 1)).rj.owed = (s.walkOver (s.rj.walk + 1) (n + 1)).rj.owed ∧
      ((s.heldBack w).walkOver (s.rj.walk + 1) (n + 1)).rj.walkTaken =
        (s.walkOver (s.rj.walk + 1) (n + 1)).rj.walkTaken := by
    rw [State.heldBack_eq writer]
    exact ⟨rfl, rfl, rfl⟩
  obtain ⟨record, left, taken⟩ := walked
  rw [left, taken, State.walkOver_owed] at owes
  simp only [State.mem_walkOver_walkTaken, List.mem_filter, decide_eq_true_eq] at owes
  refine ⟨frame, by rw [journal], by rw [journal], by rw [journal]; exact record, by rw [journal], by rw [journal],
    by rw [journal], fun m listed => owes m ?_, notice, provings⟩
  rcases listed with owed | before | other
  · by_cases reached : s.rj.walk < m ∧ m < n + 1
    · exact .inr (.inl (.inr ⟨owed, reached⟩))
    · exact .inl ⟨owed, by omega⟩
  · exact .inr (.inl (.inl before))
  · exact .inr (.inr other)

end

/-! ## What a good verify outside a snapshot makes of the writer and the recording (R100, R130, R138, R139) -/

/-- A record's slot and a bank leave the rest of the journal. -/
theorem Journal.recorded_rest {j : Journal} {i : BankId} (writes : j.writesTo = some i) (w : RecordWrite) :
    (j.recorded w).writer = j.writer ∧ (j.recorded w).record = none ∧ (j.recorded w).owed = j.owed ∧
      (j.recorded w).stopping = j.stopping ∧ (j.recorded w).operation = j.operation ∧
      (j.recorded w).active = j.active := by
  rw [Journal.recorded_eq writes]
  exact ⟨rfl, rfl, rfl, rfl, rfl, rfl⟩

/-- A record write ends with no stop that waits. -/
theorem Journal.writeEnded_writer {j : Journal} (goes : j.stopping = false) :
    (j.writer = .idle ∨ j.writer = .writing → j.writeEnded.writer = if j.owed = [] then .idle else .writing) ∧
      (j.writer = .full ∨ j.writer = .erasingOld → j.writeEnded.writer = j.writer) := by
  rw [Journal.writeEnded_goes_on goes]
  exact ⟨Journal.afterWrite_free, Journal.afterWrite_stays⟩

theorem Journal.writeEnded_unrecorded {j : Journal} {i : BankId} (goes : j.stopping = false) (writer : j.writer = .full)
    (active : j.active = some i) (used : 1024 ≤ (j.bank i).slots.length) (owed : j.owed ≠ []) :
    j.writeEnded.unrecorded = true := by
  have banks : ∀ b, j.settled.bank b = j.bank b := fun b => by cases b <;> rfl
  rw [Journal.writeEnded_goes_on goes]
  exact Journal.noted_unrecorded ((Journal.afterWrite_stays (.inl writer)).trans writer) active (by rwa [banks]) owed

/-- A stop that waited for the record write is made (R139). -/
theorem Journal.writeEnded_held {j : Journal} (stopping : j.stopping = true) (record : j.record = none)
    (operation : j.operation = none) : j.writeEnded.stopping = false ∧
      (j.writer = .idle ∨ j.writer = .writing → j.writeEnded.writer = .held false) ∧
      (j.writer = .full → j.writeEnded.writer = .held true) := by
  rw [Journal.writeEnded_stops stopping record operation]
  refine ⟨rfl, fun writer => ?_, fun writer => ?_⟩
  · change j.afterWrite.stopped = _
    rw [Journal.afterWrite_free writer]
    split <;> rfl
  · change j.afterWrite.stopped = _
    rw [Journal.afterWrite_stays (.inl writer), writer]
    rfl

/-- A recording with the image that has been written is bound (R101). -/
theorem State.reported_binds {s : State} {w : RecordWrite} {k : Nat} (cell : w.subject < 9216)
    (waits : s.re.cell w.subject = .pendingSpare .recording k) (image : w.image = .spared k) :
    (s.reported w).re.cell w.subject = .spared k ∧ (s.reported w).re.die w.subject = s.re.die w.subject ∧
      (s.reported w).re.channel k = ⟨.bound w.subject, (s.re.channel k).strike⟩ ∧
      (∀ p ∈ (s.reported w).re.provings, p.channel ≠ k) ∧
      (s.reported w).notice 1 = ⟨min ((s.notice 1).count + 1) 255, some (.spared w.subject k)⟩ := by
  obtain ⟨cells, dies, -, -, -, provings⟩ := (s.withRj (s.rj.recorded w)).bind_maps w.subject k
  have binds : s.reported w = (s.withRj (s.rj.recorded w)).bind w.subject k := State.report_binds cell waits image
  rw [binds]
  refine ⟨(cells _).trans (if_pos rfl), dies _, State.bind_channel _ _ _, fun p on => ?_, (State.bind_notice _ _ _).1⟩
  rw [provings, List.mem_filter, decide_eq_true_eq] at on
  exact on.2

theorem State.reported_none {s : State} {w : RecordWrite}
    (none : (∀ k, w.image ≠ .spared k) ∨ ∀ k, s.re.cell w.subject ≠ .pendingSpare .recording k) :
    s.reported w = s.withRj (s.rj.recorded w) := State.report_none none

theorem State.reported_frame (s : State) (w : RecordWrite) : s.reported w = { s with
    re := (s.reported w).re, rj := (s.reported w).rj, pp := (s.reported w).pp, nu := (s.reported w).nu } :=
  (s.withRj (s.rj.recorded w)).report_frame w

/-- Settles O54: in a snapshot the report is held back and the walk goes on, ends or overflows; outside one the record is
reported, which binds its recording, and the write ends. -/
theorem aGoodVerifyBindsTheRecording : Obligations.AGoodVerifyBindsTheRecording := by
  refine ⟨fun s w operating record writer idle canonical range => ?_,
    fun s w i operating record active outside agree => ?_⟩
  · obtain ⟨failures, active, own, other⟩ := State.heldBack_banks (w := w) writer rfl
    refine ⟨_, exec_verified_snapshot writer operating record, failures, active, own, other,
      fun stopping => State.heldBack_stops writer stopping rfl,
      fun walks factory => State.heldBack_finishes writer walks (State.nonFactory_none canonical range _ factory) rfl,
      fun n subject walks past image factory => ?_⟩
    have next := State.nonFactory_next canonical range (s.rj.walk + 1) n subject past image factory
    refine ⟨fun room => State.heldBack_next writer walks next room idle rfl, fun full => ?_⟩
    have overflows := State.heldBack_overflows (w := w) writer walks next full rfl
    simp only [State.mem_nonFactory canonical range] at overflows
    exact overflows
  · obtain ⟨own, other, free, failures, bank, operation, owed, live, due⟩ :=
      Journal.recorded_writeEnded active outside w
    obtain ⟨slots, -⟩ := Journal.recorded_bank ((Journal.writesTo_of_not_compacting outside).trans active) w
    obtain ⟨writer, recorded, waiting, stopStays, operationStays, activeStays⟩ :=
      Journal.recorded_rest ((Journal.writesTo_of_not_compacting outside).trans active) w
    refine ⟨_, exec_verified_outside operating record active outside agree, ?_⟩
    rw [State.withRj_rj, State.withRj_re, State.withRj_nu, State.withRj_pp]
    refine ⟨own, other, free, failures, bank, operation,
      owed, live, due, fun frees goes => ?_, fun stays goes => ?_, fun full goes waits used => ?_,
      fun stopping none => ?_, fun k cell waits image => ?_, fun none => ?_, ?_⟩
    · exact ((Journal.writeEnded_writer (stopStays.trans goes)).1 (by rwa [writer])).trans (by rw [waiting])
    · exact ((Journal.writeEnded_writer (stopStays.trans goes)).2 (by rwa [writer])).trans writer
    · refine Journal.writeEnded_unrecorded (stopStays.trans goes) (writer.trans full) (activeStays.trans active) ?_
        (by rwa [waiting])
      rw [slots, List.length_append, List.length_singleton]
      exact used
    · have held := Journal.writeEnded_held (stopStays.trans stopping) recorded (operationStays.trans none)
      rw [writer] at held
      exact held
    · exact State.reported_binds cell waits image
    · rw [State.reported_none none]
      exact ⟨rfl, rfl, rfl⟩
    · rw [State.reported_frame]
      rfl

end Sys2Proof.Machine

end

section
/-! PROOFS. O53: the record write that the free writer begins. -/

namespace Sys2Proof.Machine

/-! ## Images (R106, R127) -/

theorem factoryImage_of_setting (i : Nat) : factoryImage (settingSubject i) = .value (Config.settingRow i).default := by
  unfold factoryImage settingSubject
  rw [if_neg (by omega), if_neg (by omega), if_neg (by omega), if_neg (by omega), Nat.add_sub_cancel_left]
  rfl

theorem dieImage_eq (d : DieState) : dieImage d = if d = .dead then .dead else .usable := by
  cases d <;> rfl

theorem channelImage_eq (c : ChannelState) : channelImage c = if c = .failed then .failed else .free := by
  cases c <;> rfl

theorem lineImage_eq (l : LineState) : lineImage l = if l = .held then .held else .normal := by
  cases l <;> rfl

/-! ## The writer's condition (R130, R132, R136, R138, R139) -/

theorem Journal.hasSlot_iff (j : Journal) :
    j.hasSlot = true ↔ ∃ i, j.active = some i ∧ (j.bank i).slots.length < 1024 := by
  unfold Journal.hasSlot
  cases j.active with
  | none => simp
  | some i => exact decide_eq_true_iff.trans ⟨fun few => ⟨i, rfl, few⟩, fun ⟨_, same, few⟩ => Option.some.inj same ▸ few⟩

theorem Journal.compacting_iff (j : Journal) : j.compacting = true ↔ ∃ step, j.writer = .compacting step := by
  unfold Journal.compacting
  cases j.writer <;> simp

theorem Journal.isHeld_iff (j : Journal) : j.isHeld = true ↔ ∃ full, j.writer = .held full := by
  unfold Journal.isHeld
  cases j.writer <;> simp

theorem Journal.blocked_iff (j : Journal) : j.blocked = true ↔ j.writer = .full ∨ j.writer = .faulted := by
  unfold Journal.blocked
  cases j.writer <;> simp

/-- What a RECORD_WRITE_START asks for. -/
theorem State.mayTake_iff (s : State) :
    s.mayTake = true ↔ (s.operating = true ∧ s.rj.record = none ∧ s.rj.stopping = false ∧ s.rj.owed ≠ [] ∧
      s.rj.hasSlot = true) ∧ ((s.rj.writer = .idle ∨ s.rj.writer = .writing ∨ s.rj.writer = .full) ∧ s.rj.due = false ∨
        s.rj.writer = .erasingOld) := by
  unfold State.mayTake
  rw [Bool.and_eq_true]
  refine and_congr (by simp [and_assoc]) ?_
  cases s.rj.writer <;> simp

/-! ## The record write that begins (R130, R134, R136) -/

section

variable {s : State} {n : Nat} {rest : List Nat} (owed : s.rj.owed = n :: rest)
include owed

/-- A writer between records, or one that resumes, is WRITING with the head's record. -/
theorem State.takeHead_writes (writer : s.rj.writer = .idle ∨ s.rj.writer = .writing ∨ ∃ full, s.rj.writer = .held full) :
    s.takeHead = s.withRj { s.rj with owed := rest, record := some ⟨n, s.imageOf n⟩, writer := .writing } := by
  unfold State.takeHead
  rw [owed]
  dsimp only
  rcases writer with state | state | ⟨full, state⟩ <;> rw [state]

/-- A FULL writer, or one that drains in ERASING-OLD, stays what it is. -/
theorem State.takeHead_stays (writer : s.rj.writer = .full ∨ s.rj.writer = .erasingOld) :
    s.takeHead = s.withRj { s.rj with owed := rest, record := some ⟨n, s.imageOf n⟩ } := by
  unfold State.takeHead
  rw [owed]
  dsimp only
  rcases writer with state | state <;> simp only [state]

end

theorem exec_recordWriteStart_takes {s : State} (may : s.mayTake = true) :
    exec .recordWriteStart s = .next s.takeHead := congrArg Host.Outcome.next (if_pos may)

theorem exec_recordWriteStart_rests {s : State} (mayNot : ¬s.mayTake = true) : exec .recordWriteStart s = .next s :=
  congrArg Host.Outcome.next (if_neg mayNot)

/-- Settles O53: the images subject by subject, and the writer's condition, which each of its exceptions fails. -/
theorem theWriterTakesTheHeadOfTheOwedList : Obligations.TheWriterTakesTheHeadOfTheOwedList := by
  refine ⟨fun s => ⟨fun n cell => ⟨?_, ?_, factoryImage_of_cell cell, factoryImage_of_die cell⟩,
    fun k channel => ⟨?_, factoryImage_of_channel channel⟩, fun l line => ⟨?_, factoryImage_of_line line⟩,
    fun i _ => ⟨s.imageOf_of_setting i, factoryImage_of_setting i⟩⟩,
    fun j => ⟨j.hasSlot_iff, j.compacting_iff, j.isHeld_iff, j.blocked_iff⟩,
    fun s => ⟨fun n rest operating free goes owed slot => ⟨fun writer undue => ?_, fun writer => ?_⟩, fun excepted => ?_⟩⟩
  · refine (s.imageOf_of_cell cell).trans ?_
    cases s.re.cell n with
    | pendingSpare phase k => cases phase <;> rfl
    | concealed reason => cases reason <;> rfl
    | healthy | suspect | condemned | spared k => rfl
  · exact (s.imageOf_of_die cell).trans (dieImage_eq _)
  · exact (s.imageOf_of_channel channel).trans (channelImage_eq _)
  · exact (s.imageOf_of_line line).trans (lineImage_eq _)
  · have may := s.mayTake_iff.2 ⟨⟨operating, free, goes, by simp [owed], slot⟩, .inl ⟨by tauto, undue⟩⟩
    rw [exec_recordWriteStart_takes may, State.takeHead_writes owed (by tauto)]
    rfl
  · have may := s.mayTake_iff.2 ⟨⟨operating, free, goes, by simp [owed], slot⟩, by tauto⟩
    rw [exec_recordWriteStart_takes may, State.takeHead_stays owed (by tauto)]
    rfl
  · refine exec_recordWriteStart_rests fun may => ?_
    rw [Journal.isHeld_iff, Journal.compacting_iff] at excepted
    obtain ⟨⟨operating, free, goes, owed, slot⟩, writer⟩ := s.mayTake_iff.1 may
    obtain off | busy | stops | none | full | ⟨due, drains⟩ | ⟨_, held⟩ | ⟨_, compacts⟩ | faulted := excepted
    · simp [off] at operating
    · exact busy free
    · simp [stops] at goes
    · exact owed none
    · simp [full] at slot
    · exact writer.elim (fun both => by simp [due] at both) drains
    · simp [held] at writer
    · simp [compacts] at writer
    · simp [faulted] at writer

end Sys2Proof.Machine

end

section
/-! PROOFS. O59: the recordings that are bound when a writer is FULL or FAULTED, and the writer that resumes. -/

namespace Sys2Proof.Machine

/-! ## A notice that has been raised stays raised (R171) -/

/-- The count of kind `k` has risen above `before`, or it stands at its limit. -/
def State.raisedFrom (t : State) (k before : Nat) : Prop := before < (t.notice k).count ∨ 255 ≤ (t.notice k).count

theorem State.notify_raises {s : State} {d : Detail} {k before : Nat} (kind : d.kind.number = k)
    (reached : before ≤ (s.notice k).count ∨ 255 ≤ (s.notice k).count) : (s.notify d).raisedFrom k before := by
  unfold State.raisedFrom
  rw [State.notify_notice_of_kind s kind]
  dsimp only
  omega

/-- An occurrence never lowers a count that is below its limit. -/
theorem State.raisedFrom.notify {s : State} {k before : Nat} (raised : s.raisedFrom k before) (d : Detail) :
    (s.notify d).raisedFrom k before := by
  by_cases kind : d.kind.number = k
  · exact State.notify_raises kind (raised.imp_left Nat.le_of_lt)
  · unfold State.raisedFrom
    rwa [State.notify_notice_of_other s kind]

theorem Kept.raisedFrom (k before : Nat) : Kept fun t => t.raisedFrom k before where
  inFlight := fun _ _ h => h
  post := fun _ _ _ h => h
  re := fun _ _ _ h => h
  rj := fun _ _ _ h => h
  notify := fun _ d h => h.notify d
  enlist := fun _ _ _ h => h
  full := Or.inr fun _ _ h => h

/-! ## Recordings bound one after another (R101, R102) -/

/-- A binding changes no strike count (R101). -/
theorem State.bind_strike (s : State) (n k j : Nat) : ((s.bind n k).re.channel j).strike = (s.re.channel j).strike := by
  unfold State.bind
  rw [State.notify_re, State.setCell_channel, State.setChannel_channel, State.dropProving_channel]
  split
  · rename_i here
    rw [here]
  · rfl

/-- The recordings of the list bound one after another. -/
def State.bindAll (s : State) (records : List Proving) : State :=
  records.foldl (fun t p => t.bindUnrecorded p.cell p.channel) s

theorem State.bindRecordings_eq (s : State) :
    s.bindRecordings = s.bindAll (s.re.provings.filter fun p => decide (p.phase = .recording)) := rfl

theorem State.bindAll_cons (s : State) (q : Proving) (rest : List Proving) :
    s.bindAll (q :: rest) = (s.bindUnrecorded q.cell q.channel).bindAll rest := rfl

theorem State.bindAll_strike (s : State) (records : List Proving) (j : Nat) :
    ((s.bindAll records).re.channel j).strike = (s.re.channel j).strike := by
  induction records generalizing s with
  | nil => rfl
  | cons q rest ih =>
    rw [State.bindAll_cons, ih]
    exact s.bind_strike q.cell q.channel j

theorem State.bindAll_records (s : State) (records : List Proving) :
    (s.bindAll records).re.provings = s.re.provings.filter fun p => decide (∀ q ∈ records, p.channel ≠ q.channel) := by
  induction records generalizing s with
  | nil => simp [State.bindAll]
  | cons q rest ih =>
    rw [State.bindAll_cons, ih, State.bindUnrecorded_provings, List.filter_filter]
    refine List.filter_congr fun p _ => ?_
    rw [← Bool.decide_and]
    exact decide_eq_decide.2 (by rw [List.forall_mem_cons, and_comm])

/-- A binding leaves what may be bound, or is bound, as such: a cell names one channel. -/
theorem RepairEngine.bindable.after_bind {s : State} {n k m j : Nat} (own : s.re.bindable n k) (binds : s.re.bindable m j) :
    (s.bindUnrecorded m j).re.bindable n k ∧ (s.re.cell n = .spared k → (s.bindUnrecorded m j).re.cell n = .spared k) := by
  obtain ⟨cells, -⟩ := s.bind_maps m j
  have cell : (s.bindUnrecorded m j).re.cell n = if m = n then .spared j else s.re.cell n := cells n
  unfold RepairEngine.bindable
  rw [cell]
  by_cases here : m = n
  · subst here
    have same : j = k := Option.some.inj (binds.named.symm.trans own.named)
    simp [same]
  · rw [if_neg here]
    exact ⟨own, id⟩

/-- Each listed recording's cell is SPARED in the end. -/
theorem State.bindAll_spared {s : State} {records : List Proving}
    (bindable : ∀ q ∈ records, s.re.bindable q.cell q.channel) {n k : Nat} (own : s.re.bindable n k)
    (bound : (∃ q ∈ records, q.cell = n) ∨ s.re.cell n = .spared k) : (s.bindAll records).re.cell n = .spared k := by
  induction records generalizing s with
  | nil => simpa [State.bindAll] using bound
  | cons q rest ih =>
    have first := bindable q List.mem_cons_self
    obtain ⟨stays, spared⟩ := own.after_bind first
    rw [State.bindAll_cons]
    refine ih (fun p on => ((bindable p (List.mem_cons_of_mem _ on)).after_bind first).1) stays ?_
    by_cases here : q.cell = n
    · have cells : ∀ m, (s.bindUnrecorded q.cell q.channel).re.cell m =
          if q.cell = m then .spared q.channel else s.re.cell m := (s.bind_maps q.cell q.channel).1
      have same : q.channel = k := Option.some.inj ((here ▸ first.named).symm.trans own.named)
      rw [cells, if_pos here, same]
      exact .inr rfl
    · refine bound.imp (fun ⟨p, on, cell⟩ => ?_) spared
      exact ⟨p, (List.mem_cons.1 on).resolve_left fun same => here (same ▸ cell), cell⟩

theorem State.bindUnrecorded_raises (s : State) (n k : Nat) :
    (s.bindUnrecorded n k).raisedFrom 1 (s.notice 1).count := by
  obtain ⟨own, -⟩ := s.bind_notice n k
  unfold State.raisedFrom State.bindUnrecorded
  rw [State.withRj_notice, own]
  dsimp only
  omega

theorem Kept.bindAll {P : State → Prop} (K : Kept P) {s : State} (records : List Proving) (h : P s) : P (s.bindAll records) := by
  induction records generalizing s with
  | nil => exact h
  | cons q rest ih => exact ih (K.bindUnrecorded q.cell q.channel h)

/-- With a recording that waits SPARED is raised, and the unrecorded flag set (R102). -/
theorem State.bindAll_announces (s : State) {records : List Proving} (some : records ≠ []) :
    (s.bindAll records).raisedFrom 1 (s.notice 1).count ∧ (s.bindAll records).rj.unrecorded = true := by
  constructor
  · obtain ⟨q, rest, rfl⟩ := List.exists_cons_of_ne_nil some
    exact (Kept.raisedFrom 1 _).bindAll rest (s.bindUnrecorded_raises q.cell q.channel)
  · obtain rfl | ⟨front, q, rfl⟩ := List.eq_nil_or_concat records
    · exact absurd rfl some
    · unfold State.bindAll
      rw [List.concat_eq_append, List.foldl_append]
      rfl

section

variable {s : State} (agree : s.re.consistent)
include agree

theorem RepairEngine.consistent.recording_bindable {p : Proving} (on : p ∈ s.re.provings) (recording : p.phase = .recording) :
    s.re.bindable p.cell p.channel := by
  have stands : s.re.cell p.cell = .pendingSpare p.phase p.channel := agree.2.1 p on
  rw [recording] at stands
  exact .inl stands

/-- Every recording that waits is bound, with its strike count as it was (R101, R102). -/
theorem State.bindRecordings_binds {p : Proving} (on : p ∈ s.re.provings) (recording : p.phase = .recording) :
    s.bindRecordings.re.cell p.cell = .spared p.channel ∧
      s.bindRecordings.re.channel p.channel = ⟨.bound p.cell, (s.re.channel p.channel).strike⟩ ∧
      s.bindRecordings.rj.unrecorded = true ∧ s.bindRecordings.raisedFrom 1 (s.notice 1).count := by
  have listed : p ∈ s.re.provings.filter fun q => decide (q.phase = .recording) :=
    List.mem_filter.2 ⟨on, decide_eq_true recording⟩
  have bindable : ∀ q ∈ s.re.provings.filter (fun q => decide (q.phase = .recording)),
      s.re.bindable q.cell q.channel := fun q waits => by
    obtain ⟨onList, waits⟩ := List.mem_filter.1 waits
    exact agree.recording_bindable onList (of_decide_eq_true waits)
  obtain ⟨raised, unrecorded⟩ := s.bindAll_announces (List.ne_nil_of_mem listed)
  have spared := State.bindAll_spared bindable (bindable p listed) (.inl ⟨p, listed, rfl⟩)
  have agreed : s.bindRecordings.re.consistent :=
    (s.bindRecordings_leads (maps := True) (numbers := False) ⟨nofun, fun _ => agree, nofun⟩).agree trivial
  have bound := (agreed.1 p.cell p.channel).2.2.1 spared
  have strike := s.bindAll_strike (s.re.provings.filter fun q => decide (q.phase = .recording)) p.channel
  refine ⟨spared, ?_, unrecorded, raised⟩
  rw [← bound, ← strike]
  rfl

/-- Only the recordings leave the list: no other proving is on a recording's channel. -/
theorem State.bindRecordings_provings :
    s.bindRecordings.re.provings = s.re.provings.filter fun p => decide (p.phase ≠ .recording) := by
  rw [State.bindRecordings_eq, State.bindAll_records]
  refine List.filter_congr fun p on => decide_eq_decide.2 ⟨fun others recording => ?_, fun other q waits same => ?_⟩
  · exact others p (List.mem_filter.2 ⟨on, decide_eq_true recording⟩) rfl
  · obtain ⟨onList, recording⟩ := List.mem_filter.1 waits
    have own : s.re.cell p.cell = .pendingSpare p.phase p.channel := agree.2.1 p on
    have recorded : s.re.cell q.cell = .pendingSpare q.phase q.channel := agree.2.1 q onList
    have cell : p.cell = q.cell := agree.alone (k := q.channel) (by rw [recorded]; rfl) (by rw [own, same]; rfl)
    rw [cell, recorded, of_decide_eq_true recording] at own
    injection own with phase
    exact other phase.symm

end

/-! ## The writer that resumes (R139) -/

theorem exec_writerResume {s : State} (operating : s.operating = true) (good : s.cm.supply = .good)
    (held : s.rj.isHeld = true) :
    exec .writerResume s = .next (s.reach (s.rj.goodSince + 1000000)).resume := by
  refine congrArg Host.Outcome.next (if_pos ?_)
  rw [operating, held, good]
  rfl

theorem exec_writerResume_waits {s : State} (waits : s.rj.isHeld = false ∨ s.cm.supply ≠ .good ∨ s.operating = false) :
    exec .writerResume s = .next s := by
  refine congrArg Host.Outcome.next (if_neg ?_)
  rw [Bool.and_eq_true, Bool.and_eq_true, decide_eq_true_eq]
  rintro ⟨⟨operating, held⟩, good⟩
  simp [operating, held, good] at waits

/-- The journal of a writer that returns to FULL, the unrecorded flag set when it has no slot for a subject owed (R138). -/
def Journal.refilled (j : Journal) : Journal :=
  { j with writer := .full, unrecorded := j.unrecorded || (!j.hasSlot && !j.owed.isEmpty) }

/-- A writer that returns to FULL, after every recording that waits is bound. -/
def State.refill (s : State) : State := ((s.withRj { s.rj with writer := .full }).bindRecordings).noteUnable

section

variable {s : State}

theorem State.resume_full (writer : s.rj.writer = .held true) : s.resume = s.refill.reconsider := by
  unfold State.resume
  rw [writer]
  rfl

theorem State.resume_due (writer : s.rj.writer = .held false) (due : s.rj.due = true) :
    s.resume = s.startCompaction.reconsider := by
  unfold State.resume
  rw [writer]
  exact if_pos due

theorem State.resume_takes (writer : s.rj.writer = .held false) (undue : s.rj.due = false) (slot : s.rj.hasSlot = true)
    (owed : s.rj.owed ≠ []) : s.resume = s.takeHead := by
  unfold State.resume
  rw [writer]
  dsimp only
  rw [undue, slot, List.isEmpty_eq_false_iff.2 owed]
  rfl

theorem State.resume_frees (writer : s.rj.writer = .held false) (undue : s.rj.due = false)
    (none : s.rj.hasSlot = false ∨ s.rj.owed = []) :
    s.resume = s.withRj { s.rj with writer := if s.rj.owed = [] then .idle else .writing } := by
  unfold State.resume
  rw [writer, ← Journal.free_eq]
  refine (if_neg (by rw [undue]; decide)).trans (if_neg ?_)
  rcases none with none | none <;> simp [none]

/-- With nothing proved no recording waits. -/
theorem State.refill_idle (idle : s.re.provings = []) : s.refill = s.withRj s.rj.refilled := by
  have none : (s.withRj { s.rj with writer := .full }).bindRecordings = s.withRj { s.rj with writer := .full } := by
    unfold State.bindRecordings
    rw [State.withRj_re, idle]
    rfl
  unfold State.refill
  rw [none]
  rfl

/-- What a return to FULL leaves alone. -/
theorem State.refill_frame (s : State) :
    s.refill = { s with re := s.refill.re, rj := s.refill.rj, pp := s.refill.pp, nu := s.refill.nu } ∧
      s.refill.rj = { s.rj with
        writer := .full, owed := s.refill.rj.owed, liveImages := s.refill.rj.liveImages
        unrecorded := s.refill.rj.unrecorded } ∧
      ∀ j, j ≠ 1 → s.refill.notice j = s.notice j := by
  have frame : (s.withRj { s.rj with writer := .full }).repairOnly s.refill :=
    (Kept.repairOnly _).setUnrecorded _ ((Kept.repairOnly _).bindRecordings (State.repairOnly_refl _))
  exact ⟨frame.frame (s.withRj { s.rj with writer := .full }).bindRecordings_su, frame.journal,
    fun j other => (s.withRj { s.rj with writer := .full }).bindRecordings_notice other⟩

theorem State.refill_binds (agree : s.re.consistent) {p : Proving} (on : p ∈ s.re.provings)
    (recording : p.phase = .recording) :
    s.refill.re.cell p.cell = .spared p.channel ∧
      s.refill.re.channel p.channel = ⟨.bound p.cell, (s.re.channel p.channel).strike⟩ ∧
      s.refill.rj.unrecorded = true ∧ s.refill.raisedFrom 1 (s.notice 1).count := by
  obtain ⟨cell, channel, unrecorded, raised⟩ :=
    State.bindRecordings_binds (s := s.withRj { s.rj with writer := .full }) agree on recording
  exact ⟨cell, channel, by simp [State.refill, State.noteUnable, unrecorded], raised⟩

theorem State.refill_provings (agree : s.re.consistent) :
    s.refill.re.provings = s.re.provings.filter fun p => decide (p.phase ≠ .recording) :=
  State.bindRecordings_provings (s := s.withRj { s.rj with writer := .full }) agree

/-- A compaction that starts erases the bank that is not active (R132, R133). -/
theorem State.startCompaction_begins (few : s.rj.liveImages ≤ 960) :
    s.startCompaction.rj.writer = .compacting .erase ∧ s.startCompaction.rj.operation = some .erase ∧
      s.startCompaction.rj.due = false ∧ s.startCompaction = s.withRj s.startCompaction.rj := by
  have begins : s.startCompaction = s.withRj { s.rj.beginErase with
      due := false, writer := .compacting .erase, walk := 0, walkTaken := [], heldReports := [] } :=
    if_neg (Nat.not_lt.2 few)
  rw [begins]
  exact ⟨rfl, rfl, rfl, rfl⟩

theorem State.startCompaction_fills (many : 960 < s.rj.liveImages) : s.startCompaction = s.enterFull := if_pos many

end

/-- Settles O59: what the writer was held with says what it resumes to. -/
theorem aHeldWriterResumesAfterASteadySecond : Obligations.AHeldWriterResumesAfterASteadySecond := by
  refine fun s => ⟨fun operating good => ?_, exec_writerResume_waits⟩
  have resumes : ∀ full, s.rj.writer = .held full →
      exec .writerResume s = .next (s.reach (s.rj.goodSince + 1000000)).resume := fun full held =>
    exec_writerResume operating good (s.rj.isHeld_iff.2 ⟨full, held⟩)
  refine ⟨fun held idle => ?_, fun held agree => ?_, fun held due few => ?_, fun held due many => ?_,
    fun n rest held undue slot owed => ?_, fun held undue owed full => ?_, fun held undue none => ?_⟩
  all_goals rw [resumes _ held]
  · rw [State.resume_full (s := s.reach _) held, State.refill_idle (s := s.reach _) idle]
    rfl
  · obtain ⟨frame, journal, others⟩ := (s.reach (s.rj.goodSince + 1000000)).refill_frame
    refine ⟨_, congrArg _ (State.resume_full (s := s.reach _) held), ?_⟩
    refine ⟨by rw [frame]; rfl, by rw [journal], by rw [frame]; rfl, by rw [journal]; rfl, by rw [journal]; rfl,
      by rw [journal]; rfl, by rw [journal]; rfl, fun p on recording => ?_, ?_, others⟩
    · exact State.refill_binds (s := s.reach _) agree on recording
    · exact State.refill_provings (s := s.reach _) agree
  · obtain ⟨writer, operation, undue, frame⟩ := State.startCompaction_begins (s := s.reach (s.rj.goodSince + 1000000)) few
    exact ⟨_, congrArg _ (State.resume_due (s := s.reach _) held due), writer, operation, undue, by rw [frame]; rfl⟩
  · have journal := (s.reach (s.rj.goodSince + 1000000)).enterFull_rj
    refine ⟨_, congrArg _ (State.resume_due (s := s.reach _) held due), ?_⟩
    rw [State.startCompaction_fills (s := s.reach _) many]
    refine ⟨by rw [journal], by rw [journal], by rw [journal]; rfl, by rw [journal]; rfl, by rw [journal]; rfl,
      State.enterFull_notice _, State.bindRecordings_none_waits _⟩
  · rw [State.resume_takes (s := s.reach _) held undue slot (by simp [State.reach, owed]),
      State.takeHead_writes (s := s.reach _) owed (.inr (.inr ⟨_, held⟩))]
    rfl
  · rw [State.resume_frees (s := s.reach _) held undue (.inl full)]
    simp [State.reach, owed]
  · rw [State.resume_frees (s := s.reach _) held undue (.inr none)]
    simp [State.reach, none]

end Sys2Proof.Machine

end

section
/-! PROOFS. O55: failed record writes and failed operations. -/

namespace Sys2Proof.Machine

/-! ## A slot left torn (R129, R131) -/

/-- The journal with the write position's slot left torn. -/
def Journal.torn (j : Journal) : Journal := j.useSlot .torn

/-- The journal after a first failed verify: the failure is counted, and a compaction may have become due (R131). -/
def Journal.failedOnce (j : Journal) : Journal := { j.torn with failures := 1, due := j.torn.becomesDue }

section

variable {j : Journal} {i : BankId} (writes : j.writesTo = some i)
include writes

theorem Journal.torn_setBank : j.torn = j.setBank i { j.bank i with slots := (j.bank i).slots ++ [.torn] } :=
  Journal.useSlot_eq writes _

theorem Journal.torn_eq : j.torn = { j with bank0 := j.torn.bank0, bank1 := j.torn.bank1 } := by
  rw [Journal.torn_setBank writes, ← Journal.setBank_eq]

theorem Journal.torn_bank : j.torn.bank i = { j.bank i with slots := (j.bank i).slots ++ [.torn] } := by
  rw [Journal.torn_setBank writes]
  exact Journal.setBank_same _ _ _

theorem Journal.torn_canAppend : j.failedOnce.canAppend = true ↔ (j.bank i).slots.length + 1 < 1024 := by
  have still : j.failedOnce.writesTo = some i := by
    unfold Journal.failedOnce
    rw [Journal.torn_eq writes]
    exact writes
  have bank : j.failedOnce.bank i = j.torn.bank i := by cases i <;> rfl
  unfold Journal.canAppend
  rw [still]
  refine decide_eq_true_iff.trans ?_
  rw [bank, Journal.torn_bank writes, List.length_append]
  rfl

/-- Outside a snapshot the torn slot is one of the active bank's (R130). -/
theorem Journal.torn_used (outside : j.compacting = false) : j.torn.used = (j.bank i).slots.length + 1 := by
  have active : j.torn.active = some i := by
    rw [Journal.torn_eq writes]
    exact (Journal.writesTo_of_not_compacting outside).symm.trans writes
  unfold Journal.used
  rw [active]
  dsimp only
  rw [Journal.torn_bank writes, List.length_append]
  rfl

/-- A torn slot of the active bank makes a compaction due at 896 used slots (R131, R132). -/
theorem Journal.torn_becomesDue : j.torn.becomesDue =
    (j.due || (!j.compacting && !j.blocked && decide (896 ≤ (j.bank i).slots.length + 1))) := by
  have same : j.torn.due = j.due ∧ j.torn.blocked = j.blocked ∧ j.torn.compacting = j.compacting := by
    rw [Journal.torn_eq writes]
    exact ⟨rfl, rfl, rfl⟩
  obtain ⟨due, blocked, compacting⟩ := same
  unfold Journal.becomesDue
  rw [due, blocked, compacting]
  cases outside : j.compacting with
  | true => simp
  | false =>
    rw [Journal.torn_used writes outside, Bool.not_false, Bool.and_true, Bool.true_and, Bool.and_comm]
    rfl

theorem Journal.failedOnce_eq : j.failedOnce = { j.setBank i { j.bank i with slots := (j.bank i).slots ++ [.torn] } with
    failures := 1
    due := j.due || (!j.compacting && !j.blocked && decide (896 ≤ (j.bank i).slots.length + 1)) } := by
  unfold Journal.failedOnce
  rw [Journal.torn_becomesDue writes, Journal.torn_setBank writes]

/-- A first failure leaves everything but the banks, the failure count and the due flag. -/
theorem Journal.failedOnce_rest : j.failedOnce = { j with
    bank0 := j.failedOnce.bank0, bank1 := j.failedOnce.bank1, failures := 1, due := j.failedOnce.due } := by
  unfold Journal.failedOnce
  rw [Journal.torn_eq writes]

theorem Journal.failedOnce_bank : j.failedOnce.bank i = { j.bank i with slots := (j.bank i).slots ++ [.torn] } := by
  rw [← Journal.torn_bank writes]
  cases i <;> rfl

end

/-! ## The failed verify (R131) -/

section

variable {s : State} {w : RecordWrite}

theorem exec_recordWriteEnd_failed (operating : s.operating = true) (record : s.rj.record = some w) :
    exec (.recordWriteEnd false) s = .next (s.recordEnd w false) := by
  refine congrArg Host.Outcome.next ((if_pos operating).trans ?_)
  rw [record]

/-- A first failure is tried again in the next slot, or was in the last one. -/
theorem State.recordEnd_first (first : s.rj.failures = 0) :
    s.recordEnd w false = if s.rj.failedOnce.canAppend then s.withRj s.rj.failedOnce
      else (s.withRj s.rj.failedOnce).lastSlotFailed w := if_pos first

theorem State.recordEnd_second (again : s.rj.failures ≠ 0) :
    s.recordEnd w false = (s.withRj s.rj.torn).secondFailure w := if_neg again

end

/-! ## A first failure without a next slot (R131, R135) -/

/-- The state in which a subject whose write has failed is owed again, no record write in progress. -/
def State.giveUp (s : State) (w : RecordWrite) : State := (s.withRj { s.rj with record := none }).owe w.subject

theorem State.giveUp_notice (s : State) (w : RecordWrite) (k : Nat) : (s.giveUp w).notice k = s.notice k := rfl

theorem State.giveUp_owes (s : State) (w : RecordWrite) : w.subject ∈ (s.giveUp w).rj.owed := oweList_self _ _

theorem State.lastSlotFailed_outside {s : State} (outside : s.rj.compacting = false) (w : RecordWrite) :
    s.lastSlotFailed w = ((s.giveUp w).withRj (s.giveUp w).rj.writeEnded).reconsider := by
  have still : ¬(s.giveUp w).rj.compacting = true := Bool.not_eq_true _ ▸ outside
  exact (if_neg still).trans (s.giveUp w).endWrite_eq

theorem State.lastSlotFailed_snapshot {s : State} (inside : s.rj.compacting = true) (w : RecordWrite) :
    s.lastSlotFailed w = (s.giveUp w).overflow.stopIfDue.reconsider := if_pos inside

/-- With a used count of 896 or more the end of a write makes a compaction due unless the writer cannot run one (R132). -/
theorem Journal.becomesDue_used {j : Journal} (used : 896 ≤ j.used) (outside : j.compacting = false) :
    j.becomesDue = (j.due || !j.blocked) := by
  unfold Journal.becomesDue
  rw [outside, decide_eq_true (show Config.dueUsed ≤ j.used from used)]
  simp

/-- A subject given up in the last slot outside a snapshot: owed again, with a compaction due (R131, R132). -/
theorem Journal.failedOnce_ended {j : Journal} {i : BankId} (writes : j.writesTo = some i) (outside : j.compacting = false)
    (full : 1024 ≤ (j.bank i).slots.length + 1) {last : Journal}
    (here : last = { j.failedOnce with record := none, owed := last.owed, unrecorded := last.unrecorded }) :
    last.writeEnded.due = (j.due || !j.blocked) ∧ last.writeEnded.bank i = j.failedOnce.bank i := by
  have eq := Journal.failedOnce_rest writes
  have same : last.blocked = j.blocked ∧ last.compacting = false ∧ last.used = j.torn.used := by
    rw [here]
    refine ⟨?_, ?_, rfl⟩ <;> rw [eq]
    · rfl
    · exact outside
  obtain ⟨blocked, apart, used⟩ := same
  have counted := Journal.torn_used writes outside
  have due : last.due = (j.due || !j.blocked) := by
    have own : last.due = j.torn.becomesDue := by
      rw [here]
      rfl
    have torn : j.torn.blocked = j.blocked ∧ j.torn.compacting = false ∧ j.torn.due = j.due := by
      rw [Journal.torn_eq writes]
      exact ⟨rfl, outside, rfl⟩
    obtain ⟨block, off, before⟩ := torn
    rw [own, Journal.becomesDue_used (by omega) off, before, block]
  constructor
  · rw [Journal.writeEnded_eq]
    change last.becomesDue = _
    rw [Journal.becomesDue_used (by omega) apart, due, blocked, Bool.or_assoc, Bool.or_self]
  · rw [Journal.writeEnded_eq, here]
    cases i <;> rfl

/-- An overflow with a stop that waits: the writer is HELD, returning to FULL (R135, R139; log 43). -/
theorem Journal.stopped_of_full {j : Journal} (full : j.writer = .full) (record : j.record = none)
    (operation : j.operation = none) :
    j.stopped = { j with writer := if j.stopping then .held true else .full, stopping := false } := by
  cases stopping : j.stopping with
  | true =>
    rw [Journal.stopped_of_stopping stopping record operation, full]
    rfl
  | false =>
    rw [Journal.stopped_of_not_stopping stopping]
    obtain ⟨⟩ := j
    simp only at full stopping
    subst full stopping
    rfl

/-- What an overflow leaves of the journal, with a stop that waits made. -/
theorem State.overflow_stopIfDue {s : State} (free : s.rj.record = none) : s.overflow.stopIfDue.rj = { s.rj with
    writer := if s.rj.stopping then .held true else .full, stopping := false, due := false, operation := none
    walkTaken := [], heldReports := [], walk := 0, owed := s.overflow.rj.owed
    liveImages := s.overflow.rj.liveImages, unrecorded := s.overflow.rj.unrecorded } := by
  obtain ⟨-, journal, -⟩ := s.overflow_spec
  have full : s.overflow.rj.writer = .full ∧ s.overflow.rj.record = none ∧ s.overflow.rj.operation = none ∧
      s.overflow.rj.stopping = s.rj.stopping := by
    rw [journal]
    exact ⟨rfl, free, rfl, rfl⟩
  obtain ⟨writer, record, operation, stopping⟩ := full
  rw [State.stopIfDue_eq, State.withRj_rj, Journal.stopped_of_full writer record operation, stopping, journal]

theorem State.stopIfDue_notice (s : State) (k : Nat) : s.stopIfDue.notice k = s.notice k := by
  rw [State.stopIfDue_eq, State.withRj_notice]

theorem State.stopIfDue_re (s : State) : s.stopIfDue.re = s.re := by
  rw [State.stopIfDue_eq, State.withRj_re]

/-! ## FAULTED (R137) -/

/-- A writer that becomes FAULTED, before the recordings that wait are bound. -/
def State.fault (s : State) : State :=
  (s.withRj { s.rj with writer := .faulted, operation := none, stopping := false }).notify (.journal .faulted)

/-- Being FAULTED is kept by what follows the change of the writer. -/
theorem Kept.enterFaulted {P : State → Prop} (K : Kept P) {s : State} (faulted : P s.fault) : P s.enterFaulted :=
  K.setUnrecorded _ (K.bindRecordings faulted)

theorem State.enterFaulted_rj (s : State) :
    s.enterFaulted.rj = { s.rj with
      writer := .faulted, operation := none, stopping := false, owed := s.enterFaulted.rj.owed
      liveImages := s.enterFaulted.rj.liveImages, unrecorded := s.enterFaulted.rj.unrecorded } :=
  ((Kept.repairOnly s.fault).enterFaulted s.fault.repairOnly_refl).journal

theorem State.enterFaulted_notice (s : State) :
    s.enterFaulted.notice 14 = ⟨min ((s.notice 14).count + 1) 255, some (.journal .faulted)⟩ :=
  (s.fault.bindRecordings_notice (by decide)).trans (State.notify_notice_of_kind _ rfl)

theorem State.enterFaulted_none_waits (s : State) : ∀ p ∈ s.enterFaulted.re.provings, p.phase ≠ .recording :=
  s.fault.bindRecordings_none_waits

/-- A FAULTED writer is unable to write: a subject that is owed is unrecorded (R138). -/
theorem State.enterFaulted_unrecorded {s : State} {n : Nat} (owed : n ∈ s.rj.owed) :
    s.enterFaulted.rj.unrecorded = true := by
  have journal := ((Kept.repairOnly s.fault).bindRecordings s.fault.repairOnly_refl).journal
  have owes : n ∈ s.fault.bindRecordings.rj.owed := (Kept.owes n).bindRecordings owed
  have unable : s.fault.bindRecordings.rj.unable = true := by
    rw [journal]
    rfl
  change (s.fault.bindRecordings.rj.unrecorded ||
    (s.fault.bindRecordings.rj.unable && !s.fault.bindRecordings.rj.owed.isEmpty)) = true
  rw [unable, List.isEmpty_eq_false_iff.2 (List.ne_nil_of_mem owes)]
  simp

/-- A compaction that is ended, if there is one, only forgets its walk; nothing that was owed is lost (R135, R137). -/
theorem State.endCompaction_eq (s : State) :
    ∃ j : Journal, s.endCompaction = s.withRj j ∧ (∀ n ∈ s.rj.owed, n ∈ j.owed) ∧ j = { s.rj with
      walkTaken := j.walkTaken, heldReports := j.heldReports, walk := j.walk, operation := j.operation
      owed := j.owed, unrecorded := j.unrecorded } := by
  obtain ⟨unrecorded, ended⟩ := s.endUnmarked_eq
  unfold State.endCompaction
  split
  · exact ⟨_, ended, fun n owed => mem_oweAll.2 (.inl owed), rfl⟩
  all_goals exact ⟨s.rj, rfl, fun _ => id, rfl⟩

/-- A record write given up for good: the compaction is ended, and the subject owed again (R137). -/
theorem State.secondFailure_eq (s : State) (w : RecordWrite) :
    ∃ j : Journal, s.secondFailure w = (s.withRj j).enterFaulted.reconsider ∧ w.subject ∈ j.owed ∧
      j = { s.rj with
        record := none, walkTaken := j.walkTaken, heldReports := j.heldReports, walk := j.walk, operation := j.operation
        owed := j.owed, unrecorded := j.unrecorded } := by
  obtain ⟨j, ended, -, eq⟩ := (s.withRj { s.rj with record := none }).endCompaction_eq
  refine ⟨((s.withRj j).owe w.subject).rj, ?_, oweList_self _ _, ?_⟩
  · unfold State.secondFailure
    rw [ended]
    rfl
  · unfold State.owe
    rw [eq]
    rfl

/-- An operation that fails: the record write in progress, if any, is abandoned and its subject owed again (R131, R137). -/
theorem State.failOperation_eq (s : State) :
    ∃ j : Journal, s.failOperation = (s.withRj j).enterFaulted.reconsider ∧ j.record = none ∧
      ∀ w, s.rj.record = some w → w.subject ∈ j.owed := by
  obtain ⟨j, ended, owes, eq⟩ := s.abandonRecord.endCompaction_eq
  have abandoned : ∃ k : Journal, s.abandonRecord = s.withRj k ∧ k.record = none ∧
      ∀ w, s.rj.record = some w → w.subject ∈ k.owed := by
    unfold State.abandonRecord
    cases record : s.rj.record with
    | none => exact ⟨s.rj, rfl, record, nofun⟩
    | some w =>
      refine ⟨((s.withRj { s.rj.useSlot .torn with record := none }).owe w.subject).rj, rfl, rfl, fun x same => ?_⟩
      cases same
      exact oweList_self _ _
  obtain ⟨k, abandoned, free, owed⟩ := abandoned
  rw [abandoned] at ended owes eq
  refine ⟨j, ?_, ?_, fun w record => owes _ (owed w record)⟩
  · unfold State.failOperation
    rw [abandoned, ended]
    rfl
  · rw [eq]
    exact free

theorem exec_operation_failed {s : State} {c : Instr} {op : Operation}
    (pair : (c, op) ∈ [(Instr.bankEraseEnd false, Operation.erase), (.headerWriteEnd false, .header),
      (.completeMarkWriteEnd false, .mark)]) (operating : s.operating = true) (operation : s.rj.operation = some op) :
    exec c s = .next s.failOperation := by
  have runs : ∀ o, s.rj.operation = some o → (s.operating && decide (s.rj.operation = some o)) = true := fun o same => by
    rw [operating, decide_eq_true same]
    rfl
  simp only [List.mem_cons, Prod.mk.injEq, List.not_mem_nil, or_false] at pair
  obtain ⟨rfl, rfl⟩ | ⟨rfl, rfl⟩ | ⟨rfl, rfl⟩ := pair <;>
    exact congrArg Host.Outcome.next (if_pos (runs _ operation))

/-- Settles O55: a first failure is tried again or gives its subject up, and a second one and a failed operation enter
FAULTED from a journal that still owes the subject. -/
theorem failedWritesAreRetriedOnceThenFaultTheWriter : Obligations.FailedWritesAreRetriedOnceThenFaultTheWriter := by
  refine ⟨fun s w i operating record writes => ?_, fun s c op pair operating operation => ?_⟩
  · rw [exec_recordWriteEnd_failed operating record]
    have bank := Journal.failedOnce_bank writes
    have rest := Journal.failedOnce_rest writes
    refine ⟨fun first room => ?_, fun first full outside => ?_, fun first full inside => ?_, fun again => ?_⟩
    · rw [State.recordEnd_first first, if_pos ((Journal.torn_canAppend writes).2 room), Journal.failedOnce_eq writes]
    · have apart : s.rj.failedOnce.compacting = false := by
        rw [rest]
        exact outside
      rw [State.recordEnd_first first, if_neg (mt (Journal.torn_canAppend writes).1 (Nat.not_lt.2 full)),
        State.lastSlotFailed_outside (s := s.withRj s.rj.failedOnce) apart]
      obtain ⟨due, own⟩ := Journal.failedOnce_ended writes outside full
        (last := ((s.withRj s.rj.failedOnce).giveUp w).rj) rfl
      refine ⟨_, rfl, ?_, ?_, ?_, due, own.trans bank, rfl, rfl, rfl⟩ <;> rw [State.withRj_rj, Journal.writeEnded_eq]
      · rfl
      · rfl
      · change oweList s.rj.failedOnce.owed w.subject = _
        rw [rest]
    · have within : s.rj.failedOnce.compacting = true := by
        rw [rest]
        exact inside
      rw [State.recordEnd_first first, if_neg (mt (Journal.torn_canAppend writes).1 (Nat.not_lt.2 full)),
        State.lastSlotFailed_snapshot (s := s.withRj s.rj.failedOnce) within]
      obtain ⟨-, -, owes, notice, waits⟩ := ((s.withRj s.rj.failedOnce).giveUp w).overflow_spec
      have journal := State.overflow_stopIfDue (s := (s.withRj s.rj.failedOnce).giveUp w) rfl
      have stopping : ((s.withRj s.rj.failedOnce).giveUp w).rj.stopping = s.rj.stopping := by
        change s.rj.failedOnce.stopping = _
        rw [rest]
      have taken : ((s.withRj s.rj.failedOnce).giveUp w).rj.walkTaken = s.rj.walkTaken := by
        change s.rj.failedOnce.walkTaken = _
        rw [rest]
      have owed := owes w.subject (.inl (State.giveUp_owes (s.withRj s.rj.failedOnce) w))
      have walked := fun n (on : n ∈ s.rj.walkTaken) => owes n (.inr (.inl (taken ▸ on)))
      rw [State.giveUp_notice, State.withRj_notice] at notice
      refine ⟨_, rfl, ?_⟩
      rw [State.stopIfDue_notice, State.stopIfDue_re, journal, stopping]
      dsimp only
      refine ⟨rfl, rfl, rfl, rfl, rfl, rfl, rfl, owed, walked, ?_, notice, waits⟩
      rw [← bank]
      cases i <;> rfl
    · obtain ⟨j, eq, owed, left⟩ := (s.withRj s.rj.torn).secondFailure_eq w
      have torn := Journal.torn_eq writes
      have journal := ((s.withRj s.rj.torn).withRj j).enterFaulted_rj
      rw [State.recordEnd_second again, eq]
      refine ⟨_, rfl, by rw [journal], ?_, ?_, (Kept.owes w.subject).enterFaulted owed,
        State.enterFaulted_unrecorded owed, ?_, by rw [State.enterFaulted_notice]; rfl, State.enterFaulted_none_waits _⟩
      · rw [journal, State.withRj_rj, left]
      · rw [journal, State.withRj_rj, left, State.withRj_rj, torn]
      · rw [journal, State.withRj_rj, left, ← Journal.torn_bank writes]
        cases i <;> rfl
  · obtain ⟨j, eq, free, owed⟩ := s.failOperation_eq
    have journal := (s.withRj j).enterFaulted_rj
    rw [exec_operation_failed pair operating operation, eq]
    exact ⟨_, rfl, by rw [journal], by rw [journal]; exact free, by rw [journal],
      fun w record => (Kept.owes w.subject).enterFaulted (owed w record), by rw [State.enterFaulted_notice]; rfl,
      State.enterFaulted_none_waits _⟩

end Sys2Proof.Machine

end

section
/-! PROOFS. O37: decisions, the channel chosen, and the reconsideration of the candidate. -/

namespace Sys2Proof.Machine

/-! ## The channel chosen in a group (R5, R6, R91) -/

theorem groupOf_site (row : Nat) {column colour : Nat} (inRow : column < 64) (inSite : colour < 3) :
    groupOf ((row * 64 + column) * 3 + colour) = row / 4 * 16 + column / 4 := by
  have site : ((row * 64 + column) * 3 + colour) / 3 = row * 64 + column := by omega
  unfold groupOf rowOf columnOf
  rw [site]
  omega

theorem mem_groupChannels (g k : Nat) : k ∈ groupChannels g ↔ g * 4 ≤ k ∧ k < g * 4 + 4 := by
  unfold groupChannels
  rw [List.mem_map]
  constructor
  · rintro ⟨i, small, rfl⟩
    have := List.mem_range.1 small
    omega
  · rintro ⟨low, high⟩
    exact ⟨k - g * 4, List.mem_range.2 (by omega), by omega⟩

theorem groupChannels_rise (g : Nat) : (groupChannels g).Pairwise (· < ·) :=
  List.pairwise_map.2 (List.pairwise_lt_range.imp fun rising => by omega)

/-- In a rising list the first number found is the lowest of those that pass. -/
theorem find?_rising {list : List Nat} (rises : list.Pairwise (· < ·)) {test : Nat → Bool} {k : Nat}
    (found : list.find? test = some k) : k ∈ list ∧ test k = true ∧ ∀ j ∈ list, j < k → test j = false := by
  obtain ⟨passes, front, back, rfl, fails⟩ := List.find?_eq_some_iff_append.1 found
  refine ⟨by simp, passes, fun j on lower => ?_⟩
  rcases List.mem_append.1 on with before | after
  · simpa using fails j before
  · have above := (List.pairwise_append.1 rises).2.1
    rcases List.mem_cons.1 after with same | behind
    · omega
    · have := (List.pairwise_cons.1 above).1 j behind
      omega

theorem RepairEngine.isFree_iff (r : RepairEngine) (k : Nat) : r.isFree k = true ↔ (r.channel k).state = .free :=
  decide_eq_true_iff

/-- No channel is chosen only where none of the group is FREE. -/
theorem RepairEngine.choose_none_iff (r : RepairEngine) (g : Nat) :
    r.choose g = none ↔ ∀ j, g * 4 ≤ j → j < g * 4 + 4 → (r.channel j).state ≠ .free := by
  have noneFree : (groupChannels g).find? r.isFree = none ↔
      ∀ j, g * 4 ≤ j → j < g * 4 + 4 → (r.channel j).state ≠ .free := by
    rw [List.find?_eq_none]
    simp only [RepairEngine.isFree_iff, mem_groupChannels, and_imp]
  unfold RepairEngine.choose
  rw [Option.or_eq_none_iff, noneFree]
  refine ⟨And.right, fun none => ⟨List.find?_eq_none.2 fun j on => ?_, none⟩⟩
  obtain ⟨low, high⟩ := (mem_groupChannels g j).1 on
  rw [Bool.and_eq_true, RepairEngine.isFree_iff]
  exact fun both => none j low high both.1

theorem RepairEngine.choose_isSome_iff (r : RepairEngine) (g : Nat) :
    (r.choose g).isSome = true ↔ ∃ k, k / 4 = g ∧ (r.channel k).state = .free := by
  rw [← Option.ne_none_iff_isSome, ne_eq, RepairEngine.choose_none_iff]
  push Not
  exact exists_congr fun k => ⟨fun ⟨low, high, free⟩ => ⟨by omega, free⟩, fun ⟨group, free⟩ => ⟨by omega, by omega, free⟩⟩

/-- The channel chosen is the lowest FREE one with strike 0, and without one the lowest FREE one. -/
theorem RepairEngine.choose_lowest {r : RepairEngine} {g k : Nat} (chosen : r.choose g = some k) :
    g * 4 ≤ k ∧ k < g * 4 + 4 ∧ (r.channel k).state = .free ∧
      ((r.channel k).strike = 0 → ∀ j, g * 4 ≤ j → j < k → ¬((r.channel j).state = .free ∧ (r.channel j).strike = 0)) ∧
      ((r.channel k).strike ≠ 0 → (∀ j, g * 4 ≤ j → j < k → (r.channel j).state ≠ .free) ∧
        ∀ j, g * 4 ≤ j → j < g * 4 + 4 → ¬((r.channel j).state = .free ∧ (r.channel j).strike = 0)) := by
  have unstruck : ∀ j, (r.isFree j && decide ((r.channel j).strike = 0)) = true ↔
      (r.channel j).state = .free ∧ (r.channel j).strike = 0 := fun j => by
    rw [Bool.and_eq_true, RepairEngine.isFree_iff, decide_eq_true_eq]
  unfold RepairEngine.choose at chosen
  obtain early | ⟨none, late⟩ := Option.or_eq_some_iff.1 chosen
  · obtain ⟨on, passes, lower⟩ := find?_rising (groupChannels_rise g) early
    obtain ⟨low, high⟩ := (mem_groupChannels g k).1 on
    obtain ⟨free, zero⟩ := (unstruck k).1 passes
    refine ⟨low, high, free, fun _ j from' below both => ?_, fun struck => absurd zero struck⟩
    have fails := lower j ((mem_groupChannels g j).2 ⟨from', by omega⟩) below
    rw [(unstruck j).2 both] at fails
    cases fails
  · obtain ⟨on, passes, lower⟩ := find?_rising (groupChannels_rise g) late
    obtain ⟨low, high⟩ := (mem_groupChannels g k).1 on
    have free := (r.isFree_iff k).1 passes
    have allStruck : ∀ j, g * 4 ≤ j → j < g * 4 + 4 → ¬((r.channel j).state = .free ∧ (r.channel j).strike = 0) :=
      fun j from' past both => List.find?_eq_none.1 none j ((mem_groupChannels g j).2 ⟨from', past⟩) ((unstruck j).2 both)
    refine ⟨low, high, free, fun zero => absurd ⟨free, zero⟩ (allStruck k low high),
      fun _ => ⟨fun j from' below open' => ?_, allStruck⟩⟩
    have fails := lower j ((mem_groupChannels g j).2 ⟨from', by omega⟩) below
    rw [(r.isFree_iff j).2 open'] at fails
    cases fails

/-! ## A die that is lost (R94, R95, R99) -/

@[simp] theorem State.setCell_notice (s : State) (n : Nat) (c : CellState) (d : DieState) (j : Nat) :
    (s.setCell n c d).notice j = s.notice j := by
  unfold State.notice
  rw [State.setCell_nu]

@[simp] theorem State.setChannel_notice (s : State) (k : Nat) (v : Channel) (j : Nat) :
    (s.setChannel k v).notice j = s.notice j := by
  unfold State.notice
  rw [State.setChannel_nu]

/-- A strike step on a channel without a strike leaves it FREE with one; one with a strike FAILED, which is a notice (R95). -/
theorem State.strike_eq (s : State) (k : Nat) :
    s.strike k = if (s.re.channel k).strike = 0 then ((s.disconnect k).dropProving k).setChannel k ⟨.free, 1⟩
      else (((s.disconnect k).dropProving k).setChannel k ⟨.failed, 0⟩).notify (.channelFailed k) := rfl

theorem State.strike_struck (s : State) (k : Nat) :
    (s.strike k).re.channel k = if (s.re.channel k).strike = 0 then ⟨.free, 1⟩ else ⟨.failed, 0⟩ := by
  rw [State.strike_eq]
  split
  · rw [State.setChannel_channel, if_pos rfl]
  · rw [State.notify_re, State.setChannel_channel, if_pos rfl]

theorem State.strike_notice (s : State) (k : Nat) :
    ((s.re.channel k).strike = 0 → ∀ j, (s.strike k).notice j = s.notice j) ∧
      ((s.re.channel k).strike ≠ 0 →
        (s.strike k).notice 4 = ⟨min ((s.notice 4).count + 1) 255, some (.channelFailed k)⟩ ∧
        ∀ j, j ≠ 4 → (s.strike k).notice j = s.notice j) := by
  have dropped : ∀ j, ((s.disconnect k).dropProving k).notice j = s.notice j := fun j => by
    unfold State.notice
    rw [State.dropProving_nu, State.disconnect_nu]
  rw [State.strike_eq]
  refine ⟨fun zero j => ?_, fun struck => ⟨?_, fun j other => ?_⟩⟩
  · rw [if_pos zero, State.setChannel_notice, dropped]
  · rw [if_neg struck, State.notify_notice_of_kind _ (k := 4) rfl, State.setChannel_notice, dropped]
  · rw [if_neg struck, State.notify_notice_of_other _ (Ne.symm other), State.setChannel_notice, dropped]

/-- A channel that FAILS is owed unless it has FAILED before (R106). -/
theorem State.strike_owes (s : State) {k : Nat} (struck : (s.re.channel k).strike ≠ 0)
    (usable : channelImage (s.re.channel k).state = .free) : channelSubject k ∈ (s.strike k).rj.owed := by
  have channel : ((s.disconnect k).dropProving k).re.channel k = s.re.channel k := by
    rw [State.dropProving_channel, State.disconnect_re]
  rw [State.strike_eq, if_neg struck, State.notify_rj, State.setChannel_owed, channel, usable, if_neg (by decide)]
  exact oweList_self _ _

/-- A changed die image is owed before its cell's (log 15). -/
theorem State.setCell_owes_die (s : State) (n : Nat) (c : CellState) (d : DieState)
    (changed : dieImage (s.re.die n) ≠ dieImage d) : dieSubject n ∈ (s.setCell n c d).rj.owed := by
  rw [State.setCell_owed]
  dsimp only
  rw [if_neg changed]
  split
  · exact oweList_self _ _
  · exact oweList_mem (oweList_self _ _)

section

variable (s : State) (n k : Nat)

theorem State.failProving_eq :
    s.failProving n k = ((s.setCell n (.concealed .dieDead) .dead).strike k).notify (.spareDieDead n) := rfl

/-- What the loss of a die leaves of the maps and lists (R94, R99). -/
theorem State.failProving_maps :
    (∀ m, (s.failProving n k).re.cell m = if n = m then .concealed .dieDead else s.re.cell m) ∧
      (∀ m, (s.failProving n k).re.die m = if n = m then .dead else s.re.die m) ∧
      (s.failProving n k).re.channel k = (if (s.re.channel k).strike = 0 then ⟨.free, 1⟩ else ⟨.failed, 0⟩) ∧
      (∀ j, j ≠ k → (s.failProving n k).re.channel j = s.re.channel j) ∧
      (s.failProving n k).re.suspects = s.re.suspects ∧
      (s.failProving n k).re.provings = s.re.provings.filter fun p => decide (p.channel ≠ k) := by
  obtain ⟨cells, dies, -, channels, -, suspects, provings⟩ := s.loseDie_maps n k
  have struck := (s.setCell n (.concealed .dieDead) .dead).strike_struck k
  rw [State.setCell_channel] at struck
  exact ⟨cells, dies, struck, fun j other => channels j (Ne.symm other), suspects, provings⟩

/-- The notices of the loss of a die: SPARE DIE DEAD, and CHANNEL FAILED with a second strike (R94, R95, R99). -/
theorem State.failProving_notice :
    (s.failProving n k).notice 3 = ⟨min ((s.notice 3).count + 1) 255, some (.spareDieDead n)⟩ ∧
      ((s.re.channel k).strike = 0 → ∀ j, j ≠ 3 → (s.failProving n k).notice j = s.notice j) ∧
      ((s.re.channel k).strike ≠ 0 →
        (s.failProving n k).notice 4 = ⟨min ((s.notice 4).count + 1) 255, some (.channelFailed k)⟩ ∧
        ∀ j, j ≠ 3 → j ≠ 4 → (s.failProving n k).notice j = s.notice j) := by
  obtain ⟨first, second⟩ := (s.setCell n (.concealed .dieDead) .dead).strike_notice k
  simp only [State.setCell_channel, State.setCell_notice] at first second
  have own : (s.failProving n k).notice 3 =
      ⟨min ((((s.setCell n (.concealed .dieDead) .dead).strike k).notice 3).count + 1) 255, some (.spareDieDead n)⟩ :=
    State.notify_notice_of_kind _ rfl
  have others : ∀ j, j ≠ 3 → (s.failProving n k).notice j =
      ((s.setCell n (.concealed .dieDead) .dead).strike k).notice j := fun j other =>
    State.notify_notice_of_other _ (Ne.symm other)
  refine ⟨?_, fun zero j other => (others j other).trans (first zero j), fun struck => ⟨?_, fun j other otherToo => ?_⟩⟩
  · rw [own]
    by_cases zero : (s.re.channel k).strike = 0
    · rw [first zero]
    · rw [(second zero).2 3 (by decide)]
  · exact (others 4 (by decide)).trans (second struck).1
  · exact (others j other).trans ((second struck).2 j otherToo)

/-- What the loss of a die owes (R106): its cell and the die when their images change, and a channel that fails. -/
theorem State.failProving_owes :
    (cellImage (s.re.cell n) ≠ .concealed .dieDead → cellSubject n ∈ (s.failProving n k).rj.owed) ∧
      (s.re.die n ≠ .dead → dieSubject n ∈ (s.failProving n k).rj.owed) ∧
      ((s.re.channel k).strike ≠ 0 → channelImage (s.re.channel k).state = .free →
        channelSubject k ∈ (s.failProving n k).rj.owed) := by
  have stays : ∀ m, m ∈ (s.setCell n (.concealed .dieDead) .dead).rj.owed → m ∈ (s.failProving n k).rj.owed :=
    fun m owed => (Kept.owes m).notify _ _ ((Kept.owes m).strike k owed)
  refine ⟨fun changed => stays _ (State.setCell_owes _ _ _ _ changed), fun alive => stays _ ?_, fun struck usable => ?_⟩
  · refine State.setCell_owes_die _ _ _ _ ?_
    rw [dieImage_eq, if_neg alive]
    decide
  · refine State.strike_owes _ ?_ ?_ <;> rw [State.setCell_channel]
    · exact struck
    · exact usable

end

/-- The decision for the condemned die of a SPARED cell is the loss of that die, on the channel the cell names (R94). -/
theorem State.decideDie_eq {s : State} {n k : Nat} (spared : s.re.cell n = .spared k) : s.decideDie n = s.failProving n k := by
  unfold State.decideDie
  rw [spared]
  rfl

/-! ## The decision for a condemned primary, outcome by outcome (R89, R90, R92, R93) -/

/-- A cell put out of use for a reason, with the notice of it. -/
def State.shelve (s : State) (n : Nat) (reason : Reason) (d : Detail) : State :=
  (s.setCell n (.concealed reason) (s.re.die n)).notify d

theorem State.setCell_own_dies (s : State) (n : Nat) (c : CellState) (m : Nat) :
    (s.setCell n c (s.re.die n)).re.die m = s.re.die m := by
  rw [State.setCell_die]
  split
  · rename_i here
    rw [here]
  · rfl

section

variable (s : State) (n : Nat) (reason : Reason) (d : Detail)

theorem State.shelve_maps :
    (∀ m, (s.shelve n reason d).re.cell m = if n = m then .concealed reason else s.re.cell m) ∧
      ∀ m, (s.shelve n reason d).re.die m = s.re.die m :=
  ⟨fun m => s.setCell_cell n _ _ m, fun m => s.setCell_own_dies n _ m⟩

theorem State.shelve_notice {k : Nat} (kind : d.kind.number = k) :
    (s.shelve n reason d).notice k = ⟨min ((s.notice k).count + 1) 255, some d⟩ ∧
      ∀ j, j ≠ k → (s.shelve n reason d).notice j = s.notice j := by
  unfold State.shelve
  refine ⟨?_, fun j other => ?_⟩
  · rw [State.notify_notice_of_kind _ kind, State.setCell_notice]
  · rw [State.notify_notice_of_other _ fun same => other (same.symm.trans kind), State.setCell_notice]

/-- A shelved cell that had the factory image owes its subject, unless a HELD line is the reason (R106). -/
theorem State.shelve_owes (durable : reason ≠ .line) (factory : cellImage (s.re.cell n) = .healthy) :
    cellSubject n ∈ (s.shelve n reason d).rj.owed := by
  refine State.setCell_owes s n (.concealed reason) _ ?_
  rw [factory]
  cases reason with
  | line => exact absurd rfl durable
  | referred | poolEmpty | dieDead | budget | unproven | ordered => decide

theorem State.shelve_repairOnly : s.repairOnly (s.shelve n reason d) :=
  (Kept.repairOnly s).notify _ _ ((Kept.repairOnly s).setCell _ _ _ s.repairOnly_refl)

end

theorem State.repairOnly.withRe {s t : State} (frame : s.repairOnly t) (v : RepairEngine) : s.repairOnly (t.withRe v) :=
  (State.repairOnly_iff _ _).2 ((State.repairOnly_iff s t).1 frame)

theorem State.repairOnly.startProving {s t : State} (frame : s.repairOnly t) (n k : Nat) :
    s.repairOnly (t.startProving n k) :=
  (Kept.repairOnly s).setCell _ _ _ (((Kept.repairOnly s).setChannel _ _ frame).withRe _)

section

variable (s : State) (n k : Nat)

/-- A proving's channel keeps its strike, and every other channel is as it was (R92). -/
theorem State.startProving_channel (j : Nat) :
    (s.startProving n k).re.channel j = if k = j then ⟨.proving n, (s.re.channel k).strike⟩ else s.re.channel j := by
  unfold State.startProving
  rw [State.setCell_channel, State.setProvings_channel, State.setChannel_channel]

theorem State.startProving_nu : (s.startProving n k).nu = s.nu := by
  unfold State.startProving State.setProvings
  rw [State.setCell_nu, State.withRe_nu, State.setChannel_nu]

theorem State.startProving_budget : (s.startProving n k).re.budget = s.re.budget := by
  unfold State.startProving State.setProvings
  rw [State.setCell_re_budget, State.withRe_re, State.setChannel_re_budget]

end

/-- The budget falls by one, and nothing else of the Repair Engine changes (R93). -/
theorem State.spendBudget_re (s : State) : s.spendBudget.re = { s.re with budget := s.re.budget - 1 } := by
  unfold State.spendBudget
  dsimp only
  split <;> rfl

theorem State.spendBudget_notice (s : State) :
    (s.re.budget = 1 → s.spendBudget.notice 6 = ⟨min ((s.notice 6).count + 1) 255, some .budgetSpent⟩) ∧
      ∀ j, j ≠ 6 ∨ s.re.budget ≠ 1 → s.spendBudget.notice j = s.notice j := by
  unfold State.spendBudget
  refine ⟨fun last => ?_, fun j apart => ?_⟩
  · rw [if_pos last]
    exact State.notify_notice_of_kind _ rfl
  · by_cases last : s.re.budget = 1
    · rw [if_pos last]
      exact State.notify_notice_of_other _ fun same => (apart.resolve_right (not_not.2 last)) same.symm
    · rw [if_neg last]
      rfl

section

variable {s : State} {n : Nat} {kind : FaultKind}

theorem State.decidePrimary_refers (refer : s.refers kind = true) :
    s.decidePrimary n kind = s.shelve n .referred (.faultReferred n .referred) := if_pos refer

variable (auto : s.refers kind = false)
include auto

theorem State.decidePrimary_dieDead (dead : s.re.die n = .dead) :
    s.decidePrimary n kind = s.shelve n .dieDead (.faultReferred n .dieDead) := by
  unfold State.decidePrimary State.shelve
  rw [auto, if_neg (by decide), if_pos dead, dead]

variable (alive : s.re.die n ≠ .dead)
include alive

theorem State.decidePrimary_budget (spent : s.re.budget = 0) :
    s.decidePrimary n kind = s.shelve n .budget (.faultReferred n .budget) := by
  unfold State.decidePrimary State.shelve
  rw [auto, if_neg (by decide), if_neg alive, if_pos spent]

variable (budget : s.re.budget ≠ 0)
include budget

theorem State.decidePrimary_poolEmpty (none : s.re.choose (groupOf n) = none) :
    s.decidePrimary n kind = s.shelve n .poolEmpty (.poolEmpty (groupOf n)) := by
  unfold State.decidePrimary State.shelve
  rw [auto, if_neg (by decide), if_neg alive, if_neg budget, none]

theorem State.decidePrimary_proves {k : Nat} (chosen : s.re.choose (groupOf n) = some k) :
    s.decidePrimary n kind = (s.startProving n k).spendBudget := by
  unfold State.decidePrimary
  rw [auto, if_neg (by decide), if_neg alive, if_neg budget, chosen]

end

/-- The outcomes of R89's table: three that refer the fault, POOL EMPTY, and a proving. -/
theorem State.decidePrimary_cases (s : State) (n : Nat) (kind : FaultKind) :
    (∃ reason ∈ [Reason.referred, .dieDead, .budget],
      s.decidePrimary n kind = s.shelve n reason (.faultReferred n reason)) ∨
    s.decidePrimary n kind = s.shelve n .poolEmpty (.poolEmpty (groupOf n)) ∨
    ∃ k, s.decidePrimary n kind = (s.startProving n k).spendBudget := by
  cases refers : s.refers kind with
  | true => exact .inl ⟨_, by simp, State.decidePrimary_refers refers⟩
  | false =>
    by_cases dead : s.re.die n = .dead
    · exact .inl ⟨_, by simp, State.decidePrimary_dieDead refers dead⟩
    · by_cases spent : s.re.budget = 0
      · exact .inl ⟨_, by simp, State.decidePrimary_budget refers dead spent⟩
      · cases chosen : s.re.choose (groupOf n) with
        | none => exact .inr (.inl (State.decidePrimary_poolEmpty refers dead spent chosen))
        | some k => exact .inr (.inr ⟨k, State.decidePrimary_proves refers dead spent chosen⟩)

/-- The cell that is put to a proving by the decision, and what the start and the budget make of it. -/
theorem State.prove_maps (s : State) (n k : Nat) :
    (∀ m, (s.startProving n k).spendBudget.re.cell m = if n = m then .pendingSpare .proving k else s.re.cell m) ∧
      (∀ m, (s.startProving n k).spendBudget.re.die m = s.re.die m) ∧
      ((s.startProving n k).spendBudget.re.channel k).state = .proving n ∧
      (s.startProving n k).spendBudget.re.provings = s.re.provings ++ [⟨n, k, .proving, 0, 0⟩] ∧
      (s.startProving n k).spendBudget.re.budget = s.re.budget - 1 := by
  obtain ⟨cells, dies, channels, -, -, provings⟩ := s.startProving_maps n k
  rw [State.spendBudget_re, ← s.startProving_budget n k]
  exact ⟨cells, dies, (channels k).trans (if_pos rfl), provings, rfl⟩

theorem State.prove_notice (s : State) (n k : Nat) :
    (s.re.budget = 1 → (s.startProving n k).spendBudget.notice 6 =
      ⟨min ((s.notice 6).count + 1) 255, some .budgetSpent⟩) ∧
      ∀ j, j ≠ 6 ∨ s.re.budget ≠ 1 → (s.startProving n k).spendBudget.notice j = s.notice j := by
  have before : ∀ j, (s.startProving n k).notice j = s.notice j := fun j => by
    unfold State.notice
    rw [State.startProving_nu]
  have spends := (s.startProving n k).spendBudget_notice
  simpa only [State.startProving_budget, before] using spends

/-- What every decision for a condemned primary leaves alone, and the notice and the owed subject of each outcome. -/
theorem State.decidePrimary_spec (s : State) (n : Nat) (kind : FaultKind) :
    (∀ reason, reason ≠ .poolEmpty → (s.decidePrimary n kind).re.cell n = .concealed reason →
      (s.decidePrimary n kind).notice 2 = ⟨min ((s.notice 2).count + 1) 255, some (.faultReferred n reason)⟩ ∧
      ∀ j, j ≠ 2 → (s.decidePrimary n kind).notice j = s.notice j) ∧
    (∀ reason, s.re.cell n = .condemned → (s.decidePrimary n kind).re.cell n = .concealed reason →
      cellSubject n ∈ (s.decidePrimary n kind).rj.owed) ∧
    ((s.decidePrimary n kind).re.cell n = .concealed .poolEmpty →
      (s.decidePrimary n kind).notice 5 = ⟨min ((s.notice 5).count + 1) 255, some (.poolEmpty (groupOf n))⟩ ∧
      ∀ j, j ≠ 5 → (s.decidePrimary n kind).notice j = s.notice j) ∧
    (∀ c, (s.decidePrimary n kind).re.cell n = .pendingSpare .proving c →
      (s.re.budget = 1 → (s.decidePrimary n kind).notice 6 =
        ⟨min ((s.notice 6).count + 1) 255, some .budgetSpent⟩) ∧
      ∀ j, j ≠ 6 ∨ s.re.budget ≠ 1 → (s.decidePrimary n kind).notice j = s.notice j) ∧
    (∀ m, m ≠ n → (s.decidePrimary n kind).re.cell m = s.re.cell m ∧ (s.decidePrimary n kind).re.die m = s.re.die m) ∧
    s.repairOnly (s.decidePrimary n kind) := by
  obtain ⟨why, listed, eq⟩ | eq | ⟨k, eq⟩ := s.decidePrimary_cases n kind
  · obtain ⟨cells, dies⟩ := s.shelve_maps n why (.faultReferred n why)
    rw [eq, cells n, if_pos rfl]
    refine ⟨fun reason _ same => ?_, fun reason condemned _ => ?_, fun same => ?_, nofun,
      fun m other => ⟨(cells m).trans (if_neg (Ne.symm other)), dies m⟩, State.shelve_repairOnly _ _ _ _⟩
    · cases same
      exact State.shelve_notice _ _ _ _ rfl
    · exact State.shelve_owes _ _ _ _ (by rintro rfl; simp at listed) (by rw [condemned]; rfl)
    · cases same
      simp at listed
  · obtain ⟨cells, dies⟩ := s.shelve_maps n .poolEmpty (.poolEmpty (groupOf n))
    rw [eq, cells n, if_pos rfl]
    refine ⟨fun reason other same => ?_, fun reason condemned _ => ?_, fun _ => State.shelve_notice _ _ _ _ rfl, nofun,
      fun m other => ⟨(cells m).trans (if_neg (Ne.symm other)), dies m⟩, State.shelve_repairOnly _ _ _ _⟩
    · cases same
      exact absurd rfl other
    · exact State.shelve_owes _ _ _ _ (by decide) (by rw [condemned]; rfl)
  · obtain ⟨cells, dies, -⟩ := s.prove_maps n k
    rw [eq, cells n, if_pos rfl]
    exact ⟨nofun, nofun, nofun, fun _ _ => s.prove_notice n k,
      fun m other => ⟨(cells m).trans (if_neg (Ne.symm other)), dies m⟩,
      (Kept.repairOnly s).spendBudget (s.repairOnly_refl.startProving n k)⟩

/-! ## The candidate and its reconsideration (R83, R84) -/

theorem State.refers_iff (s : State) :
    (s.refers .openFault = true ↔ s.setting 14 = 1) ∧ (s.refers .shortFault = true ↔ s.setting 15 = 1) ∧
      (s.refers .driftFault = true ↔ s.setting 16 = 1) :=
  ⟨decide_eq_true_iff, decide_eq_true_iff, decide_eq_true_iff⟩

theorem State.needsSlot_iff (s : State) (e : Entry) :
    s.needsSlot e = true ↔ e.unit.side = .primary ∧ s.refers e.kind = false ∧ s.re.die e.unit.cell ≠ .dead ∧
      s.re.budget ≠ 0 ∧ ∃ k, k / 4 = groupOf e.unit.cell ∧ (s.re.channel k).state = .free := by
  rw [← RepairEngine.choose_isSome_iff]
  unfold State.needsSlot
  cases e.unit.side with
  | spare => simp
  | primary => simp [and_assoc]

theorem State.candidate_none_iff (s : State) : s.candidate = none ↔ ∀ x ∈ s.re.suspects, x.evidence ≠ s.setting 13 := by
  unfold State.candidate
  rw [List.find?_eq_none]
  simp only [State.condemnedMark_eq, decide_eq_true_eq]

/-- The candidate is the first entry of the list with the threshold's evidence (R74, R83). -/
theorem State.candidate_some_iff (s : State) (e : Entry) :
    s.candidate = some e ↔ ∃ front back, s.re.suspects = front ++ e :: back ∧ e.evidence = s.setting 13 ∧
      ∀ x ∈ front, x.evidence ≠ s.setting 13 := by
  unfold State.candidate
  rw [List.find?_eq_some_iff_append]
  simp only [State.condemnedMark_eq, decide_eq_true_eq, Bool.not_eq_true', decide_eq_false_iff_not]
  constructor
  · rintro ⟨marked, front, back, list, before⟩
    exact ⟨front, back, list, marked, before⟩
  · rintro ⟨front, back, list, marked, before⟩
    exact ⟨marked, front, back, list, before⟩

/-- A decision leaves the list of entries but takes off those of its unit. -/
theorem State.decideEntry_suspects (s : State) (e : Entry) :
    (s.decideEntry e).re.suspects = s.re.suspects.filter fun x => decide (x.unit ≠ e.unit) := by
  unfold State.decideEntry
  dsimp only
  split
  · obtain ⟨why, -, eq⟩ | eq | ⟨k, eq⟩ := (s.dropEntry e.unit).decidePrimary_cases e.unit.cell e.kind <;> rw [eq]
    · exact State.setCell_re_suspects _ _ _ _
    · exact State.setCell_re_suspects _ _ _ _
    · obtain ⟨-, -, -, -, suspects, -⟩ := (s.dropEntry e.unit).startProving_maps e.unit.cell k
      rw [State.spendBudget_re]
      exact suspects
  · unfold State.decideDie State.strikeNamed
    rw [State.notify_re]
    split
    · rename_i k _
      obtain ⟨-, -, -, suspects, -⟩ :=
        ((s.dropEntry e.unit).setCell e.unit.cell (.concealed .dieDead) .dead).strike_maps k
      rw [suspects, State.setCell_re_suspects]
      rfl
    · exact State.setCell_re_suspects _ _ _ _

theorem State.decideEntry_shortens {s : State} {e : Entry} (candidate : s.candidate = some e) :
    (s.decideEntry e).re.suspects.length < s.re.suspects.length := by
  rw [State.decideEntry_suspects]
  exact List.length_filter_lt_length_iff_exists.2 ⟨e, List.mem_of_find?_eq_some candidate, by simp⟩

theorem State.takeCondemned_none {s : State} (none : s.candidate = none) (fuel : Nat) : s.takeCondemned fuel = s := by
  cases fuel with
  | zero => rfl
  | succ fuel =>
    unfold State.takeCondemned
    rw [none]

theorem State.takeCondemned_some {s : State} {e : Entry} (candidate : s.candidate = some e) (fuel : Nat) :
    s.takeCondemned (fuel + 1) =
      if s.needsSlot e && decide (8 ≤ s.re.provings.length) then s else (s.decideEntry e).takeCondemned fuel := by
  rw [State.takeCondemned, candidate]
  rfl

/-- Fuel past the number of entries makes no difference: each decision takes one off. -/
theorem State.takeCondemned_enough {fuel more : Nat} {s : State} (enough : s.re.suspects.length ≤ fuel)
    (still : s.re.suspects.length ≤ more) : s.takeCondemned fuel = s.takeCondemned more := by
  induction fuel generalizing s more with
  | zero =>
    have none : s.candidate = none := by
      unfold State.candidate
      rw [List.eq_nil_of_length_eq_zero (Nat.le_zero.1 enough)]
      rfl
    rw [State.takeCondemned_none none, State.takeCondemned_none none]
  | succ fuel ih =>
    cases candidate : s.candidate with
    | none => rw [State.takeCondemned_none candidate, State.takeCondemned_none candidate]
    | some e =>
      have shorter := State.decideEntry_shortens candidate
      obtain ⟨less, rfl⟩ : ∃ less, more = less + 1 := ⟨more - 1, by omega⟩
      rw [State.takeCondemned_some candidate, State.takeCondemned_some candidate,
        ih (s := s.decideEntry e) (more := less) (by omega) (by omega)]

/-- Reconsidering takes the candidate, unless it waits for a proving slot (R83, R84). -/
theorem State.reconsider_some {s : State} {e : Entry} (candidate : s.candidate = some e) :
    s.reconsider = if s.needsSlot e && decide (8 ≤ s.re.provings.length) then s else (s.decideEntry e).reconsider := by
  have shorter := State.decideEntry_shortens candidate
  unfold State.reconsider
  rw [State.takeCondemned_enough (le_refl _) (Nat.le_succ _), State.takeCondemned_some candidate,
    State.takeCondemned_enough shorter.le (le_refl _)]

/-- Settles O37: R89's outcomes one after another, what each of them announces and owes, the channel chosen, the loss of a
condemned die, and the candidate with its reconsideration. -/
theorem aDecisionTakesTheFirstOutcome : Obligations.ADecisionTakesTheFirstOutcome := by
  refine ⟨fun row _ column inRow colour inSite => groupOf_site row inRow inSite,
    fun s n kind => ⟨fun refer => ?_, fun auto => ⟨fun dead => ?_, fun alive => ⟨fun spent => ?_,
      fun budget => ⟨fun none => ?_, fun c chosen => ?_⟩⟩⟩, s.decidePrimary_spec n kind⟩,
    fun r g => r.choose_none_iff g, fun r g k => RepairEngine.choose_lowest, fun s n k spared => ?_,
    fun s u e here => ⟨fun primary => ?_, fun spare => ?_⟩,
    fun s => ⟨s.refers_iff.1, s.refers_iff.2.1, s.refers_iff.2.2, s.needsSlot_iff⟩,
    fun s => ⟨s.candidate_none_iff, s.candidate_some_iff⟩,
    fun s => ⟨s.reconsider_of_no_candidate, fun e candidate => ⟨fun needs full => ?_, fun may => ?_⟩⟩⟩
  · rw [State.decidePrimary_refers refer, (State.shelve_maps _ _ _ _).1, if_pos rfl]
  · rw [State.decidePrimary_dieDead auto dead, (State.shelve_maps _ _ _ _).1, if_pos rfl]
  · rw [State.decidePrimary_budget auto alive spent, (State.shelve_maps _ _ _ _).1, if_pos rfl]
  · rw [State.decidePrimary_poolEmpty auto alive budget none, (State.shelve_maps _ _ _ _).1, if_pos rfl]
  · obtain ⟨cells, -, channel, provings, left⟩ := s.prove_maps n c
    rw [State.decidePrimary_proves auto alive budget chosen]
    exact ⟨(cells n).trans (if_pos rfl), channel, provings, left⟩
  · obtain ⟨cells, dies, struck, -⟩ := s.failProving_maps n k
    obtain ⟨own, first, second⟩ := s.failProving_notice n k
    obtain ⟨cell, die, channel⟩ := s.failProving_owes n k
    rw [State.decideDie_eq spared]
    refine ⟨(cells n).trans (if_pos rfl), (dies n).trans (if_pos rfl), struck, own, first, second,
      cell (by rw [spared]; exact nofun), die, fun fails bound => channel fails (by rw [bound]; rfl),
      (Kept.repairOnly s).failProving n k s.repairOnly_refl⟩
  · rw [here]
    unfold State.decideEntry
    rw [primary]
    rfl
  · rw [here]
    unfold State.decideEntry
    rw [spare]
    rfl
  · rw [State.reconsider_some candidate, needs, decide_eq_true full]
    rfl
  · refine (State.reconsider_some candidate).trans (if_neg ?_)
    rw [Bool.and_eq_true, decide_eq_true_eq]
    rintro ⟨needs, full⟩
    rcases may with spared | room
    · rw [spared] at needs
      cases needs
    · omega

end Sys2Proof.Machine

end

section
/-! PROOFS. O44: SPARE. -/

namespace Sys2Proof.Machine

/-! ## The checks of SPARE (R108) -/

theorem CellState.mayBeSpared_iff (c : CellState) :
    c.mayBeSpared = true ↔ c = .healthy ∨ c = .suspect ∨ ∃ reason, reason ≠ .line ∧ c = .concealed reason := by
  cases c with
  | concealed reason => cases reason <;> simp [CellState.mayBeSpared]
  | healthy | suspect | condemned | pendingSpare phase k | spared k => simp [CellState.mayBeSpared]

theorem spareInRange_iff (n named : Nat) :
    spareInRange n named = true ↔ n < 9216 ∧ (named = 65535 ∨ named < 768 ∧ named / 4 = groupOf n) := by
  unfold spareInRange
  rw [Bool.and_eq_true, Bool.or_eq_true, Bool.and_eq_true, decide_eq_true_eq, decide_eq_true_eq, decide_eq_true_eq,
    decide_eq_true_eq]
  exact Iff.rfl

theorem spareOp_malformed {body : List Byte} (malformed : twoNumbers body = none) (s : State) :
    spareOp body s = s.refuse .malformed := by
  unfold spareOp
  rw [malformed]

/-- What SPARE comes to before its cell's line tallies are judged. -/
def State.spareStarted (s : State) (n k : Nat) : State := (s.dropEntry ⟨.primary, n⟩).startProving n k

/-- What SPARE comes to before the candidate is reconsidered. -/
def State.spareTaken (s : State) (n k : Nat) : State :=
  if (s.re.cell n).counted then s.spareStarted n k else (s.spareStarted n k).judgeLimits n

theorem State.takeSpare_eq (s : State) (n k : Nat) : s.takeSpare n k = (s.spareTaken n k).reconsider := rfl

section

variable {body : List Byte} {n named : Nat} (found : twoNumbers body = some (n, named)) {s : State}
include found

theorem spareOp_outOfRange (outside : ¬spareInRange n named = true) : spareOp body s = s.refuse .outOfRange := by
  unfold spareOp
  rw [found]
  exact if_pos (by simpa using outside)

variable (inside : spareInRange n named = true)
include inside

theorem spareOp_wrongState (state : ¬(s.re.cell n).mayBeSpared = true) : spareOp body s = s.refuse .wrongState := by
  unfold spareOp
  rw [found]
  dsimp only
  rw [inside, if_neg (by decide)]
  exact if_pos (by simpa using state)

variable (state : (s.re.cell n).mayBeSpared = true)
include state

theorem spareOp_dieDead (dead : s.re.die n = .dead) : spareOp body s = s.refuse .dieDead := by
  unfold spareOp
  rw [found]
  dsimp only
  rw [inside, state, if_neg (by decide), if_neg (by decide)]
  exact if_pos dead

variable (alive : s.re.die n ≠ .dead)
include alive

theorem spareOp_unserved (none : s.spareChannel n named = none) :
    spareOp body s = s.refuse (if named = 65535 then .poolEmpty else .channelTaken) := by
  unfold spareOp
  rw [found]
  dsimp only
  rw [inside, state, if_neg (by decide), if_neg (by decide), if_neg alive, none]
  rfl

theorem spareOp_served {k : Nat} (some : s.spareChannel n named = some k) :
    spareOp body s = if 8 ≤ s.re.provings.length then s.refuse .busy
      else ((s.spareTaken n k).reconsider, ⟨.accepted, byte2 k⟩) := by
  unfold spareOp
  rw [found]
  dsimp only
  rw [inside, state, if_neg (by decide), if_neg (by decide), if_neg alive, some]
  rfl

end

theorem State.spareChannel_chosen (s : State) (n : Nat) : s.spareChannel n 65535 = s.re.choose (groupOf n) := if_pos rfl

theorem State.spareChannel_named (s : State) (n : Nat) {named : Nat} (names : named ≠ 65535) :
    s.spareChannel n named = if (s.re.channel named).state = .free then some named else none := by
  refine (if_neg names).trans ?_
  by_cases free : (s.re.channel named).state = .free
  · rw [if_pos free, if_pos ((s.re.isFree_iff named).2 free)]
  · rw [if_neg free, if_neg (mt (s.re.isFree_iff named).1 free)]

/-! ## The proving that SPARE starts (R92, R107, R117) -/

/-- A hold leaves the budget (R119 to R121). -/
theorem State.hold_budget (s : State) (l : Nat) : (s.hold l).re.budget = s.re.budget := by
  have cells : ∀ list, (s.withdrawAll list (.concealed .line)).re.budget = s.re.budget := fun list =>
    foldl_keeps (P := fun t : State => t.re.budget = s.re.budget) _
      (fun t n kept => (t.withdraw_re_budget n _).trans kept) list rfl
  rw [State.hold_eq, State.notify_re, State.imageChanged_re, State.setLine_re_budget, cells]

theorem State.judgeLimits_budget (s : State) (n : Nat) : (s.judgeLimits n).re.budget = s.re.budget := by
  obtain ⟨_, _, same⟩ | ⟨_, _, same⟩ | ⟨_, _, same⟩ | ⟨_, _, same⟩ := s.judgeLimits_cases n
  · rw [same]
  · rw [same, State.hold_budget]
  · rw [same, State.hold_budget]
  · rw [same, State.hold_budget, State.hold_budget]

section

variable (s : State) (n k : Nat)

theorem State.spareStarted_repairOnly : s.repairOnly (s.spareStarted n k) :=
  State.repairOnly.startProving ((Kept.repairOnly s).dropEntry _ s.repairOnly_refl) n k

theorem State.spareStarted_budget : (s.spareStarted n k).re.budget = s.re.budget := State.startProving_budget _ _ _

theorem State.spareStarted_nu : (s.spareStarted n k).nu = s.nu := State.startProving_nu _ _ _

theorem State.spareStarted_lineLimit (l : Nat) : (s.spareStarted n k).lineLimit l = s.lineLimit l := by
  obtain ⟨⟨_, _, live, _⟩, -⟩ := (State.repairOnly_iff _ _).1 (s.spareStarted_repairOnly n k)
  exact State.setting_congr live _

/-- A PENDING-SPARE cell is counted in the tallies of its two lines (R116). -/
theorem State.spareStarted_line {l : Nat} (isLine : l = cLineOf n ∨ l = rLineOf n) :
    (s.spareStarted n k).re.line l =
      { s.re.line l with tally := movedTally (s.re.cell n).counted true (s.re.line l).tally } := by
  unfold State.spareStarted State.startProving
  rw [State.setCell_line, if_pos isLine, State.setProvings_line, State.setChannel_line, State.setProvings_cell,
    State.setChannel_cell]
  rfl

/-- What a proving that stands leaves of the maps and lists (R92, R107). -/
theorem State.spareStarted_maps :
    (s.spareStarted n k).re.cell n = .pendingSpare .proving k ∧ (s.spareStarted n k).re.die n = s.re.die n ∧
      (∀ m, m ≠ n → (s.spareStarted n k).re.cell m = s.re.cell m ∧ (s.spareStarted n k).re.die m = s.re.die m) ∧
      (s.spareStarted n k).re.channel k = ⟨.proving n, (s.re.channel k).strike⟩ ∧
      (∀ j, j ≠ k → (s.spareStarted n k).re.channel j = s.re.channel j) ∧
      (s.spareStarted n k).re.provings = s.re.provings ++ [⟨n, k, .proving, 0, 0⟩] ∧
      (s.spareStarted n k).re.suspects = s.re.suspects.filter fun e => decide (e.unit ≠ ⟨.primary, n⟩) := by
  obtain ⟨cells, dies, -, -, suspects, provings⟩ := (s.dropEntry ⟨.primary, n⟩).startProving_maps n k
  have channels := (s.dropEntry ⟨.primary, n⟩).startProving_channel n k
  exact ⟨(cells n).trans (if_pos rfl), dies n, fun m other => ⟨(cells m).trans (if_neg (Ne.symm other)), dies m⟩,
    (channels k).trans (if_pos rfl), fun j other => (channels j).trans (if_neg (Ne.symm other)), provings, suspects⟩

theorem State.spareTaken_repairOnly : s.repairOnly (s.spareTaken n k) := by
  unfold State.spareTaken
  split
  · exact s.spareStarted_repairOnly n k
  · exact (Kept.repairOnly s).judgeLimits n (s.spareStarted_repairOnly n k)

theorem State.spareTaken_budget : (s.spareTaken n k).re.budget = s.re.budget := by
  unfold State.spareTaken
  split
  · exact s.spareStarted_budget n k
  · exact (State.judgeLimits_budget _ _).trans (s.spareStarted_budget n k)

variable {s n}

/-- The proving stands where its cell was counted before, or neither line comes to its limit. -/
theorem State.spareTaken_stands (stands : (s.re.cell n).counted = true ∨
      ((s.re.line (cLineOf n)).tally + 1 < s.lineLimit (cLineOf n) ∧
        (s.re.line (rLineOf n)).tally + 1 < s.lineLimit (rLineOf n))) : s.spareTaken n k = s.spareStarted n k := by
  have below : ∀ l, l = cLineOf n ∨ l = rLineOf n → (s.re.line l).tally + 1 < s.lineLimit l →
      (s.spareStarted n k).atLimit l = false := fun l isLine room => by
    rw [Bool.eq_false_iff, ne_eq, State.atLimit_iff, State.spareStarted_line s n k isLine, State.spareStarted_lineLimit]
    rintro ⟨_, reached⟩
    have rises := movedTally_le (s.re.cell n).counted (s.re.line l).tally
    exact absurd reached (by dsimp only; omega)
  unfold State.spareTaken
  split
  · rfl
  · rename_i uncounted
    obtain ⟨belowC, belowR⟩ := stands.resolve_left uncounted
    exact State.judgeLimits_below (below _ (.inl rfl) belowC) (below _ (.inr rfl) belowR)

/-- A NORMAL line that the rise brings to its limit is held, and the cell concealed with it. -/
theorem State.spareTaken_holds {l : Nat} (isLine : l = cLineOf n ∨ l = rLineOf n) (wall : n < 9216)
    (uncounted : (s.re.cell n).counted = false) (normal : (s.re.line l).state = .normal)
    (reached : s.lineLimit l ≤ (s.re.line l).tally + 1) : HeldWith l n s (s.spareTaken n k) := by
  have atLimit : (s.spareStarted n k).atLimit l = true := by
    rw [State.atLimit_iff, State.spareStarted_line s n k isLine, State.spareStarted_lineLimit, uncounted]
    exact ⟨normal, reached⟩
  obtain ⟨line, cell, entries, raised⟩ := State.judgeLimits_holds wall isLine atLimit
  have before : (s.spareStarted n k).notice 7 = s.notice 7 := by
    unfold State.notice
    rw [State.spareStarted_nu]
  have judged : s.spareTaken n k = (s.spareStarted n k).judgeLimits n := if_neg (by rw [uncounted]; decide)
  rw [judged]
  exact ⟨line, cell, entries, before ▸ raised⟩

end

/-- Settles O44: R108's checks in their order, then the proving, which stands or falls to a held line. -/
theorem spareStartsAProving : Obligations.SpareStartsAProving := by
  intro s r serves
  have refuse : ∀ {status}, spareOp r.body (s.heard r 10) = (s.heard r 10).refuse status →
      exec (.spare r) s = .next (s.refused r 10 status) := fun answer =>
    congrArg Host.Outcome.next (serves.refuses rfl (by decide) answer)
  have same : (s.heard r 10).re = s.re := State.heard_re _ _ _
  refine ⟨fun malformed => refuse (spareOp_malformed malformed _), fun n named found => ⟨fun outside => ?_,
    fun wall inGroup => ⟨fun unhealthy unsuspected line => ?_, fun states => ⟨fun dead => ?_, fun alive =>
      ⟨fun choose none => ?_, fun free => ?_, fun names taken => ?_, fun k serving => ?_⟩⟩⟩⟩⟩
  · refine refuse (spareOp_outOfRange found ?_)
    rw [spareInRange_iff]
    omega
  all_goals have inside := (spareInRange_iff n named).2 ⟨wall, inGroup⟩
  · refine refuse (spareOp_wrongState found inside ?_)
    rw [same, CellState.mayBeSpared_iff]
    rintro (healthy | suspect | ⟨reason, other, concealed⟩)
    · exact unhealthy healthy
    · exact unsuspected suspect
    · exact other (line reason concealed)
  all_goals have state : ((s.heard r 10).re.cell n).mayBeSpared = true := by rwa [same, CellState.mayBeSpared_iff]
  · exact refuse (spareOp_dieDead found inside state (same ▸ dead))
  all_goals have living : (s.heard r 10).re.die n ≠ .dead := same ▸ alive
  · have unserved : (s.heard r 10).spareChannel n named = .none := by
      rw [choose, State.spareChannel_chosen, same, ← Option.not_isSome_iff_eq_none, RepairEngine.choose_isSome_iff]
      exact fun ⟨k, group, free⟩ => none k group free
    have answer := refuse (spareOp_unserved found inside state living unserved)
    rwa [if_pos choose] at answer
  · exact Option.isSome_iff_exists.1 ((s.re.choose_isSome_iff _).2 free)
  · have unserved : (s.heard r 10).spareChannel n named = .none := by
      rw [State.spareChannel_named _ _ names, same, if_neg taken]
    have answer := refuse (spareOp_unserved found inside state living unserved)
    rwa [if_neg names] at answer
  · have served : (s.heard r 10).spareChannel n named = some k := by
      obtain ⟨rfl, chosen⟩ | ⟨names, rfl, free⟩ := serving
      · rw [State.spareChannel_chosen, same, chosen]
      · rw [State.spareChannel_named _ _ names, same, if_pos free]
    have answer := spareOp_served found inside state living served
    rw [same] at answer
    refine ⟨fun full => refuse (answer.trans (if_pos full)), fun room => ⟨(s.heard r 10).spareTaken n k,
      congrArg Host.Outcome.next (serves.does rfl (by decide) (answer.trans (if_neg (Nat.not_le.2 room)))),
      State.spareTaken_repairOnly _ _ _, (State.spareTaken_budget _ _ _).trans (by rw [same]),
      fun stands => ?_, fun l isLine uncounted normal reached => ?_⟩⟩
    · have maps := (s.heard r 10).spareStarted_maps n k
      have limits : ∀ l, (s.heard r 10).lineLimit l = s.lineLimit l := fun l => State.heard_setting _ _ _ _
      rw [State.spareTaken_stands k (by rwa [same, limits, limits])]
      obtain ⟨cell, die, others, channel, channels, provings, suspects⟩ := maps
      rw [same] at die others channel channels provings suspects
      exact ⟨cell, die, others, channel, channels, provings, suspects,
        (State.spareStarted_nu _ _ _).trans (State.heard_nu _ _ _)⟩
    · have limit : (s.heard r 10).lineLimit l = s.lineLimit l := State.heard_setting _ _ _ _
      have lines : l = cLineOf n ∨ l = rLineOf n := by simpa using isLine
      obtain ⟨line, cell, -, raised⟩ := State.spareTaken_holds (s := s.heard r 10) k lines wall (by rwa [same])
        (by rwa [same]) (by rwa [same, limit])
      rw [State.heard_notice] at raised
      exact ⟨cell, line, raised⟩

end Sys2Proof.Machine

end

section
/-! PROOFS. O38: PROVING verdicts, and the verdicts that change nothing. -/

namespace Sys2Proof.Machine

/-! ## Verdicts that reach the maps, and stale ones (R76, R97) -/

section

variable {s : State} {v : Verdict}

/-- A PROVING verdict reaches the proving of its cell on its channel. -/
theorem State.handVerdict_proving {k : Nat} (purpose : v.purpose = .proving) (channel : v.channel = some k)
    (proving : (s.re.channel k).state = .proving v.unit.cell) :
    s.handVerdict v = (s.provingVerdict v.unit.cell k v.cls).reconsider := by
  unfold State.handVerdict
  rw [purpose, channel]
  exact if_pos proving

theorem State.handVerdict_provingStale (purpose : v.purpose = .proving)
    (ended : ∀ k, v.channel = some k → (s.re.channel k).state ≠ .proving v.unit.cell) : s.handVerdict v = s := by
  unfold State.handVerdict
  rw [purpose]
  cases channel : v.channel with
  | none => rfl
  | some k => exact if_neg (ended k channel)

theorem State.handVerdict_retestStale (purpose : v.purpose = .retest)
    (condemned : ∀ e, s.re.entry v.unit = some e → e.evidence = s.setting 13) : s.handVerdict v = s := by
  unfold State.handVerdict
  rw [purpose]
  cases listed : s.re.entry v.unit with
  | none => rfl
  | some e => exact if_pos ((s.condemnedMark_eq e).trans (decide_eq_true (condemned e listed)))

theorem State.handVerdict_unlisted (purpose : v.purpose = .sweep ∨ v.purpose = .survey)
    (listsNone : v.cls = .good ∨ s.re.qualifies v.unit = false) : s.handVerdict v = s := by
  obtain ⟨u, purpose', cls, _, _, _, _⟩ := v
  dsimp only at purpose listsNone
  rcases purpose with rfl | rfl
  all_goals
    cases cls with
    | good => rfl
    | bad k => exact if_neg (by simpa using listsNone)

end

/-! ## A proving's verdict, case by case (R97 to R99) -/

section

variable {s : State} {p : Proving} {n k : Nat}

theorem State.provingVerdict_first (listed : s.re.provings.find? (fun q => decide (q.channel = k)) = some p)
    (none : p.goodRun = 0) : s.provingVerdict n k .good = s.changeProving k fun q => { q with goodRun := 1 } := by
  unfold State.provingVerdict
  rw [listed]
  exact if_pos none

theorem State.provingVerdict_second (listed : s.re.provings.find? (fun q => decide (q.channel = k)) = some p)
    (run : p.goodRun ≠ 0) : s.provingVerdict n k .good = s.passProving n k := by
  unfold State.provingVerdict
  rw [listed]
  exact if_neg run

theorem State.provingVerdict_bad (kind : FaultKind) : s.provingVerdict n k (.bad kind) = s.failProving n k := by
  unfold State.provingVerdict
  rfl

end

section

variable (s : State) (n k : Nat)

/-- Passing clears the strike count of the channel, and no other channel changes (R98). -/
theorem State.startRecording_channel (j : Nat) :
    (s.startRecording n k).re.channel j = if k = j then ⟨.recording n, 0⟩ else s.re.channel j := by
  unfold State.startRecording State.changeProving
  rw [State.setCell_channel, State.setProvings_channel, State.setChannel_channel]

theorem State.startRecording_nu : (s.startRecording n k).nu = s.nu := by
  unfold State.startRecording State.changeProving
  rw [State.setCell_nu]
  exact s.setChannel_nu k _

/-- Passing owes the cell, whose image becomes its SPARED one (R100, R106). -/
theorem State.startRecording_owes (proving : s.re.cell n = .pendingSpare .proving k) :
    cellSubject n ∈ (s.startRecording n k).rj.owed := by
  refine State.setCell_owes _ n (.pendingSpare .recording k) _ ?_
  have before : ((s.setChannel k ⟨.recording n, 0⟩).changeProving k fun p => { p with phase := .recording }).re.cell n =
      .pendingSpare .proving k := by
    unfold State.changeProving
    rw [State.setProvings_cell, State.setChannel_cell, proving]
  rw [before]
  exact nofun

theorem State.startRecording_repairOnly : s.repairOnly (s.startRecording n k) :=
  (Kept.repairOnly s).setCell _ _ _ ((Kept.repairOnly s).changeProving _ _ ((Kept.repairOnly s).setChannel _ _ s.repairOnly_refl))

theorem State.startRecording_blocked : (s.startRecording n k).rj.blocked = s.rj.blocked := by
  obtain ⟨-, -, -, journal⟩ := (State.repairOnly_iff _ _).1 (s.startRecording_repairOnly n k)
  rw [journal]
  rfl

theorem State.bindUnrecorded_re : (s.bindUnrecorded n k).re = (s.bind n k).re := rfl

theorem State.bind_channel_other {j : Nat} (other : j ≠ k) : (s.bind n k).re.channel j = s.re.channel j := by
  unfold State.bind
  rw [State.notify_re, State.setCell_channel, State.setChannel_channel, if_neg (Ne.symm other), State.dropProving_channel]

end

section

variable {s : State} {n k : Nat}

theorem State.passProving_records (free : s.rj.blocked = false) : s.passProving n k = s.startRecording n k := by
  rw [State.passProving_eq, State.startRecording_blocked, free]
  rfl

theorem State.passProving_binds (blocked : s.rj.blocked = true) :
    s.passProving n k = (s.startRecording n k).bindUnrecorded n k := by
  rw [State.passProving_eq, State.startRecording_blocked]
  exact if_pos blocked

end

section

variable (s : State) (n k : Nat)

/-- What a proving that passes beside a FULL or FAULTED writer leaves of the maps and lists (R98, R101, R102). -/
theorem State.recordedAndBound_maps :
    let t := (s.startRecording n k).bindUnrecorded n k
    (∀ m, t.re.cell m = if n = m then .spared k else s.re.cell m) ∧
      (∀ m, t.re.die m = if n = m then .good else s.re.die m) ∧
      (∀ j, t.re.channel j = if k = j then ⟨.bound n, 0⟩ else s.re.channel j) ∧
      t.re.suspects = s.re.suspects ∧ ∀ q ∈ t.re.provings, q.channel ≠ k := by
  obtain ⟨cells, dies, -, -, suspects, -⟩ := s.startRecording_maps n k
  obtain ⟨boundCells, boundDies, -, -, boundSuspects, boundProvings⟩ := (s.startRecording n k).bind_maps n k
  dsimp only
  rw [State.bindUnrecorded_re]
  refine ⟨fun m => ?_, fun m => (boundDies m).trans (dies m), fun j => ?_, boundSuspects.trans suspects, fun q on => ?_⟩
  · rw [boundCells, cells]
    split
    · rfl
    · rfl
  · split
    · rename_i own
      subst own
      rw [State.bind_channel, s.startRecording_channel, if_pos rfl]
    · rename_i other
      rw [State.bind_channel_other _ _ _ (Ne.symm other), s.startRecording_channel, if_neg other]
  · rw [boundProvings, List.mem_filter, decide_eq_true_eq] at on
    exact on.2

theorem State.recordedAndBound_notice :
    let t := (s.startRecording n k).bindUnrecorded n k
    t.notice 1 = ⟨min ((s.notice 1).count + 1) 255, some (.spared n k)⟩ ∧ ∀ j, j ≠ 1 → t.notice j = s.notice j := by
  have before : ∀ j, (s.startRecording n k).notice j = s.notice j := fun j => by
    unfold State.notice
    rw [State.startRecording_nu]
  obtain ⟨own, -⟩ := (s.startRecording n k).bind_notice n k
  refine ⟨?_, fun j other => (State.bindUnrecorded_notice _ n k other).trans (before j)⟩
  unfold State.bindUnrecorded
  rw [State.withRj_notice, own, before]

end

/-- Settles O38: the gap's end by the purpose of the verdict, and the proving's verdict by its class and the writer. -/
theorem twoGoodVerdictsPassAProving : Obligations.TwoGoodVerdictsPassAProving := by
  refine ⟨?_, ?_, ?_⟩
  · intro s m u purpose channel ticks regulated cls raw isOpen inFlight granted count classified
    have blocks := s.verdictTallied_blocks m u cls (compensated raw m.temp (s.setting 9))
    have ended := exec_rowGapEnd_unit isOpen inFlight granted count rfl classified
    obtain ⟨-, unmeasured⟩ := s.verdictTallied_su m u cls (compensated raw m.temp (s.setting 9))
    have notices := fun j => s.verdictTallied_notice m u cls (compensated raw m.temp (s.setting 9)) (k := j)
    generalize s.verdictTallied m u cls (compensated raw m.temp (s.setting 9)) = t at blocks ended unmeasured notices
    have re : t.re = s.re := by rw [blocks]
    have live : t.live = s.live := by rw [blocks]
    have stays {v : Verdict} (same : t.handVerdict v = t) (ended : exec (.rowGapEnd ticks regulated) s =
        .next (t.handVerdict v)) : exec (.rowGapEnd ticks regulated) s = .next t := by rw [ended, same]
    refine ⟨t, blocks, unmeasured, notices, fun k proving named state => ?_, fun stale => stays ?_ ended⟩
    · rw [ended, State.handVerdict_proving proving named (by rwa [re])]
    · obtain ⟨proving, past⟩ | ⟨retest, condemned⟩ | ⟨sweeps, none⟩ := stale
      · exact State.handVerdict_provingStale proving (by rwa [re])
      · exact State.handVerdict_retestStale retest (by rwa [re, State.setting_congr live])
      · exact State.handVerdict_unlisted sweeps (by rwa [re])
  · intro s p t listed run proving blocked taken
    have frame := (Kept.repairOnly s).provingVerdict p.cell p.channel .good s.repairOnly_refl
    rw [← taken] at frame
    rw [State.provingVerdict_second listed run, State.passProving_binds blocked] at taken
    obtain ⟨cells, dies, channels, suspects, provings⟩ := s.recordedAndBound_maps p.cell p.channel
    obtain ⟨own, others⟩ := s.recordedAndBound_notice p.cell p.channel
    have owed := (Kept.owes (cellSubject p.cell)).bindUnrecorded p.cell p.channel
      (s.startRecording_owes p.cell p.channel proving)
    subst taken
    exact ⟨frame, (cells _).trans (if_pos rfl), (dies _).trans (if_pos rfl), (channels _).trans (if_pos rfl), provings,
      suspects, fun n other => ⟨(cells n).trans (if_neg (Ne.symm other)), (dies n).trans (if_neg (Ne.symm other))⟩,
      fun j other => (channels j).trans (if_neg (Ne.symm other)), owed, rfl, own, others⟩
  · intro s p verdict t listed proving free taken
    have frame := (Kept.repairOnly s).provingVerdict p.cell p.channel verdict s.repairOnly_refl
    rw [← taken] at frame
    refine ⟨frame, ?_⟩
    cases verdict with
    | bad kind =>
      rw [State.provingVerdict_bad] at taken
      obtain ⟨cells, dies, channel, channels, suspects, provings⟩ := s.failProving_maps p.cell p.channel
      obtain ⟨own, unstruck, struck⟩ := s.failProving_notice p.cell p.channel
      obtain ⟨cellOwed, dieOwed, -⟩ := s.failProving_owes p.cell p.channel
      subst taken
      refine ⟨fun n other => ⟨(cells n).trans (if_neg (Ne.symm other)), (dies n).trans (if_neg (Ne.symm other))⟩,
        channels, suspects, nofun, nofun, nofun, fun _ _ => ⟨provings, (cells _).trans (if_pos rfl),
          (dies _).trans (if_pos rfl), channel, cellOwed ?_, dieOwed, own, unstruck, struck⟩⟩
      rw [proving]
      exact nofun
    | good =>
      by_cases first : p.goodRun = 0
      · rw [State.provingVerdict_first listed first] at taken
        subst taken
        exact ⟨fun _ _ => ⟨rfl, rfl⟩, fun _ _ => rfl, rfl, fun _ => rfl, fun _ _ => ⟨rfl, rfl, rfl⟩,
          fun _ run => absurd first run, nofun⟩
      · rw [State.provingVerdict_second listed first, State.passProving_records free] at taken
        obtain ⟨cells, dies, -, -, suspects, provings⟩ := s.startRecording_maps p.cell p.channel
        have channels := s.startRecording_channel p.cell p.channel
        have owed := s.startRecording_owes p.cell p.channel proving
        have nu := s.startRecording_nu p.cell p.channel
        subst taken
        exact ⟨fun n other => ⟨(cells n).trans (if_neg (Ne.symm other)), (dies n).trans (if_neg (Ne.symm other))⟩,
          fun j other => (channels j).trans (if_neg (Ne.symm other)), suspects, fun _ => nu, fun _ none => absurd none first,
          fun _ _ => ⟨provings, (cells _).trans (if_pos rfl), (dies _).trans (if_pos rfl), (channels _).trans (if_pos rfl),
            owed⟩, nofun⟩

end Sys2Proof.Machine

end

section
/-! PROOFS. O30: a proving that is 120 frames old. -/

namespace Sys2Proof.Machine

/-- A leading change keeps the maps in agreement, whatever the numbers are. -/
theorem Leads.consistent {s t : State} (leads : Leads True False s t) (agree : s.re.consistent) : t.re.consistent :=
  (leads ⟨nofun, fun _ => agree, nofun⟩).agree trivial

/-! ## What a timed-out cell and its channel come to (R104) -/

/-- The channel has the strike count it had and serves no SPARED cell. -/
def RepairEngine.unbound (r : RepairEngine) (k strike : Nat) : Prop :=
  (r.channel k).strike = strike ∧ ∀ m, (r.channel k).state ≠ .bound m

/-- The maps agree, the cell is CONCEALED(UNPROVEN), and its channel is unbound with the strike count it had. -/
def RepairEngine.timedOut (r : RepairEngine) (n k strike : Nat) : Prop :=
  r.consistent ∧ r.cell n = .concealed .unproven ∧ r.unbound k strike

theorem RepairEngine.unbound.of_channel {r r' : RepairEngine} {k strike : Nat} (unbound : r.unbound k strike)
    (same : r'.channel k = r.channel k) : r'.unbound k strike := by
  unfold RepairEngine.unbound
  rwa [same]

/-- No record is left of the proving of a cell that has timed out. -/
theorem RepairEngine.timedOut.unproved {r : RepairEngine} {n k strike : Nat} (out : r.timedOut n k strike) :
    ∀ q ∈ r.provings, q.cell ≠ n := by
  obtain ⟨⟨-, provings, -⟩, cell, -⟩ := out
  rintro q listed rfl
  cases cell.symm.trans (provings q listed)

/-- No entry is listed of a cell that has timed out. -/
theorem RepairEngine.timedOut.unlisted {r : RepairEngine} {n k strike : Nat} (out : r.timedOut n k strike) {e : Entry}
    (listed : e ∈ r.suspects) : e.unit.cell ≠ n := by
  obtain ⟨⟨-, -, suspects, -⟩, cell, -⟩ := out
  have serves : r.serves e.unit := RepairEngine.entryAgrees.serves (suspects e listed)
  rintro rfl
  obtain ⟨⟨side, n⟩, _⟩ := e
  cases side with
  | primary => simp [RepairEngine.serves, cell] at serves
  | spare => simp [RepairEngine.serves, cell, CellState.isSpared] at serves

/-! ## Timeouts one after another -/

section

variable (s : State) (p : Proving)

theorem State.timeOut_cell (m : Nat) :
    (s.timeOut p).re.cell m = if p.cell = m then .concealed .unproven else s.re.cell m := by
  obtain ⟨-, -, -, own, -, others, -⟩ := s.withdraw_withdrawn p.cell (.concealed .unproven)
  split
  · rename_i here
    exact here ▸ own
  · rename_i other
    exact (others m (Ne.symm other)).1

/-- A timeout frees the channel of its cell with its strike kept, and no other channel changes. -/
theorem State.timeOut_unbound {k strike : Nat} (unbound : s.re.unbound k strike) : (s.timeOut p).re.unbound k strike := by
  obtain ⟨-, -, -, -, -, -, -, freed, kept, -⟩ := s.withdraw_withdrawn p.cell (.concealed .unproven)
  by_cases named : (s.re.cell p.cell).channel = some k
  · have free : (s.timeOut p).re.channel k = ⟨.free, (s.re.channel k).strike⟩ := freed k named
    unfold RepairEngine.unbound
    rw [free]
    exact ⟨unbound.1, nofun⟩
  · exact unbound.of_channel (kept k named)

theorem State.timeOut_raises : (s.timeOut p).raisedFrom 2 (s.notice 2).count := by
  obtain ⟨-, nu, -⟩ := s.withdraw_withdrawn p.cell (.concealed .unproven)
  refine State.notify_raises rfl (.inl (Nat.le_of_eq ?_))
  unfold State.notice
  rw [nu]

end

theorem State.timeOuts_cell {records : List Proving} {n : Nat} (s : State)
    (timed : (∃ q ∈ records, q.cell = n) ∨ s.re.cell n = .concealed .unproven) :
    (records.foldl State.timeOut s).re.cell n = .concealed .unproven := by
  induction records generalizing s with
  | nil => simpa using timed
  | cons q rest ih =>
    refine ih (s.timeOut q) ?_
    rw [State.timeOut_cell]
    by_cases here : q.cell = n
    · exact .inr (if_pos here)
    · rw [if_neg here]
      simpa [here] using timed

theorem State.timeOuts_raise {records : List Proving} (s : State) {p : Proving} (some : p ∈ records) :
    (records.foldl State.timeOut s).raisedFrom 2 (s.notice 2).count := by
  obtain ⟨q, rest, rfl⟩ := List.exists_cons_of_ne_nil (List.ne_nil_of_mem some)
  have stays : ∀ (t : State) (q : Proving), t.raisedFrom 2 (s.notice 2).count →
      (t.timeOut q).raisedFrom 2 (s.notice 2).count := fun _ q raised => (Kept.raisedFrom 2 _).timeOut q raised
  rw [List.foldl_cons]
  exact foldl_keeps (P := fun t : State => t.raisedFrom 2 (s.notice 2).count) _ stays rest (s.timeOut_raises q)

/-- The state in which every proving is a frame older. -/
def State.aged (s : State) : State := s.setProvings (s.re.provings.map fun p => { p with age := p.age + 1 })

theorem State.raiseAges_eq (s : State) :
    s.raiseAges = (s.aged.re.provings.filter fun p => decide (120 ≤ p.age)).foldl State.timeOut s.aged := rfl

/-- The proving that was 119 frames old is timed out. -/
theorem State.raiseAges_timesOut {s : State} (agree : s.re.consistent) {p : Proving} (listed : p ∈ s.re.provings)
    (old : p.age = 119) :
    s.raiseAges.re.timedOut p.cell p.channel (s.re.channel p.channel).strike ∧
      s.raiseAges.raisedFrom 2 (s.notice 2).count := by
  have due : { p with age := p.age + 1 } ∈ s.aged.re.provings.filter fun p => decide (120 ≤ p.age) :=
    List.mem_filter.2 ⟨List.mem_map_of_mem (f := fun p : Proving => { p with age := p.age + 1 }) listed,
      decide_eq_true (by dsimp only; omega)⟩
  have unbound : s.aged.re.unbound p.channel (s.re.channel p.channel).strike := by
    have proving : s.re.provingAgrees p := agree.2.1 p listed
    have own : (s.re.channel p.channel).state.cell = some p.cell := agree.names proving.named
    refine ⟨rfl, fun m bound => ?_⟩
    have state : (s.re.channel p.channel).state = .bound m := bound
    obtain ⟨channels, -⟩ := agree
    rw [state] at own
    cases own
    cases ((channels _ _).2.2.2 state).symm.trans proving
  refine ⟨⟨(State.raiseAges_leads s).consistent agree, ?_, ?_⟩, ?_⟩
  · rw [State.raiseAges_eq]
    exact s.aged.timeOuts_cell (.inl ⟨_, due, rfl⟩)
  · rw [State.raiseAges_eq]
    exact foldl_keeps State.timeOut (fun t q kept => t.timeOut_unbound q kept) _ unbound
  · rw [State.raiseAges_eq]
    exact s.aged.timeOuts_raise due

/-! ## The decisions that follow in the same frame start (R83, R84) -/

section

variable {s : State} {e : Entry} {n k strike : Nat}

/-- The decision for a condemned primary binds no channel, and a proving that it starts keeps its channel's strike. -/
theorem State.decidePrimary_unbound (m : Nat) (kind : FaultKind) (unbound : s.re.unbound k strike) :
    (s.decidePrimary m kind).re.unbound k strike := by
  obtain ⟨why, -, eq⟩ | eq | ⟨j, eq⟩ := s.decidePrimary_cases m kind
  · rw [eq]
    exact unbound.of_channel (State.setCell_channel _ _ _ _ k)
  · rw [eq]
    exact unbound.of_channel (State.setCell_channel _ _ _ _ k)
  · have channel : (s.startProving m j).spendBudget.re.channel k = (s.startProving m j).re.channel k := by
      rw [State.spendBudget_re]
      rfl
    rw [eq]
    refine RepairEngine.unbound.of_channel ?_ channel
    unfold RepairEngine.unbound
    rw [State.startProving_channel]
    split
    · rename_i own
      exact ⟨own ▸ unbound.1, nofun⟩
    · exact unbound

/-- A decision touches no cell but its entry's and strikes no channel but a bound one. -/
theorem State.decideEntry_timedOut (listed : e ∈ s.re.suspects) (out : s.re.timedOut n k strike) :
    (s.decideEntry e).re.timedOut n k strike := by
  have apart : n ≠ e.unit.cell := Ne.symm (out.unlisted listed)
  obtain ⟨agree, cell, unbound⟩ := out
  have consistent := (s.decideEntry_leads listed).consistent agree
  obtain ⟨channels, -, suspects, -⟩ := agree
  have stands : s.re.entryAgrees e.unit := suspects e listed
  refine ⟨consistent, ?_⟩
  obtain ⟨⟨side, m⟩, kind, _⟩ := e
  cases side with
  | primary =>
    obtain ⟨-, -, -, -, others, -⟩ := (s.dropEntry ⟨.primary, m⟩).decidePrimary_spec m kind
    exact ⟨(others n apart).1.trans cell, State.decidePrimary_unbound (s := s.dropEntry ⟨.primary, m⟩) m kind unbound⟩
  | spare =>
    obtain ⟨j, spared⟩ : ∃ j, s.re.cell m = .spared j := by
      have isSpared : (s.re.cell m).isSpared = true := stands.2
      cases state : s.re.cell m <;> simp [state, CellState.isSpared] at isSpared ⊢
    have decides : (s.dropEntry ⟨.spare, m⟩).decideDie m = (s.dropEntry ⟨.spare, m⟩).failProving m j :=
      State.decideDie_eq spared
    obtain ⟨cells, -, -, others, -⟩ := (s.dropEntry ⟨.spare, m⟩).failProving_maps m j
    have free : k ≠ j := fun same => unbound.2 m (same ▸ (channels m j).2.2.1 spared)
    change ((s.dropEntry ⟨.spare, m⟩).decideDie m).re.cell n = _ ∧ ((s.dropEntry ⟨.spare, m⟩).decideDie m).re.unbound k strike
    rw [decides]
    exact ⟨((cells n).trans (if_neg (Ne.symm apart))).trans cell, unbound.of_channel (others k free)⟩

theorem State.takeCondemned_timedOut (fuel : Nat) (out : s.re.timedOut n k strike) :
    (s.takeCondemned fuel).re.timedOut n k strike := by
  induction fuel generalizing s with
  | zero => exact out
  | succ fuel ih =>
    cases candidate : s.candidate with
    | none => rwa [State.takeCondemned_none candidate]
    | some e =>
      rw [State.takeCondemned_some candidate]
      split
      · exact out
      · exact ih (State.decideEntry_timedOut (List.mem_of_find?_eq_some candidate) out)

end

/-- The Repair Engine's work at the frame start in which a proving comes to 120 frames. -/
theorem State.repairFrame_timesOut {s : State} (agree : s.re.consistent) {p : Proving} (listed : p ∈ s.re.provings)
    (old : p.age = 119) :
    s.repairFrame.re.timedOut p.cell p.channel (s.re.channel p.channel).strike ∧
      s.repairFrame.raisedFrom 2 (s.notice 2).count := by
  obtain ⟨out, raised⟩ := State.raiseAges_timesOut (s := s.lowerDues) ((State.lowerDues_leads s).consistent agree) listed old
  exact ⟨State.takeCondemned_timedOut _ out, (Kept.raisedFrom 2 _).reconsider raised⟩

/-! ## The frame start -/

theorem exec_provingTimeout {s : State} (runs : s.forwarding = true) (noReset : s.clk.reset ≠ .ready) {p : Proving}
    (listed : p ∈ s.re.provings) (old : p.age = 119) (sensor : Int) :
    exec (.provingTimeout sensor) s = .next (s.timerExpiry sensor) := by
  have due : s.re.provings.any (fun q => decide (q.age + 1 = Config.provingFrames)) = true :=
    List.any_eq_true.2 ⟨p, listed, decide_eq_true (congrArg (· + 1) old)⟩
  refine congrArg Host.Outcome.next (if_pos ?_)
  rw [runs, decide_eq_true noReset, due]
  rfl

/-- The Sense Unit's frame start raises SURVEY ENDED at most, and the sample CONDITIONS. -/
theorem State.sensed_notice (s : State) (sensor : Int) (complete : Bool) {k : Nat} (low : k < 9) :
    (s.sensed sensor complete).notice k = s.notice k := by
  unfold State.sensed
  rw [State.senseFrame_notice _ (by omega), State.sample_notice, if_neg (by omega)]
  rfl

/-- The notices are as the Repair Engine's work leaves them. -/
theorem State.frameStart_notice {s : State} (sensor : Int) (complete : Bool) (noReset : s.clk.reset ≠ .ready) (k : Nat) :
    (s.frameStart sensor complete).notice k = (s.sensed sensor complete).repairFrame.notice k := by
  rw [State.frameStart_eq sensor complete noReset, State.beforeRoutes_eq]
  obtain ⟨active, startUp, set⟩ := (s.sensed sensor complete).repairFrame.applyRoutes_latchScale
  rw [set]
  rfl

/-- Settles O30: the timeout itself, and the decisions of the same frame start, which leave the cell and its channel. -/
theorem aProvingTimesOutAt120Frames : Obligations.AProvingTimesOutAt120Frames := by
  intro s sensor p runs noReset agree listed old
  have due : (s.reach s.timerEnd).clk.reset ≠ .ready := noReset
  obtain ⟨-, -, re⟩ := (s.reach s.timerEnd).sensed_frame sensor false
  have same : ((s.reach s.timerEnd).sensed sensor false).re = s.re := re
  have before : ((s.reach s.timerEnd).sensed sensor false).notice 2 = s.notice 2 :=
    State.sensed_notice _ _ _ (by decide)
  have work := State.repairFrame_timesOut (s := (s.reach s.timerEnd).sensed sensor false) (same ▸ agree) (same ▸ listed) old
  obtain ⟨active, startUp, -, -, -, after, -⟩ := State.frameStart_blocks sensor false due
  rw [← after, same, before] at work
  obtain ⟨out, raised⟩ := work
  unfold State.raisedFrom at raised
  rw [← State.frameStart_notice sensor false due] at raised
  have unproved := out.unproved
  obtain ⟨-, cell, strike, -⟩ := out
  exact ⟨_, exec_provingTimeout runs noReset listed old sensor, exec_frameTimerExpiry runs sensor, cell, unproved, strike,
    raised⟩

end Sys2Proof.Machine

end

section
/-! PROOFS. O47: HOLD-LINE. -/

namespace Sys2Proof.Machine

/-! ## Cells and their lines (R1, R7) -/

theorem cellAt_lines {row column colour : Nat} (inRow : column < 64) (inPixel : colour < 3) :
    cLineOf (cellAt row column colour) = column * 3 + colour ∧ rLineOf (cellAt row column colour) = 192 + row := by
  unfold cLineOf rLineOf rowOf columnOf colourOf cellAt
  omega

/-- The line of the other kind is the cell's R-line for its C-line, and its C-line for its R-line. -/
theorem otherLineOf_own (n : Nat) : otherLineOf (cLineOf n) n = rLineOf n ∧ otherLineOf (rLineOf n) n = cLineOf n := by
  have high : ¬rLineOf n < 192 := Nat.not_lt.2 (Nat.le_add_right _ _)
  unfold otherLineOf
  rw [if_pos (cLineOf_lt n), if_neg high]
  exact ⟨rfl, rfl⟩

theorem mem_lineCells_iff {l : Nat} (line : l < 240) (n : Nat) :
    n ∈ lineCells l ↔ n < 9216 ∧ (cLineOf n = l ∨ rLineOf n = l) := by
  constructor
  · intro on
    have cell := lineCells_lt line on
    exact ⟨cell, ((mem_lineCells l n line cell).1 on).imp Eq.symm Eq.symm⟩
  · rintro ⟨cell, on⟩
    exact (mem_lineCells l n line cell).2 (on.imp Eq.symm Eq.symm)

theorem otherLineOf_ne {l n : Nat} (line : l < 240) (on : n ∈ lineCells l) : otherLineOf l n ≠ l := fun same =>
  self_notMem_crossing ((mem_crossing_iff line l).2 ⟨n, on, same.symm⟩)

/-- Two lines of different kinds meet in one cell. -/
theorem eq_of_otherLineOf_eq {l m n : Nat} (line : l < 240) (on : m ∈ lineCells l) (here : n ∈ lineCells l)
    (same : otherLineOf l m = otherLineOf l n) : m = n := by
  obtain ⟨-, ofM⟩ := (mem_lineCells_iff line m).1 on
  obtain ⟨-, ofN⟩ := (mem_lineCells_iff line n).1 here
  have lowM := cLineOf_lt m
  have lowN := cLineOf_lt n
  have bothLines : cLineOf m = cLineOf n ∧ rLineOf m = rLineOf n := by
    unfold otherLineOf rLineOf at *
    split at same <;> omega
  unfold cLineOf rLineOf rowOf columnOf colourOf at bothLines
  omega

/-! ## One cell withdrawn to CONCEALED(LINE) (R120) -/

/-- A withdrawal before the change of the cell: its entries off the list and the channel it names freed. -/
def State.unlisted (s : State) (n : Nat) : State :=
  ((s.dropEntry ⟨.primary, n⟩).dropEntry ⟨.spare, n⟩).freeNamed (s.re.cell n)

theorem State.withdraw_eq (s : State) (n : Nat) (c : CellState) :
    s.withdraw n c = (s.unlisted n).setCell n c (s.re.die n).afterLeaving := rfl

@[simp] theorem State.unlisted_cell (s : State) (n m : Nat) : (s.unlisted n).re.cell m = s.re.cell m :=
  RepairEngine.cell_congr (by simp [State.unlisted]) m

@[simp] theorem State.unlisted_die (s : State) (n m : Nat) : (s.unlisted n).re.die m = s.re.die m :=
  RepairEngine.die_congr (by simp [State.unlisted]) m

@[simp] theorem State.unlisted_line (s : State) (n j : Nat) : (s.unlisted n).re.line j = s.re.line j :=
  RepairEngine.line_congr (by simp [State.unlisted]) j

@[simp] theorem State.unlisted_pp (s : State) (n : Nat) : (s.unlisted n).pp = s.pp := by
  simp [State.unlisted]

theorem State.withdraw_cell (s : State) (n : Nat) (c : CellState) (m : Nat) :
    (s.withdraw n c).re.cell m = if n = m then c else s.re.cell m := by
  rw [State.withdraw_eq, State.setCell_cell, State.unlisted_cell]

theorem State.withdraw_die (s : State) (n : Nat) (c : CellState) (m : Nat) :
    (s.withdraw n c).re.die m = if n = m then (s.re.die n).afterLeaving else s.re.die m := by
  rw [State.withdraw_eq, State.setCell_die, State.unlisted_die]

/-- A cell that is concealed calls for BLANK (R14). -/
theorem State.withdraw_pendingRoute (s : State) (n m : Nat) :
    (s.withdraw n (.concealed .line)).pp.pendingRoute m =
      if n = m ∧ s.re.calledRoute m ≠ .blank then some .blank else s.pp.pendingRoute m := by
  rw [State.withdraw_eq, State.setCell_pendingRoute, State.unlisted_cell, State.unlisted_die, State.unlisted_pp]
  by_cases here : n = m
  · subst here
    simp [RepairEngine.calledRoute, routeFor]
  · simp [here]

/-- A cell that was counted leaves the tallies of its two lines (R116). -/
theorem State.withdraw_line (s : State) (n j : Nat) :
    (s.withdraw n (.concealed .line)).re.line j =
      if j = cLineOf n ∨ j = rLineOf n then
        { s.re.line j with tally := (s.re.line j).tally - if (s.re.cell n).counted then 1 else 0 }
      else s.re.line j := by
  rw [State.withdraw_eq, State.setCell_line, State.unlisted_cell, State.unlisted_line]
  cases (s.re.cell n).counted <;> rfl

theorem dieImage_afterLeaving (d : DieState) : dieImage d.afterLeaving = dieImage d := by
  cases d <;> rfl

/-- A channel in use has the image of FREE (R106). -/
theorem channelImage_of_cell {state : ChannelState} {n : Nat} (used : state.cell = some n) :
    channelImage state = channelImage .free := by
  cases state with
  | free | failed => cases used
  | proving _ | recording _ | bound _ => rfl

/-- Where the maps agree, a channel that a cell names is in use, so that freeing it owes nothing (R106). -/
theorem State.unlisted_rj {s : State} (agree : s.re.consistent) (n : Nat) : (s.unlisted n).rj = s.rj := by
  unfold State.unlisted
  cases named : (s.re.cell n).channel with
  | none => rw [State.freeNamed_none _ named, State.dropEntry_rj, State.dropEntry_rj]
  | some k =>
    have used : (s.re.channel k).state.cell = some n := agree.names named
    have image : channelImage (s.re.channel k).state = channelImage .free := channelImage_of_cell used
    rw [State.freeNamed_some _ named, State.freeChannel, State.setChannel_rj _ _ _ (by simpa using image)]
    simp

/-- Where the maps agree, a withdrawal to CONCEALED(LINE) owes the cell when its image was not HEALTHY, and nothing else. -/
theorem State.withdraw_owed {s : State} (agree : s.re.consistent) (n : Nat) :
    (s.withdraw n (.concealed .line)).rj.owed =
      if cellImage (s.re.cell n) = .healthy then s.rj.owed else oweList s.rj.owed (cellSubject n) := by
  rw [State.withdraw_eq, State.setCell_owed]
  simp only [State.unlisted_cell, State.unlisted_die, State.unlisted_rj agree, dieImage_afterLeaving, if_true]
  rfl

/-! ## A line's cells withdrawn one after another (R120) -/

theorem State.withdrawAll_cons (s : State) (n : Nat) (rest : List Nat) (c : CellState) :
    s.withdrawAll (n :: rest) c = (s.withdraw n c).withdrawAll rest c := rfl

theorem State.withdrawAll_append (s : State) (front back : List Nat) (c : CellState) :
    s.withdrawAll (front ++ back) c = (s.withdrawAll front c).withdrawAll back c := List.foldl_append

theorem Kept.withdrawAll {P : State → Prop} (K : Kept P) {s : State} (cells : List Nat) (c : CellState) (held : P s) :
    P (s.withdrawAll cells c) :=
  foldl_keeps _ (fun _ n kept => K.withdraw n c kept) cells held

theorem State.withdrawAll_pendingRoute (s : State) (cells : List Nat) (m : Nat) :
    (s.withdrawAll cells (.concealed .line)).pp.pendingRoute m =
      if m ∈ cells ∧ s.re.calledRoute m ≠ .blank then some .blank else s.pp.pendingRoute m := by
  induction cells generalizing s with
  | nil => simp [State.withdrawAll]
  | cons n rest ih =>
    have called : (s.withdraw n (.concealed .line)).re.calledRoute m = if n = m then .blank else s.re.calledRoute m := by
      unfold RepairEngine.calledRoute
      rw [State.withdraw_cell, State.withdraw_die]
      split <;> rfl
    rw [State.withdrawAll_cons, ih, State.withdraw_pendingRoute, called]
    by_cases here : n = m
    · simp [here]
    · simp [here, Ne.symm here]

/-- Lines on which none of the cells lies keep their entries. -/
theorem State.withdrawAll_line_apart (s : State) {cells : List Nat} {j : Nat}
    (off : ∀ n ∈ cells, ¬(j = cLineOf n ∨ j = rLineOf n)) :
    (s.withdrawAll cells (.concealed .line)).re.line j = s.re.line j := by
  induction cells generalizing s with
  | nil => rfl
  | cons n rest ih =>
    rw [State.withdrawAll_cons, ih _ fun m on => off m (List.mem_cons_of_mem _ on), State.withdraw_line,
      if_neg (off n List.mem_cons_self)]

/-- A line on which one of the cells lies loses that cell from its tally, if it was counted. -/
theorem State.withdrawAll_line_crossing (s : State) {cells : List Nat} {j n : Nat} (once : cells.Nodup) (on : n ∈ cells)
    (isLine : j = cLineOf n ∨ j = rLineOf n) (only : ∀ m ∈ cells, m ≠ n → ¬(j = cLineOf m ∨ j = rLineOf m)) :
    (s.withdrawAll cells (.concealed .line)).re.line j =
      { s.re.line j with tally := (s.re.line j).tally - if (s.re.cell n).counted then 1 else 0 } := by
  obtain ⟨front, back, rfl⟩ := List.append_of_mem on
  obtain ⟨before, after⟩ : n ∉ front ∧ n ∉ back := by
    obtain ⟨-, rest, apart⟩ := List.nodup_append.1 once
    exact ⟨fun again => apart n again n List.mem_cons_self rfl, (List.nodup_cons.1 rest).1⟩
  have offFront : ∀ m ∈ front, ¬(j = cLineOf m ∨ j = rLineOf m) := fun m here =>
    only m (List.mem_append_left _ here) fun same => before (same ▸ here)
  have offBack : ∀ m ∈ back, ¬(j = cLineOf m ∨ j = rLineOf m) := fun m here =>
    only m (List.mem_append_right _ (List.mem_cons_of_mem _ here)) fun same => after (same ▸ here)
  rw [State.withdrawAll_append, State.withdrawAll_cons, State.withdrawAll_line_apart _ offBack, State.withdraw_line,
    if_pos isLine, State.withdrawAll_line_apart _ offFront, State.withdrawAll_cell, if_neg before]

/-- Where the maps agree, exactly the cells whose image was not HEALTHY become owed. -/
theorem State.mem_withdrawAll_owed {s : State} (agree : s.re.consistent) (cells : List Nat) (m : Nat) :
    m ∈ (s.withdrawAll cells (.concealed .line)).rj.owed →
      m ∈ s.rj.owed ∨ ∃ n ∈ cells, cellImage (s.re.cell n) ≠ .healthy ∧ m = cellSubject n := by
  induction cells generalizing s with
  | nil => exact Or.inl
  | cons n rest ih =>
    rw [State.withdrawAll_cons]
    intro owed
    rcases ih (State.withdraw_consistent rfl (fun _ => rfl) agree) owed with first | ⟨k, on, image, same⟩
    · rw [State.withdraw_owed agree] at first
      split at first
      · exact .inl first
      · rename_i image
        exact (mem_oweList.1 first).imp_right fun same => ⟨n, List.mem_cons_self, image, same⟩
    · rw [State.withdraw_cell] at image
      split at image
      · exact absurd rfl image
      · exact .inr ⟨k, List.mem_cons_of_mem _ on, image, same⟩

/-- A cell whose image was not HEALTHY is owed. -/
theorem State.withdrawAll_owes (s : State) {cells : List Nat} {n : Nat} (on : n ∈ cells)
    (image : cellImage (s.re.cell n) ≠ .healthy) :
    cellSubject n ∈ (s.withdrawAll cells (.concealed .line)).rj.owed := by
  induction cells generalizing s with
  | nil => cases on
  | cons m rest ih =>
    rw [State.withdrawAll_cons]
    by_cases here : m = n
    · subst here
      refine (Kept.owes (cellSubject m)).withdrawAll rest _ ?_
      rw [State.withdraw_eq]
      exact State.setCell_owes _ _ _ _ (by rwa [State.unlisted_cell])
    · refine ih _ ((List.mem_cons.1 on).resolve_left (Ne.symm here)) ?_
      rwa [State.withdraw_cell, if_neg here]

/-! ## The hold (R119 to R121) -/

/-- A repair is undone for each cell of an R-line that named a channel and whose die is GOOD after the hold (R119). -/
theorem State.undoneBy_eq (s : State) (l : Nat) :
    s.undoneBy l = if l < 192 then 0 else (lineCells l).countP fun n =>
      (s.re.cell n).channel.isSome && decide ((s.hold l).re.die n = .good) := by
  unfold State.undoneBy
  rw [List.filter_filter, List.countP_eq_length_filter]
  simp only [State.withdrawAll_die, State.hold_die, Bool.and_comm]

theorem State.hold_pendingRoute (s : State) (l n : Nat) :
    (s.hold l).pp.pendingRoute n =
      if n ∈ lineCells l ∧ s.re.calledRoute n ≠ .blank then some .blank else s.pp.pendingRoute n := by
  rw [State.hold_eq, State.notify_pp, State.imageChanged_pp, State.setLine_pp, State.withdrawAll_pendingRoute]

/-- Of the other lines a hold leaves what the withdrawal of the line's cells leaves. -/
theorem State.hold_line_other (s : State) {l j : Nat} (other : j ≠ l) :
    (s.hold l).re.line j = (s.withdrawAll (lineCells l) (.concealed .line)).re.line j := by
  rw [State.hold_eq, State.notify_re, State.imageChanged_re, State.setLine_line, if_neg (Ne.symm other)]

/-- A line that crosses the held line there loses the crossing cell from its tally, if it was counted. -/
theorem State.hold_line_crossing (s : State) {l n : Nat} (line : l < 240) (on : n ∈ lineCells l) :
    (s.hold l).re.line (otherLineOf l n) = { s.re.line (otherLineOf l n) with
      tally := (s.re.line (otherLineOf l n)).tally - if (s.re.cell n).counted then 1 else 0 } := by
  have other := otherLineOf_ne line on
  rw [State.hold_line_other s other]
  refine State.withdrawAll_line_crossing s (lineCells_nodup l) on ((eq_line_or_otherLine line on _).2 (.inr rfl))
    fun m here apart isLine => ?_
  rcases (eq_line_or_otherLine line here _).1 isLine with own | same
  · exact other own
  · exact apart (eq_of_otherLineOf_eq line here on same.symm)

theorem State.hold_line_apart (s : State) {l j : Nat} (line : l < 240) (own : j ≠ l)
    (others : ∀ n ∈ lineCells l, j ≠ otherLineOf l n) : (s.hold l).re.line j = s.re.line j := by
  rw [State.hold_line_other s own]
  exact State.withdrawAll_line_apart s fun n on isLine =>
    ((eq_line_or_otherLine line on j).1 isLine).elim own (others n on)

theorem State.hold_owes_cell (s : State) {l n : Nat} (on : n ∈ lineCells l) (image : cellImage (s.re.cell n) ≠ .healthy) :
    cellSubject n ∈ (s.hold l).rj.owed := by
  have K := Kept.owes (cellSubject n)
  rw [State.hold_eq]
  exact K.notify _ _ (K.imageChanged _ _ _ (K.setLine _ _ (s.withdrawAll_owes on image)))

/-- Where the maps agree, a hold owes its line and those of its cells whose image was not HEALTHY, and nothing else. -/
theorem State.mem_hold_owed {s : State} (agree : s.re.consistent) (l m : Nat) (owed : m ∈ (s.hold l).rj.owed) :
    m ∈ s.rj.owed ∨ m = lineSubject l ∨ ∃ n ∈ lineCells l, cellImage (s.re.cell n) ≠ .healthy ∧ m = cellSubject n := by
  have withdrawn := State.mem_withdrawAll_owed agree (lineCells l) m
  rw [State.hold_eq, State.notify_rj, State.imageChanged_owed, State.setLine_rj] at owed
  split at owed
  · exact (withdrawn owed).imp_right .inr
  · rcases mem_oweList.1 owed with before | line
    · exact (withdrawn before).imp_right .inr
    · exact .inr (.inl line)

/-! ## HOLD-LINE (R122) -/

theorem holdLineOp_malformed {body : List Byte} (malformed : oneByte body = none) (s : State) :
    holdLineOp body s = s.refuse .malformed := by
  unfold holdLineOp
  rw [malformed]

theorem holdLineOp_eq {body : List Byte} {l : Nat} (found : oneByte body = some l) (s : State) :
    holdLineOp body s =
      if 240 ≤ l then s.refuse .outOfRange
      else if (s.re.line l).state = .held then s.refuse .wrongState
      else ((s.hold l).reconsider, ⟨.done, []⟩) := by
  unfold holdLineOp
  rw [found]
  rfl

/-- A HOLD-LINE that is accepted is the hold event, then the reconsideration of the candidate (R84, R122). -/
theorem State.serves.holds {s : State} {r : Request} (serves : s.serves r) {l : Nat} (found : oneByte r.body = some l)
    (line : l < 240) (normal : (s.re.line l).state = .normal) :
    exec (.holdLine r) s = .next (((s.heard r 16).hold l).reconsider.answered r 16 s.pp.frame .done []) := by
  refine congrArg Host.Outcome.next (serves.does rfl (by decide) ?_)
  rw [holdLineOp_eq found, if_neg (Nat.not_le.2 line), if_neg (by rw [State.heard_re, normal]; decide)]

/-- Settles O47: each check of HOLD-LINE in its order, and what the hold leaves of each table, table by table. -/
theorem holdLineConcealsTheWholeLine : Obligations.HoldLineConcealsTheWholeLine := by
  refine ⟨?_, fun l line => ⟨lineCells_nodup l, mem_lineCells_iff line⟩, fun s r serves =>
    ⟨fun malformed => ?_, fun l found => ⟨fun far => ?_, fun line held => ?_, fun line normal => ?_⟩⟩⟩
  · rintro row - column inRow colour inPixel _ rfl
    obtain ⟨cLine, rLine⟩ := cellAt_lines (row := row) inRow inPixel
    exact ⟨rfl, cLine, rLine, otherLineOf_own _⟩
  · exact congrArg Host.Outcome.next (serves.refuses rfl (by decide) (holdLineOp_malformed malformed _))
  · refine congrArg Host.Outcome.next (serves.refuses rfl (by decide) ?_)
    rw [holdLineOp_eq found, if_pos far]
  · refine congrArg Host.Outcome.next (serves.refuses rfl (by decide) ?_)
    rw [holdLineOp_eq found, if_neg (Nat.not_le.2 line), if_pos (by rwa [State.heard_re])]
  · have done := serves.holds found line normal
    have re : (s.heard r 16).re = s.re := State.heard_re _ _ _
    have rj : (s.heard r 16).rj = s.rj := State.heard_rj _ _ _
    have pp : (s.heard r 16).pp = s.pp := State.heard_pp _ _ _
    have notices : ∀ k, (s.heard r 16).notice k = s.notice k := State.heard_notice _ _ _
    have frame : (s.heard r 16).repairOnly ((s.heard r 16).hold l) := (Kept.repairOnly _).hold l (State.repairOnly_refl _)
    generalize s.heard r 16 = t at done re rj pp notices frame
    rw [← re] at normal
    simp only [← re, ← rj, ← pp, ← notices]
    have own := t.hold_line l
    refine ⟨_, by rwa [pp], frame, by rw [own], by rw [own], fun n on => ⟨?_, ?_⟩, fun n off => ⟨?_, ?_⟩, t.hold_suspects l,
      fun n on k named => ⟨?_, fun p listed => ?_⟩, fun k unnamed => ?_, ?_, fun n on => t.hold_line_crossing line on,
      fun j other apart => t.hold_line_apart line other apart, t.hold_pendingRoute l, t.hold_owes l normal,
      fun n on image => t.hold_owes_cell on image, fun agree m owed => State.mem_hold_owed agree l m owed, ?_,
      fun k other => ?_⟩
    · rw [State.hold_cell, if_pos on]
    · rw [State.hold_die, if_pos on]
    · rw [State.hold_cell, if_neg off]
    · rw [State.hold_die, if_neg off]
    · rw [State.hold_channel, if_pos ⟨n, on, named⟩]
    · rw [State.hold_provings] at listed
      exact fun same => of_decide_eq_true (List.mem_filter.1 listed).2 n on (same ▸ named)
    · rw [State.hold_channel, if_neg fun ⟨n, on, named⟩ => unnamed n on named]
    · rw [own, State.undoneBy_eq]
    · rw [State.hold_notice, if_pos rfl]
    · rw [State.hold_notice, if_neg other]

end Sys2Proof.Machine

end

section
/-! PROOFS. O56: the start of a compaction, and the writer that becomes FULL. -/

namespace Sys2Proof.Machine

/-! ## The bank that is not active (R133) -/

theorem Journal.newBank_eq (j : Journal) :
    j.newBank = match j.active with | some .zero => .one | some .one => .zero | none => .zero := by
  unfold Journal.newBank
  cases j.active with
  | none => rfl
  | some i => cases i <;> rfl

theorem Journal.nextGeneration_eq (j : Journal) : j.nextGeneration = match j.active with
    | some .zero => (j.bank0.generation + 1) % 16777216
    | some .one => (j.bank1.generation + 1) % 16777216
    | none => 1 := by
  unfold Journal.nextGeneration
  cases j.active with
  | none => rfl
  | some i => cases i <;> rfl

/-! ## FULL (R102, R136) -/

/-- What a writer that becomes FULL leaves: the banks and the operation in progress as they were, JOURNAL raised, and no
recording waiting. -/
theorem State.enterFull_spec (s : State) :
    s.enterFull.rj.writer = .full ∧ s.enterFull.rj.due = false ∧ s.enterFull.rj.bank0 = s.rj.bank0 ∧
      s.enterFull.rj.bank1 = s.rj.bank1 ∧ s.enterFull.rj.operation = s.rj.operation ∧
      s.enterFull.notice 14 = ⟨min ((s.notice 14).count + 1) 255, some (.journal .full)⟩ ∧
      ∀ p ∈ s.enterFull.re.provings, p.phase ≠ .recording := by
  have journal := s.enterFull_rj
  exact ⟨by rw [journal], by rw [journal], by rw [journal], by rw [journal], by rw [journal], s.enterFull_notice,
    State.bindRecordings_none_waits _⟩

/-! ## The start of a compaction (R132, R133) -/

theorem State.startCompaction_erases {s : State} (few : s.rj.liveImages ≤ 960) :
    s.startCompaction = s.withRj { s.rj.setBank s.rj.newBank { s.rj.bank s.rj.newBank with
        generation := 0, complete := false } with
      operation := some .erase, due := false, writer := .compacting .erase
      walk := 0, walkTaken := [], heldReports := [] } := if_neg (Nat.not_lt.2 few)

/-- What a COMPACTION_START asks for. -/
theorem State.mayStartCompaction_iff (s : State) :
    s.mayStartCompaction = true ↔ (s.operating = true ∧ s.rj.due = true ∧ s.rj.record = none ∧
      s.rj.operation = none ∧ s.rj.stopping = false) ∧
      (s.rj.writer = .idle ∨ s.rj.writer = .writing ∨ s.rj.writer = .full) := by
  unfold State.mayStartCompaction
  rw [Bool.and_eq_true]
  refine and_congr (by simp [and_assoc]) ?_
  cases s.rj.writer <;> simp

theorem exec_compactionStart_starts {s : State} (may : s.mayStartCompaction = true) :
    exec .compactionStart s = .next s.startCompaction.reconsider := congrArg Host.Outcome.next (if_pos may)

theorem exec_compactionStart_rests {s : State} (mayNot : ¬s.mayStartCompaction = true) :
    exec .compactionStart s = .next s := congrArg Host.Outcome.next (if_neg mayNot)

/-- Settles O56: the condition of a start, the erase or the FULL writer that it brings, and its exceptions one by one. -/
theorem aDueCompactionStartsOrFillsTheWriter : Obligations.ADueCompactionStartsOrFillsTheWriter := by
  refine ⟨fun s new operating due record operation goes writer here => ?_, fun s excepted => ?_⟩
  · have may := s.mayStartCompaction_iff.2 ⟨⟨operating, due, record, operation, goes⟩, writer⟩
    rw [exec_compactionStart_starts may]
    refine ⟨fun few => ?_, fun many => ⟨_, rfl, ?_⟩⟩
    · rw [State.startCompaction_erases few, here.trans s.rj.newBank_eq.symm]
    · obtain ⟨full, undue, bank0, bank1, stays, notice, waits⟩ := s.enterFull_spec
      rw [State.startCompaction_fills many]
      exact ⟨full, undue, bank0, bank1, stays.trans operation, notice, waits⟩
  · refine exec_compactionStart_rests fun may => ?_
    obtain ⟨⟨operating, due, record, operation, goes⟩, writer⟩ := s.mayStartCompaction_iff.1 may
    obtain off | undue | writes | works | stops | ⟨notIdle, notWriting, notFull⟩ := excepted
    · simp [off] at operating
    · simp [undue] at due
    · exact writes record
    · exact works operation
    · simp [stops] at goes
    · exact writer.elim notIdle fun other => other.elim notWriting notFull

end Sys2Proof.Machine

end

section
/-! PROOFS. O57: the new bank's erase, header and first record, and the end of the old bank's erase. -/

namespace Sys2Proof.Machine

/-! ## The end of an erase (R129, R133, R134) -/

theorem Journal.bank_congr {a b : Journal} (zero : a.bank0 = b.bank0) (one : a.bank1 = b.bank1) (i : BankId) :
    a.bank i = b.bank i := by
  cases i
  · exact zero
  · exact one

theorem Journal.eraseDone_eq (j : Journal) :
    j.eraseDone = { j.setBank j.newBank ⟨0, false, []⟩ with operation := none } := rfl

/-- An erase leaves everything in the journal but its bank and the operation. -/
theorem Journal.eraseDone_rest (j : Journal) :
    j.eraseDone = { j with bank0 := j.eraseDone.bank0, bank1 := j.eraseDone.bank1, operation := none } := by
  rw [Journal.eraseDone_eq, Journal.setBank_eq]

theorem Journal.eraseDone_bank (j : Journal) :
    j.eraseDone.bank j.newBank = ⟨0, false, []⟩ ∧ j.eraseDone.bank j.newBank.other = j.bank j.newBank.other := by
  have banks : ∀ i, j.eraseDone.bank i = (j.setBank j.newBank ⟨0, false, []⟩).bank i := Journal.bank_congr rfl rfl
  exact ⟨(banks _).trans (Journal.setBank_same _ _ _), (banks _).trans (Journal.setBank_other _ _ _)⟩

theorem exec_bankEraseEnd_erased {s : State} (operating : s.operating = true) (operation : s.rj.operation = some .erase) :
    exec (.bankEraseEnd true) s =
      .next (if s.rj.compacting = true then s.newBankErased else s.oldBankErased) :=
  congrArg Host.Outcome.next (if_pos (by rw [operating, decide_eq_true operation]; rfl))

section

variable {s : State}

theorem State.newBankErased_goes_on (goes : s.rj.stopping = false) :
    s.newBankErased = s.withRj { s.rj.eraseDone with operation := some .header } :=
  if_neg (by
    rw [State.withRj_rj, Journal.eraseDone_rest]
    simp [goes])

theorem State.oldBankErased_drains (record : s.rj.record ≠ none) :
    s.oldBankErased = s.withRj { s.rj.eraseDone with writer := .writing } :=
  if_pos (by
    rw [State.withRj_rj, Journal.eraseDone_rest]
    exact Option.isSome_iff_ne_none.2 record)

/-- Without a drained record in progress a stop that waits is made, then a due compaction starts, else the writer is free. -/
theorem State.oldBankErased_idle (record : s.rj.record = none) :
    s.oldBankErased =
      if s.rj.stopping = true then (s.withRj s.rj.eraseDone).stopIfDue
      else if s.rj.due = true then (s.withRj s.rj.eraseDone).startCompaction.reconsider
      else s.withRj { s.rj.eraseDone with writer := s.rj.eraseDone.free } := by
  have rest := s.rj.eraseDone_rest
  have same : s.rj.eraseDone.record = none ∧ s.rj.eraseDone.stopping = s.rj.stopping ∧
      s.rj.eraseDone.due = s.rj.due := by
    rw [rest]
    exact ⟨record, rfl, rfl⟩
  obtain ⟨free, stopping, due⟩ := same
  unfold State.oldBankErased
  dsimp only
  rw [State.withRj_rj, free, stopping, due]
  rfl

theorem State.oldBankErased_frees (record : s.rj.record = none) (goes : s.rj.stopping = false) (undue : s.rj.due = false) :
    s.oldBankErased = s.withRj { s.rj.eraseDone with writer := if s.rj.owed = [] then .idle else .writing } := by
  have owed : s.rj.eraseDone.owed = s.rj.owed := by rw [Journal.eraseDone_rest]
  rw [State.oldBankErased_idle record, if_neg (by rw [goes]; decide), if_neg (by rw [undue]; decide), Journal.free_eq, owed]

theorem State.oldBankErased_compacts (record : s.rj.record = none) (goes : s.rj.stopping = false) (due : s.rj.due = true) :
    s.oldBankErased = (s.withRj s.rj.eraseDone).startCompaction.reconsider := by
  rw [State.oldBankErased_idle record, if_neg (by rw [goes]; decide), if_pos due]

/-- An erased bank's header is clear already. -/
theorem State.eraseDone_startCompaction (few : s.rj.liveImages ≤ 960) :
    (s.withRj s.rj.eraseDone).startCompaction = s.withRj { s.rj.setBank s.rj.newBank ⟨0, false, []⟩ with
      operation := some .erase, due := false, writer := .compacting .erase
      walk := 0, walkTaken := [], heldReports := [] } := by
  have rest := s.rj.eraseDone_rest
  have same : s.rj.eraseDone.newBank = s.rj.newBank ∧ s.rj.eraseDone.liveImages = s.rj.liveImages := by
    rw [rest]
    exact ⟨rfl, rfl⟩
  obtain ⟨new, images⟩ := same
  rw [State.startCompaction_erases (s := s.withRj s.rj.eraseDone) (by rwa [State.withRj_rj, images]), State.withRj_rj, new,
    s.rj.eraseDone_bank.1, State.withRj_withRj', Journal.eraseDone_eq]
  cases s.rj.newBank <;> rfl

end

/-! ## The header and the first record of the snapshot (R133) -/

/-- The journal with the new bank's header written. -/
def Journal.headed (j : Journal) : Journal :=
  { j.setBank j.newBank ⟨j.nextGeneration, false, (j.bank j.newBank).slots⟩ with operation := none }

theorem Journal.headed_rest (j : Journal) :
    j.headed = { j with bank0 := j.headed.bank0, bank1 := j.headed.bank1, operation := none } := by
  unfold Journal.headed
  rw [Journal.setBank_eq]

theorem Journal.headed_bank (j : Journal) :
    j.headed.bank j.newBank = ⟨j.nextGeneration, false, (j.bank j.newBank).slots⟩ ∧
      j.headed.bank j.newBank.other = j.bank j.newBank.other := by
  have banks : ∀ i, j.headed.bank i =
      (j.setBank j.newBank ⟨j.nextGeneration, false, (j.bank j.newBank).slots⟩).bank i := Journal.bank_congr rfl rfl
  exact ⟨(banks _).trans (Journal.setBank_same _ _ _), (banks _).trans (Journal.setBank_other _ _ _)⟩

/-- The state whose snapshot begins. -/
def State.snapshotBegun (s : State) : State := s.withRj { s.rj.headed with writer := .compacting .snapshot }

theorem State.snapshotBegun_eq (s : State) : s.snapshotBegun = s.withRj { s.rj with
    bank0 := s.rj.headed.bank0, bank1 := s.rj.headed.bank1, operation := none, writer := .compacting .snapshot } := by
  unfold State.snapshotBegun
  rw [Journal.headed_rest]

theorem exec_headerWriteEnd_written {s : State} (operating : s.operating = true)
    (operation : s.rj.operation = some .header) : exec (.headerWriteEnd true) s = .next s.headerWritten :=
  congrArg Host.Outcome.next (if_pos (by rw [operating, decide_eq_true operation]; rfl))

theorem State.headerWritten_goes_on {s : State} (goes : s.rj.stopping = false) :
    s.headerWritten = (s.snapshotBegun.walkFrom 0).reconsider :=
  if_neg (by
    change ¬s.rj.headed.stopping = true
    rw [Journal.headed_rest]
    simp [goes])

/-- A header is written in step ERASE, into an erased bank, beside no record write (R133). -/
theorem Journal.orderly.header {j : Journal} (orderly : j.orderly) (header : j.operation = some .header) :
    j.record = none ∧ (j.bank j.newBank).slots = [] := by
  unfold Journal.orderly at orderly
  split at orderly
  · obtain ⟨record, erase | ⟨-, slots⟩⟩ := orderly
    · rw [header] at erase
      cases erase
    · exact ⟨record, slots⟩
  all_goals simp [header] at orderly

/-- What the walk takes off the owed list from the first subject on. -/
theorem State.walkOver_first_owed (s : State) (stop : Nat) :
    (s.walkOver 0 stop).rj.owed = s.rj.owed.filter fun m => decide (stop ≤ m) := by
  refine List.filter_congr fun m _ => ?_
  dsimp only
  rw [← Bool.decide_and, ← decide_not]
  exact decide_eq_decide.2 (by omega)

section

variable {s : State} (header : s.rj.operation = some .header) (orderly : s.rj.orderly)
include header orderly

/-- Every subject at its factory image: the mark's write begins. -/
theorem State.snapshotBegun_finishes (last : (s.nonFactory.find? fun n => decide (0 ≤ n)) = none) :
    s.snapshotBegun.walkFrom 0 = s.withRj { s.rj with
      bank0 := s.rj.headed.bank0, bank1 := s.rj.headed.bank1, writer := .compacting .finish, operation := some .mark
      walk := 19483, record := none, owed := s.rj.owed.filter fun m => decide (19483 ≤ m)
      walkTaken := (s.walkOver 0 19483).rj.walkTaken } := by
  obtain ⟨record, -⟩ := orderly.header header
  rw [State.walkFrom_none (s := s.snapshotBegun) last, ← s.walkOver_first_owed, State.snapshotBegun_eq, ← record]
  rfl

/-- The first subject that is not at its factory image: its record's write begins. -/
theorem State.snapshotBegun_next {n : Nat} (next : (s.nonFactory.find? fun n => decide (0 ≤ n)) = some n) :
    s.snapshotBegun.walkFrom 0 = s.withRj { s.rj with
      bank0 := s.rj.headed.bank0, bank1 := s.rj.headed.bank1, writer := .compacting .snapshot, operation := none
      walk := n, record := some ⟨n, s.imageOf n⟩, owed := s.rj.owed.filter fun m => decide (n < m)
      walkTaken := (s.walkOver 0 (n + 1)).rj.walkTaken } := by
  obtain ⟨-, slots⟩ := orderly.header header
  have room : (s.snapshotBegun.walkOver 0 (n + 1)).rj.canAppend = true := by
    have writes : (s.snapshotBegun.walkOver 0 (n + 1)).rj.writesTo = some s.rj.newBank := by
      rw [State.snapshotBegun_eq]
      rfl
    have bank : (s.snapshotBegun.walkOver 0 (n + 1)).rj.bank s.rj.newBank = s.rj.headed.bank s.rj.newBank :=
      Journal.bank_congr rfl rfl _
    unfold Journal.canAppend
    rw [writes]
    dsimp only
    rw [bank, s.rj.headed_bank.1, slots]
    rfl
  have owed : (s.walkOver 0 (n + 1)).rj.owed = s.rj.owed.filter fun m => decide (n < m) := s.walkOver_first_owed _
  rw [State.walkFrom_some (s := s.snapshotBegun) next, if_pos room, ← owed, State.snapshotBegun_eq]
  rfl

end

/-- Settles O57: the erase's end by what is then in progress, waits or is due, and the header's by what the walk finds. -/
theorem aCompactionGoesThroughEraseHeaderAndSnapshot : Obligations.ACompactionGoesThroughEraseHeaderAndSnapshot := by
  refine ⟨fun j => ⟨j.newBank_eq, j.nextGeneration_eq, ?_⟩, fun s new generation operating goes named => ?_⟩
  · split
    · rename_i inside
      obtain ⟨step, writer⟩ := j.compacting_iff.1 inside
      exact Journal.writesTo_of_snapshot writer
    · rename_i outside
      exact Journal.writesTo_of_not_compacting (Bool.eq_false_iff.2 outside)
  have both : new = s.rj.newBank ∧ generation = s.rj.nextGeneration := by
    rw [s.rj.newBank_eq, s.rj.nextGeneration_eq]
    cases active : s.rj.active with
    | none => simpa [active] using named
    | some i => cases i <;> simpa [active] using named
  obtain ⟨rfl, rfl⟩ := both
  have erases := exec_bankEraseEnd_erased operating
  refine ⟨fun erase inside => ?_, fun erase outside record undue => ?_, fun erase outside record => ?_,
    fun erase outside record due => ⟨fun few => ?_, fun many => ?_⟩, fun header orderly canonical range => ?_⟩
  · rw [erases erase, if_pos inside, State.newBankErased_goes_on goes]
    rfl
  · rw [erases erase, if_neg (by simp [outside]), State.oldBankErased_frees record goes undue]
    rfl
  · rw [erases erase, if_neg (by simp [outside]), State.oldBankErased_drains record]
    rfl
  · rw [erases erase, if_neg (by simp [outside]), State.oldBankErased_compacts record goes due,
      State.eraseDone_startCompaction few]
  · have images : s.rj.eraseDone.liveImages = s.rj.liveImages := by rw [Journal.eraseDone_rest]
    obtain ⟨own, other⟩ := s.rj.eraseDone_bank
    obtain ⟨full, undue, bank0, bank1, stays, notice, waits⟩ := (s.withRj s.rj.eraseDone).enterFull_spec
    have banks := Journal.bank_congr bank0 bank1
    refine ⟨(s.withRj s.rj.eraseDone).enterFull, ?_, full, undue, stays, (banks _).trans own, (banks _).trans other,
      notice, waits⟩
    rw [erases erase, if_neg (by simp [outside]), State.oldBankErased_compacts record goes due,
      State.startCompaction_fills (by rwa [State.withRj_rj, images])]
  · obtain ⟨record, slots⟩ := orderly.1.header header
    obtain ⟨own, other⟩ := s.rj.headed_bank
    rw [slots] at own
    have walked : ∀ {j : Journal}, j.bank0 = s.rj.headed.bank0 → j.bank1 = s.rj.headed.bank1 →
        j.bank s.rj.newBank = ⟨s.rj.nextGeneration, false, []⟩ ∧
          j.bank s.rj.newBank.other = s.rj.bank s.rj.newBank.other := fun zero one =>
      ⟨(Journal.bank_congr zero one _).trans own, (Journal.bank_congr zero one _).trans other⟩
    have first : ∀ n < 19483, s.imageOf n ≠ factoryImage n → (∀ m < n, s.imageOf m = factoryImage m) →
        (s.nonFactory.find? fun n => decide (0 ≤ n)) = some n := fun n subject image before =>
      State.nonFactory_next canonical range 0 n subject (Nat.zero_le n) image fun m _ less => before m less
    refine ⟨_, (exec_headerWriteEnd_written operating header).trans
      (congrArg Host.Outcome.next (State.headerWritten_goes_on goes)), ?_⟩
    cases found : s.nonFactory.find? fun n => decide (0 ≤ n) with
    | none =>
      rw [State.snapshotBegun_finishes header orderly.1 found]
      refine ⟨rfl, rfl, rfl, (walked rfl rfl).1, (walked rfl rfl).2, fun _ => ⟨rfl, rfl, rfl, rfl⟩,
        fun n subject image before => ?_⟩
      cases found.symm.trans (first n subject image before)
    | some k =>
      rw [State.snapshotBegun_next header orderly.1 found]
      refine ⟨rfl, rfl, rfl, (walked rfl rfl).1, (walked rfl rfl).2, fun factory => ?_, fun n subject image before => ?_⟩
      · cases found.symm.trans (State.nonFactory_none canonical range 0 fun m subject _ => factory m subject)
      · cases found.symm.trans (first n subject image before)
        exact ⟨rfl, rfl, rfl, rfl, rfl⟩

end Sys2Proof.Machine

end

section
/-! PROOFS. O12: a supply that goes LOW or GOOD again, and the stops that wait. -/

namespace Sys2Proof.Machine

/-! ## A stop that ends a compaction (R135, R139) -/

/-- A compaction that is held for a LOW supply: due again, with what its walk took owed again and the banks as they were. -/
theorem State.holdCompaction_spec (s : State) :
    s.holdCompaction = { s with rj := s.holdCompaction.rj } ∧ s.holdCompaction.rj.writer = .held false ∧
      s.holdCompaction.rj.due = true ∧ s.holdCompaction.rj.stopping = false ∧ s.holdCompaction.rj.operation = none ∧
      s.holdCompaction.rj.heldReports = [] ∧ (∀ i, s.holdCompaction.rj.bank i = s.rj.bank i) ∧
      ∀ n, n ∈ s.holdCompaction.rj.owed ↔ n ∈ s.rj.owed ∨ n ∈ s.rj.walkTaken := by
  obtain ⟨unrecorded, held⟩ := s.holdCompaction_eq
  rw [held]
  exact ⟨rfl, rfl, rfl, rfl, rfl, rfl, Journal.bank_congr rfl rfl, fun n => mem_oweAll⟩

section

variable {s : State} (stopping : s.rj.stopping = true)
include stopping

theorem State.newBankErased_stops : s.newBankErased = (s.withRj s.rj.eraseDone).holdCompaction :=
  if_pos (by
    rw [State.withRj_rj, Journal.eraseDone_rest]
    exact stopping)

theorem State.headerWritten_stops : s.headerWritten = (s.withRj s.rj.headed).holdCompaction :=
  if_pos (by
    change s.rj.headed.stopping = true
    rw [Journal.headed_rest]
    exact stopping)

/-- The end of the old bank's erase is where a stop that waited for it is made. -/
theorem State.oldBankErased_stops (record : s.rj.record = none) (writer : s.rj.writer = .erasingOld) :
    s.oldBankErased = s.withRj { s.rj.eraseDone with writer := .held false, stopping := false } := by
  have rest := s.rj.eraseDone_rest
  have same : s.rj.eraseDone.stopping = true ∧ s.rj.eraseDone.record = none ∧ s.rj.eraseDone.operation = none ∧
      s.rj.eraseDone.writer = .erasingOld := by
    rw [rest]
    exact ⟨stopping, record, rfl, writer⟩
  obtain ⟨stops, free, idle, erasing⟩ := same
  rw [State.oldBankErased_idle record, if_pos stopping, State.stopIfDue_eq, State.withRj_rj,
    Journal.stopped_of_stopping stops free idle, erasing]
  rfl

/-- The end of the new bank's erase or of its header write ends the compaction. -/
theorem exec_stops_compaction {c : Instr} {bank : Bank} (operating : s.operating = true)
    (pair : (c, s.rj.operation, s.rj.compacting, bank) ∈
      [(Instr.bankEraseEnd true, some Operation.erase, true, (⟨0, false, []⟩ : Bank)),
        (.headerWriteEnd true, some .header, s.rj.compacting,
          ⟨s.rj.nextGeneration, false, (s.rj.bank s.rj.newBank).slots⟩)]) :
    ∃ j : Journal, exec c s = .next (s.withRj j).holdCompaction ∧ j.bank s.rj.newBank = bank ∧
      j.bank s.rj.newBank.other = s.rj.bank s.rj.newBank.other ∧ j.owed = s.rj.owed ∧ j.walkTaken = s.rj.walkTaken := by
  simp only [List.mem_cons, Prod.mk.injEq, List.not_mem_nil, or_false] at pair
  obtain ⟨rfl, operation, inside, rfl⟩ | ⟨rfl, operation, -, rfl⟩ := pair
  · obtain ⟨own, other⟩ := s.rj.eraseDone_bank
    refine ⟨s.rj.eraseDone, ?_, own, other, by rw [Journal.eraseDone_rest], by rw [Journal.eraseDone_rest]⟩
    rw [exec_bankEraseEnd_erased operating operation, if_pos inside, State.newBankErased_stops stopping]
  · obtain ⟨own, other⟩ := s.rj.headed_bank
    refine ⟨s.rj.headed, ?_, own, other, by rw [Journal.headed_rest], by rw [Journal.headed_rest]⟩
    rw [exec_headerWriteEnd_written operating operation, State.headerWritten_stops stopping]

end

/-! ## The supply (R39, R139, R150, R151) -/

/-- The derated part, before CONDITIONS and the stop of the writer. -/
def State.derated (s : State) : State :=
  { s with cm := { s.cm with supply := .low }, pp := { s.pp with scaleDerate := 40 } }

/-- The part whose supply is back, before the output scale and CONDITIONS. -/
def State.resupplied (s : State) (elapsed : Nat) : State := { s with
  clk := { s.clk with now := s.clk.now + elapsed }
  cm := { s.cm with supply := .good }
  rj := { s.rj with goodSince := s.clk.now + elapsed } }

section

variable {s : State}

theorem State.forwarding_of_operating (operating : s.operating = true) : s.forwarding = true := by
  unfold State.forwarding
  rw [of_decide_eq_true (p := s.clk.phase = .running) operating]

theorem State.noteSupply_silent (still : s.forwarding = false) : s.noteSupply = s := if_neg (by rw [still]; decide)

theorem State.noteSupply_runs (operating : s.operating = true) : s.noteSupply = s.notifyConditions :=
  if_pos (State.forwarding_of_operating operating)

theorem State.resetScale_still (still : s.forwarding = false) :
    s.resetScale = s.withPp { s.pp with scaleDerate := s.cm.effectiveDerate } := if_neg (by rw [still]; decide)

theorem State.resetScale_runs (operating : s.operating = true) : s.resetScale = s :=
  if_pos (State.forwarding_of_operating operating)

theorem exec_supplyLow_from_good (up : s.clk.powerReset = false) (good : s.cm.supply = .good) :
    exec .supplyLow s = .next (if s.derated.noteSupply.operating then s.derated.noteSupply.stopWriter
      else s.derated.noteSupply) :=
  congrArg Host.Outcome.next ((if_neg (by rw [up]; decide)).trans (if_pos good))

theorem exec_supplyLow_still (up : s.clk.powerReset = false) (good : s.cm.supply = .good) (still : s.forwarding = false) :
    exec .supplyLow s = .next s.derated := by
  have off : ¬s.derated.operating = true := fun runs => by
    have forwards : s.forwarding = true := State.forwarding_of_operating (s := s.derated) runs
    simp [forwards] at still
  rw [exec_supplyLow_from_good up good, State.noteSupply_silent (s := s.derated) still, if_neg off]

theorem exec_supplyLow_runs (up : s.clk.powerReset = false) (good : s.cm.supply = .good) (operating : s.operating = true) :
    exec .supplyLow s = .next s.derated.notifyConditions.stopWriter := by
  have runs : s.derated.notifyConditions.operating = true := operating
  rw [exec_supplyLow_from_good up good, State.noteSupply_runs (s := s.derated) operating, if_pos runs]

theorem exec_supplyGood_from_low (up : s.clk.powerReset = false) (low : s.cm.supply = .low) (elapsed : Nat) :
    exec (.supplyGood elapsed) s = .next (s.resupplied elapsed).resetScale.noteSupply :=
  congrArg Host.Outcome.next ((if_pos low).trans (if_neg (by
    change ¬s.clk.powerReset = true
    rw [up]
    decide)))

/-- CONDITIONS is raised and nothing else changes (R150). -/
theorem State.notifyConditions_notice (s : State) :
    s.notifyConditions.notice 13 = ⟨min ((s.notice 13).count + 1) 255,
      some (.conditions s.cm.thermal s.cm.derate s.cm.supply)⟩ ∧
      ∀ k, k ≠ 13 → s.notifyConditions.notice k = s.notice k :=
  ⟨State.notify_notice_of_kind s rfl, fun _ other => State.notify_notice_of_other s (Ne.symm other)⟩

/-- A writer with nothing in progress stops at once (R139). -/
theorem State.stopWriter_idle (record : s.rj.record = none) (operation : s.rj.operation = none) :
    s.stopWriter = s.withRj { s.rj with writer := s.rj.writer.stopped, stopping := false } := by
  unfold State.stopWriter
  rw [State.stopIfDue_eq, State.withRj_rj, Journal.stopped_of_stopping (j := { s.rj with stopping := true }) rfl record
    operation]
  rfl

/-- A writer at work goes on to the end of that work (R139). -/
theorem State.stopWriter_busy (busy : s.rj.record ≠ none ∨ s.rj.operation ≠ none) :
    s.stopWriter = s.withRj { s.rj with stopping := true } :=
  if_neg (by
    rw [State.withRj_rj]
    simp only [Bool.and_eq_true, Option.isNone_iff_eq_none]
    rintro ⟨⟨-, record⟩, operation⟩
    exact busy.elim (fun h => h record) fun h => h operation)

/-- A stop changes the journal only. -/
theorem State.stopWriter_frame (s : State) : s.stopWriter = s.withRj s.stopWriter.rj := by
  unfold State.stopWriter
  rw [State.stopIfDue_eq]
  rfl

end

/-- Settles O12: the stops that wait for the work in progress, the changes of supply in reset, and those in operation. -/
theorem supplyLowAndGoodActAsStated : Obligations.SupplyLowAndGoodActAsStated := by
  refine ⟨fun s c bank operating stopping pair => ?_, fun s operating stopping operation writer record => ?_,
    fun s elapsed up still => ⟨fun good => ?_, fun low => ?_⟩,
    fun s elapsed up operating => ⟨fun good => ?_, fun low => ?_⟩⟩
  · obtain ⟨j, runs, own, other, owed, taken⟩ := exec_stops_compaction stopping operating pair
    obtain ⟨frame, held, due, goes, idle, reports, banks, owes⟩ := (s.withRj j).holdCompaction_spec
    rw [State.withRj_rj, owed, taken] at owes
    exact ⟨_, runs, frame, held, due, goes, idle, reports, (banks _).trans own, (banks _).trans other, owes⟩
  · have outside : ¬s.rj.compacting = true := by
      rw [s.rj.compacting_iff, writer]
      exact fun ⟨_, other⟩ => nomatch other
    rw [exec_bankEraseEnd_erased operating operation, if_neg outside, State.oldBankErased_stops stopping record writer]
    rfl
  · exact exec_supplyLow_still up good still
  · have scaled : (s.resupplied elapsed).resetScale = { s.resupplied elapsed with
        pp := { s.pp with scaleDerate := s.cm.derate.percent } } := State.resetScale_still (s := s.resupplied elapsed) still
    rw [exec_supplyGood_from_low up low, scaled, State.noteSupply_silent (s := { s.resupplied elapsed with pp := _ }) still]
    rfl
  · rw [exec_supplyLow_runs up good operating]
    obtain ⟨own, others⟩ := s.derated.notifyConditions_notice
    have frame := s.derated.notifyConditions.stopWriter_frame
    refine ⟨_, rfl, by rw [frame]; rfl, by rw [frame]; rfl, by rw [frame]; rfl, by rw [frame]; exact own,
      fun k other => by rw [frame]; exact others k other, fun record operation => ?_, fun busy => ?_⟩
    · rw [State.stopWriter_idle (s := s.derated.notifyConditions) record operation]
      rfl
    · rw [State.stopWriter_busy (s := s.derated.notifyConditions) busy]
      rfl
  · rw [exec_supplyGood_from_low up low, State.resetScale_runs (s := s.resupplied elapsed) operating,
      State.noteSupply_runs (s := s.resupplied elapsed) operating]
    obtain ⟨own, others⟩ := (s.resupplied elapsed).notifyConditions_notice
    exact ⟨_, rfl, rfl, rfl, rfl, rfl, own, others⟩

end Sys2Proof.Machine

end

section
/-! PROOFS. O58: the complete mark, and the reports that it delivers. -/

namespace Sys2Proof.Machine

/-! ## One report (R100, R101) -/

/-- A report binds the recording whose image it carries, or changes nothing. -/
theorem State.report_inversion (s : State) (w : RecordWrite) :
    s.report w = s ∨ ∃ n k, w = ⟨n, .spared k⟩ ∧ n < 9216 ∧ s.re.cell n = .pendingSpare .recording k ∧
      s.report w = s.bind n k := by
  obtain ⟨n, image⟩ := w
  by_cases held : n < 9216 ∧ ∃ k, image = .spared k ∧ s.re.cell n = .pendingSpare .recording k
  · obtain ⟨cell, k, rfl, waits⟩ := held
    exact .inr ⟨n, k, rfl, cell, waits, State.report_binds (w := ⟨n, .spared k⟩) cell waits rfl⟩
  · left
    unfold State.report
    split
    · rename_i k k' waits same
      refine if_neg fun both => held ?_
      obtain ⟨rfl, cell⟩ : k = k' ∧ n < Config.cells := by simpa using both
      exact ⟨cell, k, same, waits⟩
    · rfl

/-- A recording is counted like a bound cell, so its binding moves no tally (R116). -/
theorem State.bind_line {s : State} {n k : Nat} (waits : s.re.cell n = .pendingSpare .recording k) (l : Nat) :
    (s.bind n k).re.line l = s.re.line l := by
  refine RepairEngine.line_congr ?_ l
  unfold State.bind
  rw [State.notify_re, State.setCell_lines, State.setChannel_re_lines, State.dropProving_re_lines]
  rw [State.setChannel_cell, State.dropProving_cell, waits]
  rfl

theorem State.bind_budget (s : State) (n k : Nat) : (s.bind n k).re.budget = s.re.budget := by
  unfold State.bind
  simp

theorem State.bind_raises (s : State) (n k : Nat) : (s.bind n k).raisedFrom 1 (s.notice 1).count :=
  s.bindUnrecorded_raises n k

/-! ## Reports one after another -/

/-- The reports delivered in their order. -/
def State.reportAll (s : State) (reports : List RecordWrite) : State := reports.foldl State.report s

theorem State.reportAll_cons (s : State) (w : RecordWrite) (rest : List RecordWrite) :
    s.reportAll (w :: rest) = (s.report w).reportAll rest := rfl

/-- What every report keeps, all of them keep. -/
theorem State.reportAll_keeps {P : State → Prop} (keeps : ∀ t w, P t → P (t.report w)) (reports : List RecordWrite)
    {s : State} (h : P s) : P (s.reportAll reports) := foldl_keeps State.report keeps reports h

theorem State.reportAll_frame (s : State) (reports : List RecordWrite) :
    s.reportAll reports = { s with
      re := (s.reportAll reports).re, rj := (s.reportAll reports).rj, pp := (s.reportAll reports).pp
      nu := (s.reportAll reports).nu } := by
  refine (State.reportAll_keeps (fun t w => (Kept.repairOnly s).report w) reports s.repairOnly_refl).frame ?_
  refine State.reportAll_keeps (P := fun t => t.su = s.su) (fun t w kept => ?_) reports rfl
  obtain same | ⟨n, k, -, -, -, binds⟩ := t.report_inversion w
  · rwa [same]
  · rw [binds, State.bind_su, kept]

/-- Only SPARED is raised. -/
theorem State.reportAll_notice (s : State) (reports : List RecordWrite) {j : Nat} (other : j ≠ 1) :
    (s.reportAll reports).notice j = s.notice j := by
  refine State.reportAll_keeps (P := fun t => t.notice j = s.notice j) (fun t w kept => ?_) reports rfl
  obtain same | ⟨n, k, -, -, -, binds⟩ := t.report_inversion w
  · rwa [same]
  · rw [binds, (t.bind_notice n k).2 j other, kept]

/-- Reports that change anything raise SPARED. -/
theorem State.reportAll_raises (s : State) (reports : List RecordWrite) :
    s.reportAll reports = s ∨ (s.reportAll reports).raisedFrom 1 (s.notice 1).count := by
  induction reports with
  | nil => exact .inl rfl
  | cons w rest ih =>
    rw [State.reportAll_cons]
    obtain same | ⟨n, k, -, -, -, binds⟩ := s.report_inversion w
    · rwa [same]
    · rw [binds]
      exact .inr (State.reportAll_keeps (P := fun t => t.raisedFrom 1 (s.notice 1).count)
        (fun _ w => (Kept.raisedFrom 1 _).report w) rest (s.bind_raises n k))

/-- Reports that meet no recording change nothing. -/
theorem State.reportAll_none {s : State} {reports : List RecordWrite}
    (none : ∀ n k, n < 9216 → ⟨n, .spared k⟩ ∈ reports → s.re.cell n ≠ .pendingSpare .recording k) :
    s.reportAll reports = s := by
  induction reports with
  | nil => rfl
  | cons w rest ih =>
    rw [State.reportAll_cons]
    obtain same | ⟨n, k, rfl, cell, waits, -⟩ := s.report_inversion w
    · rw [same]
      exact ih fun n k cell on => none n k cell (List.mem_cons_of_mem _ on)
    · exact absurd waits (none n k cell List.mem_cons_self)

/-- A cell changes only from the recording that a report names to SPARED on its channel. -/
theorem State.report_cell (s : State) (w : RecordWrite) (n : Nat) :
    (s.report w).re.cell n = s.re.cell n ∨ ∃ k, w = ⟨n, .spared k⟩ ∧ n < 9216 ∧
      s.re.cell n = .pendingSpare .recording k ∧ (s.report w).re.cell n = .spared k := by
  obtain same | ⟨m, k, rfl, cell, waits, binds⟩ := s.report_inversion w
  · exact .inl (by rw [same])
  · have cells := (s.bind_maps m k).1 n
    rw [binds, cells]
    by_cases here : m = n
    · subst here
      exact .inr ⟨k, rfl, cell, waits, if_pos rfl⟩
    · exact .inl (if_neg here)

/-- The recording that a report names is bound; once bound it stays so. -/
theorem State.reportAll_binds {s : State} {n k : Nat} {reports : List RecordWrite} (cell : n < 9216)
    (waits : s.re.cell n = .spared k ∨ s.re.cell n = .pendingSpare .recording k ∧ ⟨n, .spared k⟩ ∈ reports) :
    (s.reportAll reports).re.cell n = .spared k := by
  induction reports generalizing s with
  | nil => simpa [State.reportAll] using waits
  | cons w rest ih =>
    rw [State.reportAll_cons]
    refine ih ?_
    obtain same | ⟨k', -, -, waited, bound⟩ := s.report_cell w n
    · rw [same]
      refine waits.imp id fun ⟨state, on⟩ => ⟨state, (List.mem_cons.1 on).resolve_left fun first => ?_⟩
      have binds : s.report w = s.bind n k := by
        rw [← first]
        exact State.report_binds (w := ⟨n, .spared k⟩) cell state rfl
      rw [binds, (s.bind_maps n k).1, if_pos rfl, state] at same
      cases same
    · left
      rw [waited] at waits
      obtain spared | ⟨recording, -⟩ := waits
      · cases spared
      · cases recording
        exact bound

/-- A cell whose recording no report names stays as it was. -/
theorem State.reportAll_leaves {s : State} {n : Nat} {reports : List RecordWrite}
    (unnamed : ∀ k, n < 9216 → ⟨n, .spared k⟩ ∈ reports → s.re.cell n ≠ .pendingSpare .recording k) :
    (s.reportAll reports).re.cell n = s.re.cell n := by
  induction reports generalizing s with
  | nil => rfl
  | cons w rest ih =>
    obtain same | ⟨k, rfl, cell, waits, -⟩ := s.report_cell w n
    · rw [State.reportAll_cons, ih fun k cell on => by
        rw [same]
        exact unnamed k cell (List.mem_cons_of_mem _ on), same]
    · exact absurd waits (unnamed k cell List.mem_cons_self)

theorem State.reportAll_strike (s : State) (reports : List RecordWrite) (k : Nat) :
    ((s.reportAll reports).re.channel k).strike = (s.re.channel k).strike := by
  refine State.reportAll_keeps (P := fun t => (t.re.channel k).strike = (s.re.channel k).strike) (fun t w kept => ?_)
    reports rfl
  obtain same | ⟨n, j, -, -, -, binds⟩ := t.report_inversion w
  · rwa [same]
  · rw [binds, State.bind_strike, kept]

/-- What reports leave of the maps, the lists and the journal. -/
structure State.ReportsKeep (s t : State) : Prop where
  agree : t.re.consistent
  journal : t.rj = s.rj
  suspects : t.re.suspects = s.re.suspects
  budget : t.re.budget = s.re.budget
  dies : ∀ n, t.re.die n = s.re.die n
  lines : ∀ l, t.re.line l = s.re.line l

theorem State.ReportsKeep.report {s t : State} (kept : s.ReportsKeep t) (w : RecordWrite) : s.ReportsKeep (t.report w) := by
  obtain ⟨agree, journal, suspects, budget, dies, lines⟩ := kept
  obtain same | ⟨n, k, -, -, waits, binds⟩ := t.report_inversion w
  · rw [same]
    exact ⟨agree, journal, suspects, budget, dies, lines⟩
  · obtain ⟨-, dies', -, -, suspects', -⟩ := t.bind_maps n k
    rw [binds]
    exact ⟨State.bind_consistent agree (.inl waits), (State.bind_rj agree waits).trans journal, suspects'.trans suspects,
      (t.bind_budget n k).trans budget, fun n => (dies' n).trans (dies n),
      fun l => (State.bind_line waits l).trans (lines l)⟩

theorem State.reportAll_keep {s : State} (agree : s.re.consistent) (reports : List RecordWrite) :
    s.ReportsKeep (s.reportAll reports) :=
  State.reportAll_keeps (fun _ w kept => kept.report w) reports
    ⟨agree, rfl, rfl, rfl, fun _ => rfl, fun _ => rfl⟩

/-- In maps that agree a cell's state says what its channel is doing. -/
theorem RepairEngine.consistent.channel_state {r q : RepairEngine} (agree : r.consistent) (agree' : q.consistent) {n k : Nat}
    (same : q.cell n = r.cell n) (named : (r.cell n).channel = some k) : (q.channel k).state = (r.channel k).state := by
  obtain ⟨state, claimed⟩ := CellState.claim_some n named
  rw [((RepairEngine.channelsAgree_iff r).1 agree.1).1 n k state claimed,
    ((RepairEngine.channelsAgree_iff q).1 agree'.1).1 n k state (same ▸ claimed)]

section

variable {s : State} (agree : s.re.consistent) {reports : List RecordWrite} {n : Nat}
include agree

/-- A recording that a report names is bound, with SPARED (R100, R101). -/
theorem State.reportAll_bound {k : Nat} (cell : n < 9216) (on : ⟨n, .spared k⟩ ∈ reports)
    (waits : s.re.cell n = .pendingSpare .recording k) :
    (s.reportAll reports).re.cell n = .spared k ∧
      (s.reportAll reports).re.channel k = ⟨.bound n, (s.re.channel k).strike⟩ ∧
      (∀ p ∈ (s.reportAll reports).re.provings, p.channel ≠ k) ∧
      (s.reportAll reports).raisedFrom 1 (s.notice 1).count := by
  have bound := State.reportAll_binds cell (.inr ⟨waits, on⟩)
  have kept := (State.reportAll_keep agree reports).agree
  refine ⟨bound, ?_, fun p listed same => ?_, (s.reportAll_raises reports).resolve_left fun same => ?_⟩
  · rw [← s.reportAll_strike reports k, ← (kept.1 n k).2.2.1 bound]
  · have stands : (s.reportAll reports).re.cell p.cell = .pendingSpare p.phase p.channel := kept.2.1 p listed
    have here : p.cell = n := kept.alone (k := k) (by rw [bound]; rfl) (by rw [stands, same]; rfl)
    rw [here, bound] at stands
    cases stands
  · rw [same, waits] at bound
    cases bound

/-- A cell whose recording no report names keeps its state and its channel's entry. -/
theorem State.reportAll_unnamed
    (unnamed : ∀ k, n < 9216 → ⟨n, .spared k⟩ ∈ reports → s.re.cell n ≠ .pendingSpare .recording k) :
    (s.reportAll reports).re.cell n = s.re.cell n ∧
      ∀ k, (s.re.cell n).channel = some k → (s.reportAll reports).re.channel k = s.re.channel k := by
  have same := State.reportAll_leaves unnamed
  refine ⟨same, fun k named => ?_⟩
  have state := agree.channel_state (State.reportAll_keep agree reports).agree same named
  have strike := s.reportAll_strike reports k
  cases before : s.re.channel k
  cases after : (s.reportAll reports).re.channel k
  simp_all

end

/-! ## The complete mark (R134, R139) -/

/-- The journal whose new bank has become the active one. -/
def Journal.marked (j : Journal) : Journal :=
  { j.setBank j.newBank { j.bank j.newBank with complete := true } with
    active := some j.newBank, heldReports := [], walkTaken := [], walk := 0, unrecorded := false }

/-- The journal after the complete mark: the old bank's erase begins, or a stop that waits is made. -/
def Journal.markEnded (j : Journal) : Journal := (j.marked.afterMark j.active).stopped

/-- The state in which the reports that the snapshot held back have been delivered. -/
def State.delivered (s : State) : State := (s.withRj s.rj.marked).reportAll s.rj.heldReports

theorem exec_completeMarkWriteEnd_written {s : State} (operating : s.operating = true)
    (operation : s.rj.operation = some .mark) :
    exec (.completeMarkWriteEnd true) s = .next ((s.delivered.notify (.journal .compacted)).withRj
      (s.delivered.rj.afterMark s.rj.active).stopped).reconsider := by
  refine congrArg Host.Outcome.next ((if_pos ?_).trans ?_)
  · rw [operating, decide_eq_true operation]
    rfl
  · exact congrArg State.reconsider (State.stopIfDue_eq _)

theorem Journal.marked_rest (j : Journal) :
    j.marked = { j with
      bank0 := j.marked.bank0, bank1 := j.marked.bank1, active := some j.newBank, heldReports := [], walkTaken := []
      walk := 0, unrecorded := false } := by
  unfold Journal.marked
  rw [Journal.setBank_eq]

theorem Journal.marked_bank (j : Journal) :
    j.marked.bank j.newBank = { j.bank j.newBank with complete := true } ∧
      j.marked.bank j.newBank.other = j.bank j.newBank.other := by
  have banks : ∀ i, j.marked.bank i = (j.setBank j.newBank { j.bank j.newBank with complete := true }).bank i :=
    Journal.bank_congr rfl rfl
  exact ⟨(banks _).trans (Journal.setBank_same _ _ _), (banks _).trans (Journal.setBank_other _ _ _)⟩

theorem Journal.stopped_of_operation {j : Journal} {op : Operation} (operation : j.operation = some op) : j.stopped = j :=
  if_neg (by simp [operation])

/-- With an old bank its erase begins with its header, and a stop goes on waiting. -/
theorem Journal.markEnded_some {j : Journal} {old : BankId} (active : j.active = some old) :
    j.markEnded = { j.marked.setBank old { j.bank old with generation := 0, complete := false } with
      operation := some .erase, writer := .erasingOld } := by
  have new : j.newBank = old.other := by
    unfold Journal.newBank
    rw [active]
  have back : old.other.other = old := by cases old <;> rfl
  obtain ⟨-, other⟩ := j.marked_bank
  rw [new, back] at other
  have erases : j.marked.erasing = old := by
    unfold Journal.erasing Journal.newBank
    rw [show j.marked.active = some j.newBank from rfl, new]
    exact back
  unfold Journal.markEnded Journal.afterMark
  rw [active]
  dsimp only
  rw [Journal.stopped_of_operation (op := .erase) rfl]
  unfold Journal.beginErase
  rw [erases, other]
  rfl

/-- The journal after the complete mark without an old bank, before a stop that waits. -/
def Journal.markedAlone (j : Journal) : Journal :=
  { j.marked with operation := none, writer := if j.owed = [] then .idle else .writing }

theorem Journal.markedAlone_rest (j : Journal) :
    j.markedAlone = { j with
      bank0 := j.marked.bank0, bank1 := j.marked.bank1, active := some j.newBank, heldReports := [], walkTaken := []
      walk := 0, unrecorded := false, operation := none, writer := if j.owed = [] then .idle else .writing } := by
  unfold Journal.markedAlone
  rw [j.marked_rest]

/-- Without an old bank the writer is free, or HELD where a stop waits. -/
theorem Journal.markEnded_none {j : Journal} (active : j.active = none) : j.markEnded = j.markedAlone.stopped := by
  have owed : j.marked.owed = j.owed := by rw [Journal.marked_rest]
  unfold Journal.markEnded Journal.afterMark Journal.markedAlone
  rw [active]
  dsimp only
  rw [Journal.free_eq, owed]

/-- What the complete mark leaves of the journal, with and without an old bank. -/
theorem Journal.markEnded_rest (j : Journal) :
    j.markEnded.active = some j.newBank ∧ j.markEnded.unrecorded = false ∧ j.markEnded.heldReports = [] ∧
      j.markEnded.walkTaken = [] ∧ j.markEnded.bank j.newBank = { j.bank j.newBank with complete := true } ∧
      j.markEnded.owed = j.owed ∧ j.markEnded.liveImages = j.liveImages ∧ j.markEnded.record = j.record := by
  obtain ⟨own, -⟩ := j.marked_bank
  have rest := j.marked_rest
  cases active : j.active with
  | none =>
    rw [Journal.markEnded_none active, Journal.stopped_eq, j.markedAlone_rest]
    exact ⟨rfl, rfl, rfl, rfl, (Journal.bank_congr rfl rfl _).trans own, rfl, rfl, rfl⟩
  | some old =>
    have apart : j.newBank = old.other := by
      unfold Journal.newBank
      rw [active]
    have bank : (j.marked.setBank old { j.bank old with generation := 0, complete := false }).bank j.newBank =
        j.marked.bank j.newBank := by
      rw [apart]
      exact Journal.setBank_other _ _ _
    rw [Journal.markEnded_some active, Journal.setBank_eq]
    exact ⟨rfl, rfl, rfl, rfl, ((Journal.bank_congr rfl rfl _).trans bank).trans own, by rw [rest], by rw [rest],
      by rw [rest]⟩

theorem Journal.markEnded_erases {j : Journal} {old : BankId} (active : j.active = some old) :
    j.markEnded.writer = .erasingOld ∧ j.markEnded.operation = some .erase ∧ j.markEnded.stopping = j.stopping ∧
      j.markEnded.bank old = { j.bank old with generation := 0, complete := false } := by
  rw [Journal.markEnded_some active, Journal.setBank_eq]
  exact ⟨rfl, rfl, by rw [j.marked_rest], (Journal.bank_congr rfl rfl _).trans (Journal.setBank_same _ _ _)⟩

theorem Journal.markEnded_frees {j : Journal} (active : j.active = none) :
    j.markEnded.operation = none ∧
      (j.stopping = false → j.markEnded.stopping = false ∧
        j.markEnded.writer = if j.owed = [] then .idle else .writing) ∧
      (j.stopping = true → j.record = none → j.markEnded.writer = .held false ∧ j.markEnded.stopping = false) := by
  rw [Journal.markEnded_none active]
  refine ⟨by rw [Journal.stopped_eq]; rfl, fun goes => ?_, fun stops free => ?_⟩
  · have stays : j.markedAlone.stopping = false := by rwa [j.markedAlone_rest]
    rw [Journal.stopped_of_not_stopping stays]
    exact ⟨stays, rfl⟩
  · have waits : j.markedAlone.stopping = true ∧ j.markedAlone.record = none := by
      rw [j.markedAlone_rest]
      exact ⟨stops, free⟩
    rw [Journal.stopped_of_stopping waits.1 waits.2 rfl]
    refine ⟨?_, rfl⟩
    unfold Journal.markedAlone
    dsimp only
    split <;> rfl

/-- What the reports deliver changes the journal no further, in maps that agree. -/
theorem State.delivered_rj {s : State} (agree : s.re.consistent) : s.delivered.rj = s.rj.marked :=
  (State.reportAll_keep (s := s.withRj s.rj.marked) agree s.rj.heldReports).journal

/-- The state after the complete mark, before the candidate is reconsidered. -/
def State.markDone (s : State) : State := (s.delivered.notify (.journal .compacted)).withRj s.rj.markEnded

theorem exec_completeMarkWriteEnd_done {s : State} (operating : s.operating = true)
    (operation : s.rj.operation = some .mark) (journal : s.delivered.rj = s.rj.marked) :
    exec (.completeMarkWriteEnd true) s = .next s.markDone.reconsider := by
  rw [exec_completeMarkWriteEnd_written operating operation, journal]
  rfl

/-- COMPACTED is raised. -/
theorem State.delivered_notice (s : State) :
    (s.delivered.notify (.journal .compacted)).notice 14 =
      ⟨min ((s.notice 14).count + 1) 255, some (.journal .compacted)⟩ := by
  have before : s.delivered.notice 14 = s.notice 14 := State.reportAll_notice _ _ (by decide)
  rw [State.notify_notice_of_kind _ (k := 14) rfl, before]

/-- Of the notices COMPACTED and SPARED alone are raised. -/
theorem State.markDone_notice (s : State) :
    s.markDone.notice 14 = ⟨min ((s.notice 14).count + 1) 255, some (.journal .compacted)⟩ ∧
      (∀ j, j ≠ 14 → s.markDone.notice j = s.delivered.notice j) ∧
      ∀ j, j ≠ 1 → j ≠ 14 → s.markDone.notice j = s.notice j := by
  have others : ∀ j, j ≠ 14 → s.markDone.notice j = s.delivered.notice j := fun j other =>
    State.notify_notice_of_other s.delivered (Ne.symm other)
  exact ⟨s.delivered_notice, others, fun j spared other => (others j other).trans (State.reportAll_notice _ _ spared)⟩

theorem State.markDone_frame (s : State) :
    s.markDone = { s with re := s.delivered.re, rj := s.rj.markEnded, pp := s.delivered.pp, nu := s.markDone.nu } := by
  have frame : s.delivered = { s with
      re := s.delivered.re, rj := s.delivered.rj, pp := s.delivered.pp, nu := s.delivered.nu } :=
    (s.withRj s.rj.marked).reportAll_frame s.rj.heldReports
  generalize marked : s.markDone = t
  unfold State.markDone at marked
  rw [frame] at marked
  rw [← marked]
  rfl

/-- Settles O58: the journal after the mark, and the reports delivered one after another before it. -/
theorem theCompleteMarkMakesTheNewBankActive : Obligations.TheCompleteMarkMakesTheNewBankActive := by
  refine ⟨fun s operating operation agree => ?_, fun s operating operation reports => ?_⟩
  · obtain ⟨active, unrecorded, held, taken, bank, owed, live, record⟩ := s.rj.markEnded_rest
    obtain ⟨compacted, spared, others⟩ := s.markDone_notice
    obtain ⟨-, -, suspects, budget, dies, lines⟩ :=
      State.reportAll_keep (s := s.withRj s.rj.marked) agree s.rj.heldReports
    refine ⟨_, exec_completeMarkWriteEnd_done operating operation (State.delivered_rj agree), s.markDone_frame,
      active, unrecorded, held, taken, bank, owed, live, record, suspects, budget, dies, lines, compacted, others,
      fun n k cell on waits => ?_, fun n unnamed => State.reportAll_unnamed (s := s.withRj s.rj.marked) agree unnamed,
      fun none => ?_, fun old was => Journal.markEnded_erases was, fun was => Journal.markEnded_frees was⟩
    · obtain ⟨state, channel, provings, raised⟩ := State.reportAll_bound (s := s.withRj s.rj.marked) agree cell on waits
      refine ⟨state, channel, provings, ?_⟩
      rw [spared 1 (by decide)]
      exact raised
    · have same : s.delivered = s.withRj s.rj.marked := State.reportAll_none (s := s.withRj s.rj.marked) none
      rw [spared 1 (by decide)]
      change s.delivered.re = s.re ∧ s.delivered.pp = s.pp ∧ s.delivered.notice 1 = s.notice 1
      rw [same]
      exact ⟨rfl, rfl, rfl⟩
  · obtain ⟨active, unrecorded, -, -, bank, owed, -, record⟩ := s.rj.markEnded_rest
    have same : s.delivered = s.withRj s.rj.marked := by
      unfold State.delivered
      rw [reports]
      rfl
    obtain ⟨compacted, -, others⟩ := s.markDone_notice
    refine ⟨_, exec_completeMarkWriteEnd_done operating operation (by rw [same]; rfl), ?_, active, unrecorded, bank, owed,
      record, compacted, fun k other => ?_, fun old was => Journal.markEnded_erases was,
      fun was => Journal.markEnded_frees was⟩
    · rw [s.markDone_frame, same]
      rfl
    · refine (State.notify_notice_of_other s.delivered (Ne.symm other)).trans ?_
      rw [same]
      rfl

end Sys2Proof.Machine

end

section
/-! PROOFS. O60: COMPACT. -/

namespace Sys2Proof.Machine

/-! ## What COMPACT does (R144) -/

section

variable {s : State}

theorem compactOp_malformed {body : List Byte} (long : body ≠ []) (s : State) :
    compactOp body s = s.refuse .malformed := if_neg (by simpa using long)

theorem compactOp_accepted (writer : s.rj.writer = .idle ∨ s.rj.writer = .writing ∨ s.rj.writer = .full) :
    compactOp [] s = (s.withRj { s.rj with due := true }, ⟨.accepted, []⟩) := by
  obtain state | state | state := writer <;> simp only [compactOp, State.emptyBody, List.isEmpty_nil, if_true, state]

theorem compactOp_busy
    (writer : (∃ step, s.rj.writer = .compacting step) ∨ s.rj.writer = .erasingOld ∨
      ∃ full, s.rj.writer = .held full) : compactOp [] s = s.refuse .busy := by
  obtain ⟨step, state⟩ | state | ⟨full, state⟩ := writer <;>
    simp only [compactOp, State.emptyBody, List.isEmpty_nil, if_true, state]

theorem compactOp_faulted (writer : s.rj.writer = .faulted) : compactOp [] s = s.refuse .wrongState := by
  simp only [compactOp, State.emptyBody, List.isEmpty_nil, if_true, writer]

end

/-- Settles O60: COMPACT by the writer's state, and the two ends of the compaction that it asks for. -/
theorem compactMakesACompactionDue : Obligations.CompactMakesACompactionDue := by
  refine ⟨fun s r serves => ?_, fun s operating due full record operation goes many => ?_,
    fun s operating operation => ?_⟩
  · have refuses : ∀ {status}, compactOp r.body (s.heard r 23) = (s.heard r 23).refuse status →
        exec (.compact r) s = .next (s.refused r 23 status) := fun answer =>
      congrArg Host.Outcome.next (serves.refuses rfl (by decide) answer)
    refine ⟨fun long => refuses (compactOp_malformed long _), fun empty => ⟨fun writer => ?_, fun writer => ?_,
      fun writer => ?_⟩⟩
    · refine congrArg Host.Outcome.next (serves.does rfl (by decide) ?_)
      rw [empty, compactOp_accepted (by rwa [State.heard_rj]), State.heard_rj]
      rfl
    · exact refuses (by rw [empty, compactOp_busy (by rwa [State.heard_rj])])
    · exact refuses (by rw [empty, compactOp_faulted (by rwa [State.heard_rj])])
  · have may := s.mayStartCompaction_iff.2 ⟨⟨operating, due, record, operation, goes⟩, .inr (.inr full)⟩
    obtain ⟨stays, -, -, -, -, notice, -⟩ := s.enterFull_spec
    rw [exec_compactionStart_starts may, State.startCompaction_fills many]
    exact ⟨_, rfl, stays, notice⟩
  · exact ⟨_, exec_completeMarkWriteEnd_written operating operation, s.delivered_notice⟩

end Sys2Proof.Machine

end

section
/-! PROOFS. O9: what a failing supply and the reset pin leave of the work that they cut. -/

namespace Sys2Proof.Machine

theorem BankId.eq_other {i k : BankId} (apart : i ≠ k) : i = k.other := by
  cases i <;> cases k
  case zero.one | one.zero => rfl
  all_goals exact absurd rfl apart

theorem Journal.setBank_apart (j : Journal) {i k : BankId} (b : Bank) (apart : i ≠ k) :
    (j.setBank k b).bank i = j.bank i := by
  rw [BankId.eq_other apart]
  exact Journal.setBank_other _ _ _

/-! ## The record write that is cut (R129, R146) -/

/-- The slot that a cut record write leaves: complete when its mark was written, else torn. -/
def RecordWrite.cutSlot (w : RecordWrite) (cut : Cut) : Slot :=
  if cut.markWritten then .complete w.subject w.image else .torn

/-- A slot goes into the bank that records go to, and leaves the other bank, the headers' generations and everything but the
banks. -/
theorem Journal.useSlot_rest (j : Journal) (x : Slot) :
    j.useSlot x = { j with bank0 := (j.useSlot x).bank0, bank1 := (j.useSlot x).bank1 } ∧
      (∀ i, ((j.useSlot x).bank i).generation = (j.bank i).generation) ∧
      (∀ i, j.writesTo = some i → (j.useSlot x).bank i = { j.bank i with slots := (j.bank i).slots ++ [x] }) ∧
      ∀ i, j.writesTo ≠ some i → (j.useSlot x).bank i = j.bank i := by
  cases place : j.writesTo with
  | none =>
    have same : j.useSlot x = j := by
      unfold Journal.useSlot
      rw [place]
    rw [same]
    exact ⟨rfl, fun _ => rfl, nofun, fun _ _ => rfl⟩
  | some k =>
    rw [Journal.useSlot_eq place]
    refine ⟨Journal.setBank_eq _ _ _, fun i => ?_, fun i same => ?_,
      fun i other => Journal.setBank_apart _ _ fun same => other (same ▸ rfl)⟩
    · cases i <;> cases k <;> rfl
    · cases same
      exact Journal.setBank_same _ _ _

/-- What the cut of a record write leaves: everything but the banks, their generations, and every bank that it does not
write to. -/
theorem Journal.cutRecord_rest (j : Journal) (cut : Cut) :
    j.cutRecord cut = { j with bank0 := (j.cutRecord cut).bank0, bank1 := (j.cutRecord cut).bank1 } ∧
      (∀ i, ((j.cutRecord cut).bank i).generation = (j.bank i).generation) ∧
      ∀ i, j.record = none ∨ j.writesTo ≠ some i → (j.cutRecord cut).bank i = j.bank i := by
  unfold Journal.cutRecord
  split
  · rename_i w record
    obtain ⟨rest, generations, -, others⟩ := j.useSlot_rest (w.cutSlot cut)
    exact ⟨rest, generations, fun i other => others i (other.resolve_left fun none => nomatch none.symm.trans record)⟩
  · exact ⟨rfl, fun _ => rfl, fun _ _ => rfl⟩

theorem Journal.cutRecord_writes {j : Journal} {w : RecordWrite} {i : BankId} (record : j.record = some w)
    (place : j.writesTo = some i) (cut : Cut) :
    (j.cutRecord cut).bank i = { j.bank i with slots := (j.bank i).slots ++ [w.cutSlot cut] } := by
  obtain ⟨-, -, own, -⟩ := j.useSlot_rest (w.cutSlot cut)
  have cuts : j.cutRecord cut = j.useSlot (w.cutSlot cut) := by
    unfold Journal.cutRecord
    rw [record]
    rfl
  rw [cuts]
  exact own i place

/-! ## The operation that is cut (R129, R146) -/

theorem Journal.cutOperation_other {j : Journal} {i : BankId} (other : j.operation = none ∨ i ≠ j.newBank) (cut : Cut) :
    (j.cutOperation cut).bank i = j.bank i := by
  unfold Journal.cutOperation
  have apart : ∀ {op}, j.operation = some op → i ≠ j.newBank := fun runs =>
    other.resolve_left fun none => nomatch none.symm.trans runs
  split
  · rename_i erase
    exact Journal.setBank_apart _ _ (apart erase)
  · rename_i header
    split
    · exact Journal.setBank_apart _ _ (apart header)
    · rfl
  · rename_i mark
    exact Journal.setBank_apart _ _ (apart mark)
  · rfl

/-- What the cut of an operation leaves of the new bank. -/
theorem Journal.cutOperation_bank (j : Journal) (cut : Cut) :
    (j.operation = some .erase →
      (j.cutOperation cut).bank j.newBank = ⟨0, false, (j.bank j.newBank).slots.take cut.slotsLeft⟩) ∧
      (j.operation = some .header → cut.markWritten = true →
        (j.cutOperation cut).bank j.newBank = ⟨j.nextGeneration, false, (j.bank j.newBank).slots⟩) ∧
      (j.operation = some .header → cut.markWritten = false → (j.cutOperation cut).bank j.newBank = j.bank j.newBank) ∧
      (j.operation = some .mark →
        (j.cutOperation cut).bank j.newBank = { j.bank j.newBank with complete := cut.markWritten }) := by
  unfold Journal.cutOperation
  refine ⟨fun erase => ?_, fun header written => ?_, fun header unwritten => ?_, fun mark => ?_⟩
  · rw [erase]
    exact Journal.setBank_same _ _ _
  · rw [header]
    dsimp only
    rw [if_pos written]
    exact Journal.setBank_same _ _ _
  · rw [header]
    dsimp only
    rw [if_neg (by rw [unwritten]; decide)]
  · rw [mark]
    exact Journal.setBank_same _ _ _

/-! ## The part that stops (R151, R152) -/

/-- The journal whose work has been cut. -/
def Journal.cutWork (j : Journal) (cut : Cut) : Journal := (j.cutRecord cut).cutOperation cut

/-- A failing supply and the reset pin leave the banks of the cut work. -/
theorem exec_cuts {s : State} {cut : Cut} {c : Instr} (up : s.clk.powerReset = false) (free : s.clk.pinHeld = false)
    (cuts : c ∈ [Instr.supplyFail cut, Instr.resetPinAssert cut]) :
    ∃ t, exec c s = .next t ∧ ∀ i, t.rj.bank i = (s.rj.cutWork cut).bank i := by
  simp only [List.mem_cons, List.not_mem_nil, or_false] at cuts
  obtain rfl | rfl := cuts
  · exact ⟨_, congrArg Host.Outcome.next (if_neg (by rw [up]; decide)), Journal.bank_congr rfl rfl⟩
  · have stops : (if s.clk.powerReset then s else s.stopPart cut) = s.stopPart cut := if_neg (by rw [up]; decide)
    refine ⟨_, congrArg Host.Outcome.next (if_neg (by rw [free]; decide)), ?_⟩
    rw [stops]
    exact Journal.bank_congr rfl rfl

/-- Settles O9: the record write is cut first, which leaves the operation's bank its generation and, unless the record goes
there, its slots. -/
theorem cutWorkLeavesTheBanksAsStated : Obligations.CutWorkLeavesTheBanksAsStated := by
  intro s cut up free c cuts
  obtain ⟨t, runs, banks⟩ := exec_cuts up free cuts
  obtain ⟨rest, generations, others⟩ := s.rj.cutRecord_rest cut
  have same : (s.rj.cutRecord cut).newBank = s.rj.newBank ∧ (s.rj.cutRecord cut).operation = s.rj.operation ∧
      (s.rj.cutRecord cut).nextGeneration = s.rj.nextGeneration := by
    have active : (s.rj.cutRecord cut).active = s.rj.active := by rw [rest]
    refine ⟨?_, by rw [rest], ?_⟩
    · unfold Journal.newBank
      rw [active]
    · unfold Journal.nextGeneration
      rw [active]
      simp only [generations]
  obtain ⟨new, operation, generation⟩ := same
  have apart : ∀ i, s.rj.operation = none ∨ i ≠ s.rj.newBank →
      (s.rj.cutWork cut).bank i = (s.rj.cutRecord cut).bank i := fun i other =>
    Journal.cutOperation_other (by rwa [new, operation]) cut
  refine ⟨t, runs, fun w i record place other => ?_, fun elsewhere => ?_, fun i unwritten other => ?_⟩
  · rw [banks, apart i other, Journal.cutRecord_writes record place]
    rfl
  · have cutBank := (s.rj.cutRecord cut).cutOperation_bank cut
    rw [new, operation, generation, others _ elsewhere] at cutBank
    rw [banks]
    exact cutBank
  · rw [banks, apart i other, others i unwritten]

end Sys2Proof.Machine

end

section
/-! PROOFS. O15: the bank scan, replay and the writer at the end of start-up. -/

namespace Sys2Proof.Machine

/-! ## Several occurrences of one kind (R171) -/

/-- A notice record after a number of occurrences with one detail. -/
def Notice.raised (n : Notice) (times : Nat) (d : Detail) : Notice :=
  if times = 0 then n else ⟨min (n.count + times) 255, some d⟩

theorem Notice.raised_succ (n : Notice) (times : Nat) (d : Detail) :
    ⟨min ((n.raised times d).count + 1) 255, some d⟩ = n.raised (times + 1) d := by
  unfold Notice.raised
  rw [if_neg (Nat.succ_ne_zero times)]
  split
  · rename_i none
    rw [none]
  · congr 1
    dsimp only
    omega

/-- Occurrences of three details in turn: their number counts, and the last of them that came about stays. -/
theorem Notice.raised_thrice (n : Notice) (a b c : Nat) (d e f : Detail) (once : c = 0 ∨ c = 1) :
    (a + b + c = 0 → ((n.raised a d).raised b e).raised c f = n) ∧
      (a + b + c ≠ 0 → ((n.raised a d).raised b e).raised c f =
        ⟨min (n.count + (a + b + c)) 255, some (if c = 1 then f else if b ≠ 0 then e else d)⟩) := by
  unfold Notice.raised
  refine ⟨fun none => ?_, fun some => ?_⟩
  · rw [if_pos (by omega), if_pos (by omega), if_pos (by omega)]
  · have counts : ∀ x y z : Nat, min (min (x + y) 255 + z) 255 = min (x + (y + z)) 255 := by omega
    by_cases first : a = 0 <;> by_cases second : b = 0 <;> obtain rfl | rfl := once <;>
      simp_all [Nat.add_assoc]

theorem State.repeatNotify_spec (s : State) (d : Detail) (times : Nat) :
    Nat.repeat (fun t => t.notify d) times s = { s with nu := (Nat.repeat (fun t => t.notify d) times s).nu } ∧
      (Nat.repeat (fun t => t.notify d) times s).notice d.kind.number = (s.notice d.kind.number).raised times d := by
  induction times with
  | zero => exact ⟨rfl, rfl⟩
  | succ times ih =>
    obtain ⟨frame, notice⟩ := ih
    refine ⟨?_, ?_⟩
    · change (Nat.repeat (fun t => t.notify d) times s).notify d = { s with
        nu := ((Nat.repeat (fun t => t.notify d) times s).notify d).nu }
      rw [frame]
      rfl
    · rw [← Notice.raised_succ, ← notice]
      exact State.notify_notice_of_kind _ rfl

/-! ## The bank scan (R140) -/

theorem Journal.conflict_iff (j : Journal) :
    j.conflict = true ↔ j.bank0.complete = true ∧ j.bank1.complete = true ∧
      j.bank1.generation ≠ (j.bank0.generation + 1) % 16777216 ∧
      j.bank0.generation ≠ (j.bank1.generation + 1) % 16777216 := by
  unfold Journal.conflict follows Config.generations
  simp [and_assoc]

/-- The active bank that the headers choose, case by case. -/
theorem Journal.scan_cases (j : Journal) :
    (j.bank0.complete = false → j.bank1.complete = false → j.scan = none) ∧
      (j.bank0.complete = true → j.bank1.complete = false → j.scan = some .zero) ∧
      (j.bank0.complete = false → j.bank1.complete = true → j.scan = some .one) ∧
      (j.bank0.complete = true → j.bank1.complete = true →
        j.bank1.generation = (j.bank0.generation + 1) % 16777216 → j.scan = some .one) ∧
      (j.bank0.complete = true → j.bank1.complete = true →
        j.bank1.generation ≠ (j.bank0.generation + 1) % 16777216 →
        j.bank0.generation = (j.bank1.generation + 1) % 16777216 → j.scan = some .zero) ∧
      (j.bank0.complete = true → j.bank1.complete = true →
        j.bank1.generation ≠ (j.bank0.generation + 1) % 16777216 →
        j.bank0.generation ≠ (j.bank1.generation + 1) % 16777216 →
        j.scan = some (if j.bank0.generation < j.bank1.generation then .one else .zero)) := by
  have headers : ∀ {a b}, j.bank0.complete = a → j.bank1.complete = b → j.scan = match a, b with
      | false, false => none
      | true, false => some .zero
      | false, true => some .one
      | true, true =>
        if j.bank1.generation = (j.bank0.generation + 1) % 16777216 then some .one
        else if j.bank0.generation = (j.bank1.generation + 1) % 16777216 then some .zero
        else some (if j.bank0.generation < j.bank1.generation then .one else .zero) := fun {a b} zero one => by
    unfold Journal.scan follows Config.generations
    rw [zero, one]
    cases a <;> cases b <;> simp only [decide_eq_true_eq, apply_ite some]
  refine ⟨headers, headers, headers, fun zero one next => ?_, fun zero one notNext next => ?_,
    fun zero one notNext notBack => ?_⟩
  · exact (headers zero one).trans (if_pos next)
  · exact (headers zero one).trans ((if_neg notNext).trans (if_pos next))
  · exact (headers zero one).trans ((if_neg notNext).trans (if_neg notBack))

/-- The bank scan changes the active bank and the notices. -/
theorem State.bankScan_frame (s : State) :
    s.bankScan = { s with rj := { s.rj with active := s.rj.scan }, nu := s.bankScan.nu } := by
  unfold State.bankScan
  dsimp only
  split
  · rfl
  · split <;> rfl

theorem State.bankScan_fresh {s : State} (none : s.rj.scan = none) :
    s.bankScan.notice 14 = (s.notice 14).raised 1 (.journal .fresh) := by
  unfold State.bankScan
  rw [if_pos none]
  exact State.notify_notice_of_kind _ (k := 14) rfl

theorem State.bankScan_conflict {s : State} (chosen : s.rj.scan ≠ none) :
    s.bankScan.notice 14 = (s.notice 14).raised (if s.rj.conflict = true then 1 else 0) (.journal .bankConflict) := by
  unfold State.bankScan
  rw [if_neg chosen]
  split
  · exact State.notify_notice_of_kind _ (k := 14) rfl
  · rfl

/-! ## Damaged records (R141) -/

/-- The state after the bank scan and the occurrences of DAMAGED RECORD. -/
def State.scanned (s : State) : State := s.bankScan.noteDamaged

/-- The slots of the bank that the headers choose. -/
def Journal.chosenSlots (j : Journal) : List Slot :=
  match j.scan with
  | some i => (j.bank i).slots
  | none => []

theorem State.bankScan_slots (s : State) : s.bankScan.rj.activeSlots = s.rj.chosenSlots := by
  rw [State.bankScan_frame]
  unfold Journal.activeSlots Journal.chosenSlots
  cases s.rj.scan with
  | none => rfl
  | some i => cases i <;> rfl

theorem State.scanned_frame (s : State) : s.scanned = { s with
    rj := { s.rj with active := s.rj.scan, damaged := min (s.rj.chosenSlots.countP Slot.unusable) 255 }
    nu := s.scanned.nu } := by
  obtain ⟨frame, -⟩ := (s.bankScan.withRj { s.bankScan.rj with
    damaged := min (s.rj.chosenSlots.countP Slot.unusable) 255 }).repeatNotify_spec (.journal .damagedRecord)
      (s.rj.chosenSlots.countP Slot.unusable)
  unfold State.scanned State.noteDamaged
  rw [State.bankScan_slots]
  dsimp only
  generalize Nat.repeat (fun t : State => t.notify (.journal .damagedRecord)) _ _ = t at frame ⊢
  rw [frame]
  generalize t.nu = nu
  rw [State.bankScan_frame]
  rfl

theorem State.scanned_notice (s : State) :
    s.scanned.notice 14 =
      (s.bankScan.notice 14).raised (s.rj.chosenSlots.countP Slot.unusable) (.journal .damagedRecord) := by
  unfold State.scanned State.noteDamaged
  rw [State.bankScan_slots]
  exact (State.repeatNotify_spec _ (.journal .damagedRecord) _).2

/-- What replay has read of the bank that the headers choose (R141). -/
def State.replayed (s : State) : Replayed := Replayed.applyAll [] 0 s.rj.chosenSlots

theorem State.scanned_replay (s : State) : s.scanned.rj.replay = s.replayed := by
  have slots : s.scanned.rj.activeSlots = s.rj.chosenSlots := by
    rw [State.scanned_frame]
    unfold Journal.activeSlots Journal.chosenSlots
    cases s.rj.scan with
    | none => rfl
    | some i => cases i <;> rfl
  unfold Journal.replay
  rw [slots]
  rfl

/-! ## A frame start that the restored FREE-RUN PERIOD brings at once (R25, R162) -/

section

variable {s : State} (sensor : Int) (noReset : s.clk.reset ≠ .ready)
include noReset

/-- What a frame start leaves of the journal, the supply and JOURNAL's record. -/
theorem State.frameStart_journal (complete : Bool) :
    (s.frameStart sensor complete).rj = { s.rj with
        owed := (s.frameStart sensor complete).rj.owed
        liveImages := (s.frameStart sensor complete).rj.liveImages
        unrecorded := (s.frameStart sensor complete).rj.unrecorded } ∧
      (s.frameStart sensor complete).cm.supply = s.cm.supply ∧
      (s.frameStart sensor complete).notice 14 = s.notice 14 := by
  have rj : (s.sensed sensor complete).rj = s.rj := by
    obtain ⟨-, -, -, -, -, -, sampled⟩ := (s.newFrame complete).sample_frame sensor
    obtain ⟨-, -, -, -, -, sensed⟩ := ((s.newFrame complete).sample sensor).senseFrame_frame
    exact sensed.trans sampled
  refine ⟨?_, ?_, ?_⟩
  · have journal := ((Kept.repairOnly _).repairFrame (s.sensed sensor complete).repairOnly_refl).journal
    rw [State.frameStart_eq sensor complete noReset, State.beforeRoutes_eq]
    generalize (s.sensed sensor complete).repairFrame = b at journal
    obtain ⟨active, startUp, set⟩ := b.applyRoutes_latchScale
    rw [set, ← rj]
    exact journal
  · rw [State.frameStart_cm sensor complete noReset, State.sample_cm]
    rfl
  · obtain ⟨_, _, _, _, _, _, notices⟩ := State.frameStart_blocks sensor complete noReset
    rw [notices 14 (by decide)]
    refine (State.senseFrame_notice _ (by decide)).trans ((State.sample_notice _ sensor 14).trans ?_)
    exact if_neg fun both => absurd both.1 (by decide)

/-- With no suspect and no proving a frame start leaves the journal alone. -/
theorem State.frameStart_idle_rj (complete : Bool) (suspects : s.re.suspects = []) (provings : s.re.provings = []) :
    (s.frameStart sensor complete).rj = s.rj := by
  obtain ⟨-, -, -, -, -, -, sampled⟩ := (s.newFrame complete).sample_frame sensor
  obtain ⟨-, -, -, -, -, sensed⟩ := ((s.newFrame complete).sample sensor).senseFrame_frame
  rw [State.frameStart_eq sensor complete noReset, State.beforeRoutes_idle s sensor complete suspects provings]
  generalize ((s.newFrame complete).sample sensor).senseFrame = b at sensed
  obtain ⟨active, startUp, set⟩ := b.applyRoutes_latchScale
  rw [set]
  exact sensed.trans sampled

/-- What stands after such a frame start, or without one. -/
theorem State.settleFreeRun_journal (before : State) :
    ((s.settleFreeRun before sensor).clk = s.clk ∧ (s.settleFreeRun before sensor).live = s.live ∧
      (s.settleFreeRun before sensor).stored = s.stored) ∧
      (s.settleFreeRun before sensor).rj = { s.rj with
        owed := (s.settleFreeRun before sensor).rj.owed
        liveImages := (s.settleFreeRun before sensor).rj.liveImages
        unrecorded := (s.settleFreeRun before sensor).rj.unrecorded } ∧
      (s.settleFreeRun before sensor).cm.supply = s.cm.supply ∧
      (s.settleFreeRun before sensor).notice 14 = s.notice 14 ∧
      (s.re.suspects = [] → s.re.provings = [] → (s.settleFreeRun before sensor).rj.owed = s.rj.owed) := by
  unfold State.settleFreeRun
  split
  · obtain ⟨clk, live, stored, -⟩ := State.frameStart_kept sensor false noReset
    obtain ⟨journal, supply, notice⟩ := State.frameStart_journal sensor noReset false
    refine ⟨⟨clk, live, stored⟩, journal, supply, notice, fun suspects provings => ?_⟩
    rw [State.frameStart_idle_rj sensor noReset false suspects provings]
  · exact ⟨⟨rfl, rfl, rfl⟩, rfl, rfl, rfl, fun _ _ => rfl⟩

end

/-! ## What reconciliation leaves (R142) -/

theorem State.reconcile_eq (s : State) (r : Replayed) : s.reconcile r = { s with
    re := (s.reconcile r).re, rj := { s.rj with liveImages := (s.reconcile r).nonFactory.length } } := by
  unfold State.reconcile State.countImages
  rw [State.computeTallies_frame]
  rfl

theorem State.reconcile_budget (s : State) (r : Replayed) : (s.reconcile r).re.budget = s.setting 17 := by
  rw [State.reconcile_re, State.computeTallies_frame]
  rfl

/-- With nothing replayed every subject is at its factory image. -/
theorem State.reconcile_nothing {s : State} (stored : s.stored = []) : (s.reconcile []).rj.liveImages = 0 := by
  have tables : (s.withRe (Replayed.tables [] (s.setting Setting.budgetDefault))).computeTallies =
      s.withRe (Replayed.tables [] (s.setting Setting.budgetDefault)) := rfl
  unfold State.reconcile State.countImages
  rw [tables]
  change (State.nonFactory _).length = 0
  unfold State.nonFactory
  rw [State.withRe_stored, stored]
  rfl

/-! ## The rebuilt part, before its writer takes its form -/

/-- The part after the bank scan, replay and reconciliation. -/
def State.rebuilt (s : State) (sensor : Int) : State :=
  ((s.scanned.restoreSettings s.replayed).settleFreeRun s.scanned sensor).reconcile s.replayed

theorem State.endReplay_eq (s : State) (sensor : Int) : s.endReplay sensor = (s.rebuilt sensor).startWriter.run := by
  unfold State.rebuilt
  rw [← s.scanned_replay]
  rfl

/-- What the rebuilt part holds beside its tables. -/
structure State.Rebuilt (s w : State) : Prop where
  clk : w.clk = s.clk
  live : w.live = Replayed.settings s.replayed
  stored : w.stored = Replayed.settings s.replayed
  supply : w.cm.supply = s.cm.supply
  journal : w.rj = { s.rj with
    active := s.rj.scan, damaged := min (s.rj.chosenSlots.countP Slot.unusable) 255
    owed := w.rj.owed, liveImages := w.rj.liveImages, unrecorded := w.rj.unrecorded }
  notice : w.notice 14 = s.scanned.notice 14
  suspects : w.re.suspects = []
  provings : w.re.provings = []
  budget : w.re.budget = w.setting 17
  few : s.rj.scan = none → w.rj.liveImages = 0
  owed : s.re.suspects = [] → s.re.provings = [] → w.rj.owed = s.rj.owed

theorem State.rebuilt_spec {s : State} (sensor : Int) (noReset : s.clk.reset ≠ .ready) :
    s.Rebuilt (s.rebuilt sensor) := by
  have frame := s.scanned_frame
  unfold State.rebuilt
  have before : (s.scanned.restoreSettings s.replayed).clk = s.clk ∧
      (s.scanned.restoreSettings s.replayed).re = s.re ∧ (s.scanned.restoreSettings s.replayed).cm = s.cm ∧
      (s.scanned.restoreSettings s.replayed).rj = { s.rj with
        active := s.rj.scan, damaged := min (s.rj.chosenSlots.countP Slot.unusable) 255 } := by
    generalize s.scanned = t at frame
    generalize t.nu = nu at frame
    rw [frame]
    exact ⟨rfl, rfl, rfl, rfl⟩
  obtain ⟨clk, re, cm, rj⟩ := before
  obtain ⟨⟨clk', live, stored⟩, journal, supply, notice, owed⟩ :=
    State.settleFreeRun_journal (s := s.scanned.restoreSettings s.replayed) sensor (by rwa [clk]) s.scanned
  generalize (s.scanned.restoreSettings s.replayed).settleFreeRun s.scanned sensor = v at *
  obtain ⟨-, -, -, suspects, provings⟩ := v.reconcile_maps s.replayed
  have rest := v.reconcile_eq s.replayed
  have budget := v.reconcile_budget s.replayed
  have few : s.rj.scan = none → (v.reconcile s.replayed).rj.liveImages = 0 := fun none => by
    have nothing : s.replayed = [] := by
      unfold State.replayed Journal.chosenSlots
      rw [none]
      rfl
    rw [nothing] at stored ⊢
    exact State.reconcile_nothing (stored.trans (show Replayed.settings [] = [] by decide))
  generalize v.reconcile s.replayed = w at *
  have same : w.clk = v.clk ∧ w.live = v.live ∧ w.stored = v.stored ∧ w.cm = v.cm ∧ w.nu = v.nu ∧
      w.rj = { v.rj with liveImages := w.rj.liveImages } := by
    generalize w.nonFactory = l at rest
    generalize w.re = re at rest
    rw [rest]
    exact ⟨rfl, rfl, rfl, rfl, rfl, rfl⟩
  obtain ⟨clk'', live', stored', cm', nu, images⟩ := same
  refine ⟨clk''.trans (clk'.trans clk), live'.trans live, stored'.trans stored, ?_, ?_, ?_, suspects, provings, ?_, few,
    fun none idle => ?_⟩
  · rw [cm', supply, cm]
  · rw [images, journal, rj]
  · unfold State.notice at notice ⊢
    rw [nu, notice]
    rfl
  · unfold State.setting at budget ⊢
    rw [budget, live']
  · rw [images, owed (by rwa [re]) (by rwa [re]), rj]

/-! ## The form of the writer (R146, R139) -/

/-- With nothing proved no recording waits. -/
theorem State.enterFull_idle {s : State} (idle : s.re.provings = []) : s.enterFull = s.fill.noteUnable := by
  have none : s.fill.bindRecordings = s.fill := by
    unfold State.bindRecordings
    rw [show s.fill.re = s.re from rfl, idle]
    rfl
  rw [State.enterFull_eq, none]

/-- A stop for a LOW supply changes the writer. -/
theorem State.stopIfLow_eq (s : State) :
    s.stopIfLow = s.withRj { s.rj with writer := if s.cm.supply = .low then s.rj.writer.stopped else s.rj.writer } := by
  unfold State.stopIfLow
  split <;> rfl

/-- What the writer's form leaves, what it raises, and the three forms. -/
structure State.Started (w x : State) : Prop where
  frame : x = { w with rj := x.rj, nu := x.nu }
  active : x.rj.active = w.rj.active
  damaged : x.rj.damaged = w.rj.damaged
  owed : x.rj.owed = w.rj.owed
  liveImages : x.rj.liveImages = w.rj.liveImages
  slots : ∀ i, (x.rj.bank i).slots = (w.rj.bank i).slots
  notice : x.notice 14 =
    (w.notice 14).raised (if 896 ≤ w.rj.used ∧ 960 < w.rj.liveImages then 1 else 0) (.journal .full)
  full : 896 ≤ w.rj.used → 960 < w.rj.liveImages → x.rj.writer = if w.cm.supply = .low then .held true else .full
  due : 896 ≤ w.rj.used ∨ w.rj.active = none → w.rj.liveImages ≤ 960 →
    x.rj.writer = (if w.cm.supply = .low then .held false else .compacting .erase) ∧
      (w.cm.supply = .low → x.rj.due = true)
  idle : w.rj.used < 896 → w.rj.active ≠ none → x.rj.writer = if w.cm.supply = .low then .held false else .idle

section

variable {w : State}

/-- The bank that is erased loses its header alone. -/
theorem Journal.beginErase_slots (j : Journal) (i : BankId) :
    ((j.setBank j.newBank { j.bank j.newBank with generation := 0, complete := false }).bank i).slots =
      (j.bank i).slots := by
  by_cases same : i = j.newBank
  · rw [same, Journal.setBank_same]
  · rw [Journal.setBank_apart _ _ same]

theorem State.startWriter_full (provings : w.re.provings = []) (used : 896 ≤ w.rj.used) (many : 960 < w.rj.liveImages) :
    w.Started w.startWriter := by
  have form : w.startWriter = w.fill.noteUnable.stopIfLow :=
    (if_pos ⟨used, many⟩).trans (by rw [State.enterFull_idle provings])
  rw [form, State.stopIfLow_eq]
  refine ⟨rfl, rfl, rfl, rfl, rfl, fun i => by cases i <;> rfl, ?_, fun _ _ => rfl, fun _ few => ?_, fun below => ?_⟩
  · have once : (w.notice 14).raised (if 896 ≤ w.rj.used ∧ 960 < w.rj.liveImages then 1 else 0) (.journal .full) =
        ⟨min ((w.notice 14).count + 1) 255, some (.journal .full)⟩ := by rw [if_pos ⟨used, many⟩]; rfl
    rw [once]
    exact State.notify_notice_of_kind (d := .journal .full) _ rfl
  · omega
  · omega

theorem State.startWriter_due (due : 896 ≤ w.rj.used ∨ w.rj.active = none) (few : w.rj.liveImages ≤ 960) :
    w.Started w.startWriter := by
  have form : w.startWriter = if w.cm.supply = .low then w.withRj { w.rj with due := true, writer := .held false }
      else w.startCompaction := (if_neg fun both => absurd both.2 (Nat.not_lt.2 few)).trans (if_pos due)
  have notFull : ¬(896 ≤ w.rj.used ∧ 960 < w.rj.liveImages) := by omega
  have notIdle : w.rj.used < 896 → w.rj.active ≠ none → False := fun below chosen => due.elim (by omega) chosen
  rw [form]
  split
  · rename_i low
    refine ⟨rfl, rfl, rfl, rfl, rfl, fun i => by cases i <;> rfl, ?_, ?_, fun _ _ => ⟨?_, fun _ => rfl⟩, ?_⟩
    · rw [if_neg notFull]
      rfl
    · exact fun used many => absurd ⟨used, many⟩ notFull
    · exact (if_pos low).symm
    · exact fun below chosen => (notIdle below chosen).elim
  · rename_i supplied
    rw [State.startCompaction_erases few]
    refine ⟨rfl, ?_, ?_, ?_, ?_, fun i => ?_, ?_, ?_, fun _ _ => ⟨?_, fun low => absurd low supplied⟩, ?_⟩
    · cases w.rj.newBank <;> rfl
    · cases w.rj.newBank <;> rfl
    · cases w.rj.newBank <;> rfl
    · cases w.rj.newBank <;> rfl
    · exact (Journal.bank_congr rfl rfl i ▸ w.rj.beginErase_slots i :)
    · rw [if_neg notFull]
      rfl
    · exact fun used many => absurd ⟨used, many⟩ notFull
    · exact (if_neg supplied).symm
    · exact fun below chosen => (notIdle below chosen).elim

theorem State.startWriter_idle (used : w.rj.used < 896) (chosen : w.rj.active ≠ none) : w.Started w.startWriter := by
  have form : w.startWriter = (w.withRj { w.rj with writer := .idle }).stopIfLow :=
    (if_neg fun both => absurd both.1 (Nat.not_le.2 used)).trans
      (if_neg fun due => due.elim (fun used' => absurd used' (Nat.not_le.2 used)) chosen)
  rw [form, State.stopIfLow_eq]
  refine ⟨rfl, rfl, rfl, rfl, rfl, fun i => by cases i <;> rfl, ?_, ?_, ?_, fun _ _ => rfl⟩
  · have never : (w.notice 14).raised (if 896 ≤ w.rj.used ∧ 960 < w.rj.liveImages then 1 else 0) (.journal .full) =
        w.notice 14 := by rw [if_neg fun both => absurd both.1 (Nat.not_le.2 used)]; rfl
    exact never.symm
  · exact fun used' => absurd used' (Nat.not_le.2 used)
  · exact fun due => (due.elim (fun used' => absurd used' (Nat.not_le.2 used)) chosen).elim

/-- The writer's form, for a part that holds no image above its count without a bank. -/
theorem State.startWriter_spec (provings : w.re.provings = []) (few : w.rj.active = none → w.rj.liveImages ≤ 960) :
    w.Started w.startWriter := by
  by_cases due : 896 ≤ w.rj.used ∨ w.rj.active = none
  · by_cases many : 960 < w.rj.liveImages
    · refine State.startWriter_full provings (due.resolve_right fun none => ?_) many
      exact absurd (few none) (Nat.not_le.2 many)
    · exact State.startWriter_due due (Nat.not_lt.1 many)
  · obtain ⟨below, chosen⟩ := not_or.1 due
    exact State.startWriter_idle (Nat.not_le.1 below) chosen

theorem State.Started.used {x : State} (started : w.Started x) : x.rj.used = w.rj.used := by
  unfold Journal.used
  rw [started.active]
  cases w.rj.active with
  | none => rfl
  | some i => exact congrArg List.length (started.slots i)

end

/-! ## The whole end of start-up -/

theorem exec_replayEnd {s : State} {m : Moment} (starting : s.clk.phase = .starting) :
    exec (.replayEnd m) s = .next ((s.tick m.elapsed).endReplay m.sensor) :=
  congrArg Host.Outcome.next (if_pos starting)

/-- What the end of start-up rebuilds and how the writer takes its form there. -/
theorem State.endReplay_spec {s : State} (sensor : Int) (noReset : s.clk.reset ≠ .ready) :
    s.Rebuilt (s.rebuilt sensor) ∧ (s.rebuilt sensor).Started (s.rebuilt sensor).startWriter := by
  have rebuilt := State.rebuilt_spec sensor noReset
  refine ⟨rebuilt, State.startWriter_spec rebuilt.provings fun none => ?_⟩
  rw [rebuilt.few (by rw [← none, rebuilt.journal])]
  omega

/-- The occurrences of JOURNAL at the end of start-up (R140, R141, R146). -/
theorem State.endReplay_notice {s w x : State} (rebuilt : s.Rebuilt w) (started : w.Started x) :
    x.notice 14 = ((s.bankScan.notice 14).raised (s.rj.chosenSlots.countP Slot.unusable) (.journal .damagedRecord)).raised
      (if 896 ≤ x.rj.used ∧ 960 < x.rj.liveImages then 1 else 0) (.journal .full) := by
  rw [started.notice, rebuilt.notice, s.scanned_notice, started.used, started.liveImages]

theorem Journal.chosenSlots_of_some {j : Journal} {i : BankId} (chosen : j.scan = some i) :
    j.chosenSlots = (j.bank i).slots := by
  unfold Journal.chosenSlots
  rw [chosen]

theorem Journal.chosenSlots_of_none {j : Journal} (none : j.scan = none) : j.chosenSlots = [] := by
  unfold Journal.chosenSlots
  rw [none]

/-- JOURNAL without a bank: the medium is fresh, nothing is damaged, and the writer is not FULL. -/
theorem State.endReplay_fresh {s w x : State} (rebuilt : s.Rebuilt w) (started : w.Started x) (none : s.rj.scan = none) :
    x.notice 14 = ⟨min ((s.notice 14).count + 1) 255, some (.journal .fresh)⟩ := by
  have unused : x.rj.used = 0 := by
    unfold Journal.used
    rw [started.active, rebuilt.journal]
    dsimp only
    rw [none]
  rw [State.endReplay_notice rebuilt started, State.bankScan_fresh none, Journal.chosenSlots_of_none none,
    if_neg (by rw [unused]; omega)]
  rfl

/-- Settles O15: the bank scan, the records of replay and the rebuilt part, then the writer's form. -/
theorem replayEndBringsThePartIntoOperation : Obligations.ReplayEndBringsThePartIntoOperation := by
  intro s m starting noReset
  obtain ⟨rebuilt, started⟩ := (s.tick m.elapsed).endReplay_spec m.sensor noReset
  have ended := (s.tick m.elapsed).endReplay_eq m.sensor
  generalize (s.tick m.elapsed).rebuilt m.sensor = w at rebuilt started ended
  generalize w.startWriter = x at started ended
  obtain ⟨fresh, zero, one, next, back, apart⟩ := s.rj.scan_cases
  have active : x.rj.active = s.rj.scan := by
    rw [started.active, rebuilt.journal]
    rfl
  have damaged : x.rj.damaged = min (s.rj.chosenSlots.countP Slot.unusable) 255 := by
    rw [started.damaged, rebuilt.journal]
    rfl
  have rest := started.frame
  generalize x.rj = rj, x.nu = nu at rest
  have same : x.clk = w.clk ∧ x.live = w.live ∧ x.stored = w.stored ∧ x.re = w.re ∧ x.cm = w.cm := by
    rw [rest]
    exact ⟨rfl, rfl, rfl, rfl, rfl⟩
  obtain ⟨clk, live, stored, re, cm⟩ := same
  refine ⟨x.run, (exec_replayEnd starting).trans (congrArg Host.Outcome.next ended), ?_, ?_, ?_, ?_, ?_,
    fun a b => active.trans (fresh a b), fun a b => active.trans (zero a b), fun a b => active.trans (one a b),
    fun a b c => active.trans (next a b c), fun a b c d => active.trans (back a b c d),
    fun a b c d => active.trans (apart a b c d), fun none => ?_, fun i conflict bad full chosen => ?_, ?_,
    fun supplied => ⟨fun used many => ?_, fun due few => ?_, fun below chosen => ?_⟩,
    fun low => ⟨fun used many => ?_, fun due few => ?_, fun below chosen => ?_⟩⟩
  · change { x.clk with phase := .running } = _
    rw [clk, rebuilt.clk]
    rfl
  · exact live.trans (rebuilt.live.trans (rebuilt.stored.symm.trans stored.symm))
  · change x.re.budget = Table.read _ x.live _
    rw [re, live]
    exact rebuilt.budget
  · exact (congrArg _ re).trans rebuilt.suspects
  · exact (congrArg _ re).trans rebuilt.provings
  · have unscanned : s.rj.scan = Option.none := active.symm.trans none
    have notice : x.notice 14 = _ := State.endReplay_fresh (s := s.tick m.elapsed) rebuilt started unscanned
    exact ⟨damaged.trans (by rw [Journal.chosenSlots_of_none unscanned]; rfl), notice⟩
  · intro conflictIs badIs fullIs
    have scanned : s.rj.scan = some i := active.symm.trans chosen
    have slots := Journal.chosenSlots_of_some scanned
    have conflicts : conflict = if s.rj.conflict = true then 1 else 0 :=
      conflictIs.trans (if_congr s.rj.conflict_iff.symm rfl rfl)
    have notice : x.notice 14 = (((s.notice 14).raised conflict (.journal .bankConflict)).raised bad
        (.journal .damagedRecord)).raised full (.journal .full) := by
      rw [State.endReplay_notice rebuilt started, State.bankScan_conflict (s := s.tick m.elapsed) (by simp [scanned]),
        conflicts, badIs, ← slots, fullIs]
      rfl
    have raised := (s.notice 14).raised_thrice conflict bad full (.journal .bankConflict) (.journal .damagedRecord)
      (.journal .full) (by rw [fullIs]; split <;> simp)
    obtain ⟨none, some⟩ := raised
    refine ⟨?_, fun nothing => notice.trans (none nothing), fun something => (notice.trans (some something)).trans ?_⟩
    · rw [badIs, ← slots]
      exact damaged
    · simp only [apply_ite Detail.journal]
  · exact (congrArg _ cm).trans rebuilt.supply
  · exact (started.full (started.used ▸ used) (started.liveImages ▸ many)).trans (if_neg (cm ▸ supplied))
  · obtain ⟨writer, -⟩ := started.due (started.used ▸ started.active ▸ due) (started.liveImages ▸ few)
    exact writer.trans (if_neg (cm ▸ supplied))
  · exact (started.idle (started.used ▸ below) (started.active ▸ chosen)).trans (if_neg (cm ▸ supplied))
  · exact (started.full (started.used ▸ used) (started.liveImages ▸ many)).trans (if_pos (cm ▸ low))
  · obtain ⟨writer, due⟩ := started.due (started.used ▸ started.active ▸ due) (started.liveImages ▸ few)
    exact ⟨writer.trans (if_pos (cm ▸ low)), due (cm ▸ low)⟩
  · exact (started.idle (started.used ▸ below) (started.active ▸ chosen)).trans (if_pos (cm ▸ low))

end Sys2Proof.Machine

end

section
/-! PROOFS. O16: what replay reads of a bank, what reconciliation makes of it, and the tables at the end of start-up. -/

namespace Sys2Proof.Machine

/-! ## The record in force (R129, R141) -/

section

variable (r : Replayed) (k n : Nat)

theorem Replayed.apply_badCheck {image : Image} {check : Half} (bad : check ≠ recordCheck n image) :
    Replayed.apply r (.marked n image check) k = r := if_neg fun good => bad good.1

theorem Replayed.apply_unfit {image : Image} (check : Half) (unfit : imageFits n image = false) :
    Replayed.apply r (.marked n image check) k = r := if_neg fun good => by simp [unfit] at good

/-- A usable record puts its subject's image and its own slot in force. -/
theorem Replayed.apply_complete {image : Image} (fits : imageFits n image = true) :
    Replayed.image (Replayed.apply r (.complete n image) k) n = image ∧
      Replayed.slot (Replayed.apply r (.complete n image) k) n = k := by
  have applied : Replayed.apply r (.complete n image) k =
      Table.write (fun n => (factoryImage n, 0)) r n (image, k) := if_pos ⟨rfl, fits⟩
  obtain ⟨read, slot⟩ := Replayed.read_write r n image k n
  rw [applied, read, slot, if_pos rfl, if_pos rfl]
  exact ⟨rfl, rfl⟩

variable {n}

/-- A slot that is no usable record of a subject leaves that subject's record in force. -/
theorem Replayed.apply_other {x : Slot} (other : ∀ image, x = .complete n image → imageFits n image = false) :
    Replayed.image (Replayed.apply r x k) n = Replayed.image r n ∧
      Replayed.slot (Replayed.apply r x k) n = Replayed.slot r n := by
  cases x with
  | torn => exact ⟨rfl, rfl⟩
  | marked subject image check =>
    unfold Replayed.apply
    dsimp only
    split
    · rename_i good
      obtain ⟨checked, fits⟩ := good
      have apart : subject ≠ n := fun same => by
        subst same checked
        have unfit := other image rfl
        rw [fits] at unfit
        cases unfit
      obtain ⟨read, slot⟩ := Replayed.read_write r subject image k n
      rw [read, slot, if_neg apart, if_neg apart]
      exact ⟨rfl, rfl⟩
    · exact ⟨rfl, rfl⟩

/-- Slots without a usable record of a subject leave that subject's record in force. -/
theorem Replayed.applyAll_other {slots : List Slot}
    (others : ∀ image, Slot.complete n image ∈ slots → imageFits n image = false) :
    Replayed.image (Replayed.applyAll r k slots) n = Replayed.image r n ∧
      Replayed.slot (Replayed.applyAll r k slots) n = Replayed.slot r n := by
  induction slots generalizing r k with
  | nil => exact ⟨rfl, rfl⟩
  | cons x rest ih =>
    obtain ⟨image, slot⟩ := ih (Replayed.apply r x k) (k + 1) fun image on => others image (List.mem_cons_of_mem _ on)
    obtain ⟨image', slot'⟩ := Replayed.apply_other r k (x := x) fun image same => others image (same ▸ List.mem_cons_self)
    exact ⟨image.trans image', slot.trans slot'⟩

theorem Replayed.applyAll_append (slots later : List Slot) :
    Replayed.applyAll r k (slots ++ later) = Replayed.applyAll (Replayed.applyAll r k slots) (k + slots.length) later := by
  induction slots generalizing r k with
  | nil => rfl
  | cons x rest ih =>
    have count : k + 1 + rest.length = k + (x :: rest).length := by rw [List.length_cons]; omega
    refine (ih (Replayed.apply r x k) (k + 1)).trans ?_
    rw [count]
    rfl

end

/-- The last usable record of a subject is the one in force. -/
theorem Replayed.applyAll_last (slots later : List Slot) {n : Nat} {image : Image} (fits : imageFits n image = true)
    (last : ∀ other, Slot.complete n other ∈ later → imageFits n other = false) :
    Replayed.image (Replayed.applyAll [] 0 (slots ++ .complete n image :: later)) n = image ∧
      Replayed.slot (Replayed.applyAll [] 0 (slots ++ .complete n image :: later)) n = slots.length := by
  rw [Replayed.applyAll_append, Nat.zero_add]
  obtain ⟨set, slot⟩ := Replayed.apply_complete (Replayed.applyAll [] 0 slots) slots.length n fits
  obtain ⟨stays, stays'⟩ := Replayed.applyAll_other _ (slots.length + 1) last
  exact ⟨stays.trans set, stays'.trans slot⟩

/-! ## Which images fit (R141, log 25) -/

theorem imageFits_cell {n : Nat} (cell : n < 9216) (image : Image) :
    imageFits n image = true ↔ image = .healthy ∨ (∃ c < 768, c / 4 = groupOf n ∧ image = .spared c) ∨
      ∃ reason, reason ≠ .line ∧ image = .concealed reason := by
  unfold imageFits groupOfChannel Config.channels
  rw [if_pos cell]
  cases image with
  | concealed reason => cases reason <;> simp
  | spared c => simp
  | _ => simp

theorem imageFits_setting {n : Nat} (low : 19440 ≤ n) (high : n < 19483) (image : Image) :
    imageFits n image = true ↔ ∃ v, image = .value v ∧ (Config.settingRow (n - 19440)).low ≤ v ∧
      v ≤ (Config.settingRow (n - 19440)).high := by
  unfold imageFits Config.settingInRange Config.subjects
  rw [if_neg (by omega), if_neg (by omega), if_neg (by omega), if_neg (by omega), if_pos high]
  cases image <;> simp

/-- The images of each kind of subject. -/
theorem imageFits_iff (n : Nat) (image : Image) : imageFits n image = true ↔
    (n < 9216 ∧ (image = .healthy ∨ (∃ c < 768, c / 4 = groupOf n ∧ image = .spared c) ∨
      ∃ reason, reason ≠ .line ∧ image = .concealed reason)) ∨
    (9216 ≤ n ∧ n < 18432 ∧ (image = .usable ∨ image = .dead)) ∨
    (18432 ≤ n ∧ n < 19200 ∧ (image = .free ∨ image = .failed)) ∨
    (19200 ≤ n ∧ n < 19440 ∧ (image = .normal ∨ image = .held)) ∨
    (19440 ≤ n ∧ n < 19483 ∧ ∃ v, image = .value v ∧ (Config.settingRow (n - 19440)).low ≤ v ∧
      v ≤ (Config.settingRow (n - 19440)).high) := by
  have kinds : n < 9216 ∨ (9216 ≤ n ∧ n < 18432) ∨ (18432 ≤ n ∧ n < 19200) ∨ (19200 ≤ n ∧ n < 19440) ∨
      (19440 ≤ n ∧ n < 19483) ∨ 19483 ≤ n := by omega
  rcases kinds with cell | ⟨low, high⟩ | ⟨low, high⟩ | ⟨low, high⟩ | ⟨low, high⟩ | past
  · rw [imageFits_cell cell]
    have : ¬9216 ≤ n ∧ ¬18432 ≤ n ∧ ¬19200 ≤ n ∧ ¬19440 ≤ n := by omega
    simp [cell, this]
  · have apart : ¬n < 9216 ∧ ¬18432 ≤ n ∧ ¬19200 ≤ n ∧ ¬19440 ≤ n := by omega
    have here : imageFits n image = decide (image = .usable ∨ image = .dead) :=
      (if_neg (by omega)).trans (if_pos high)
    simp [here, apart, low, high]
  · have apart : ¬n < 9216 ∧ ¬n < 18432 ∧ ¬19200 ≤ n ∧ ¬19440 ≤ n := by omega
    have here : imageFits n image = decide (image = .free ∨ image = .failed) :=
      (if_neg (by omega)).trans ((if_neg (by omega)).trans (if_pos high))
    simp [here, apart, low, high]
  · have apart : ¬n < 9216 ∧ ¬n < 18432 ∧ ¬n < 19200 ∧ ¬19440 ≤ n := by omega
    have here : imageFits n image = decide (image = .normal ∨ image = .held) :=
      (if_neg (by omega)).trans ((if_neg (by omega)).trans ((if_neg (by omega)).trans (if_pos high)))
    simp [here, apart, low, high]
  · have apart : ¬n < 9216 ∧ ¬n < 18432 ∧ ¬n < 19200 ∧ ¬n < 19440 := by omega
    rw [imageFits_setting low high]
    simp [apart, low, high]
  · have apart : ¬n < 9216 ∧ ¬n < 18432 ∧ ¬n < 19200 ∧ ¬n < 19440 ∧ ¬n < 19483 := by omega
    have here : imageFits n image = false := by
      unfold imageFits
      rw [if_neg apart.1, if_neg apart.2.1, if_neg apart.2.2.1, if_neg apart.2.2.2.1]
      exact if_neg apart.2.2.2.2
    simp [here, apart]

theorem Slot.unusable_marked (n : Nat) (image : Image) (check : Half) :
    Slot.unusable (.marked n image check) = true ↔ check ≠ recordCheck n image ∨ imageFits n image = false := by
  simp [Slot.unusable, Slot.isDamaged]

/-! ## What reconciliation makes of the images (R142) -/

theorem Replayed.overtaken_iff (r : Replayed) (n c : Nat) : Replayed.overtaken r n c = true ↔
    ∃ m < 9216, Replayed.image r m = .spared c ∧ Replayed.slot r n < Replayed.slot r m := by
  unfold Replayed.overtaken
  simp only [List.any_eq_true, Bool.and_eq_true, decide_eq_true_eq]
  constructor
  · rintro ⟨m, on, image, later⟩
    exact ⟨m, Replayed.cells_lt on, image, later⟩
  · rintro ⟨m, cell, image, later⟩
    exact ⟨m, Replayed.mem_cells cell (by rw [image]; exact nofun), image, later⟩

section

variable {r : Replayed} {n : Nat}

theorem Replayed.cellState_held (held : Replayed.image r (lineSubject (cLineOf n)) = .held ∨
    Replayed.image r (lineSubject (rLineOf n)) = .held) : Replayed.cellState r n = .concealed .line := by
  refine if_pos ?_
  unfold Replayed.held
  simpa using held

theorem Replayed.cellState_open (cLine : Replayed.image r (lineSubject (cLineOf n)) ≠ .held)
    (rLine : Replayed.image r (lineSubject (rLineOf n)) ≠ .held) :
    Replayed.cellState r n = Replayed.firstState r n := by
  refine if_neg ?_
  unfold Replayed.held
  simpa using ⟨cLine, rLine⟩

theorem Replayed.firstState_of_healthy (image : Replayed.image r n = .healthy) : Replayed.firstState r n = .healthy := by
  unfold Replayed.firstState
  rw [image]

theorem Replayed.firstState_of_concealed {reason : Reason} (image : Replayed.image r n = .concealed reason) :
    Replayed.firstState r n = .concealed reason := by
  unfold Replayed.firstState
  rw [image]

/-- A SPARED record loses its channel where the channel failed, the die died, or a later record names the channel. -/
theorem Replayed.firstState_of_lost {c : Nat} (image : Replayed.image r n = .spared c)
    (lost : Replayed.image r (channelSubject c) = .failed ∨ Replayed.image r (dieSubject n) = .dead ∨
      ∃ m < 9216, Replayed.image r m = .spared c ∧ Replayed.slot r n < Replayed.slot r m) :
    Replayed.firstState r n = .concealed .dieDead := by
  rw [← Replayed.overtaken_iff] at lost
  unfold Replayed.firstState
  rw [image]
  exact if_pos lost

theorem Replayed.firstState_of_spared {c : Nat} (image : Replayed.image r n = .spared c)
    (works : Replayed.image r (channelSubject c) ≠ .failed) (lives : Replayed.image r (dieSubject n) ≠ .dead)
    (last : ∀ m < 9216, Replayed.image r m = .spared c → Replayed.slot r m ≤ Replayed.slot r n) :
    Replayed.firstState r n = .spared c := by
  have first : ¬Replayed.overtaken r n c = true := fun overtaken => by
    obtain ⟨m, cell, image', later⟩ := (Replayed.overtaken_iff r n c).1 overtaken
    exact absurd later (Nat.not_lt.2 (last m cell image'))
  unfold Replayed.firstState
  rw [image]
  exact if_neg fun lost => lost.elim works fun lost => lost.elim lives first

theorem Replayed.dieState_of_dead (dead : Replayed.image r (dieSubject n) = .dead) : Replayed.dieState r n = .dead :=
  if_pos dead

theorem Replayed.dieState_of_spared {c : Nat} (state : Replayed.cellState r n = .spared c) :
    Replayed.dieState r n = .good := by
  obtain ⟨-, works⟩ := Replayed.firstState_spared (Replayed.cellState_spared state)
  unfold Replayed.dieState
  rw [if_neg works, state]

theorem Replayed.dieState_of_bare (works : Replayed.image r (dieSubject n) ≠ .dead)
    (bare : ∀ c, Replayed.cellState r n ≠ .spared c) : Replayed.dieState r n = .untried := by
  unfold Replayed.dieState
  rw [if_neg works]
  obtain state | ⟨reason, state⟩ | ⟨c, state, -⟩ := Replayed.cellState_cases r n
  · rw [state]
  · rw [state]
  · exact absurd state (bare c)

end

section

variable {r : Replayed} {last : Nat} (sorted : r.Sorted last)
include sorted

/-- The image in force of a subject is one that fits it, or the factory image. -/
theorem Replayed.Sorted.fits_or_factory (n : Nat) :
    Replayed.image r n = factoryImage n ∨ imageFits n (Replayed.image r n) = true :=
  or_iff_not_imp_left.2 (sorted.fits n)

/-- Only a cell of the wall is SPARED. -/
theorem Replayed.Sorted.spared_cell {n c : Nat} (state : Replayed.cellState r n = .spared c) : n < 9216 := by
  obtain ⟨image, -⟩ := Replayed.firstState_spared (Replayed.cellState_spared state)
  by_contra past
  obtain factory | fits := sorted.fits_or_factory n
  · rw [image] at factory
    unfold factoryImage at factory
    split_ifs at factory
  · rw [image, imageFits_iff] at fits
    obtain ⟨cell, -⟩ | ⟨-, -, other | other⟩ | ⟨-, -, other | other⟩ | ⟨-, -, other | other⟩ | ⟨-, -, v, other, -⟩ := fits
    · exact past cell
    all_goals cases other

theorem Replayed.Sorted.cellState_alone {n m c : Nat} (state : Replayed.cellState r n = .spared c)
    (state' : Replayed.cellState r m = .spared c) : m = n :=
  sorted.alone (sorted.spared_cell state') (sorted.spared_cell state) (Replayed.cellState_spared state')
    (Replayed.cellState_spared state)

theorem Replayed.Sorted.channelState_of_spared {n c : Nat} (state : Replayed.cellState r n = .spared c) :
    Replayed.channelState r c = .bound n := by
  unfold Replayed.channelState
  rw [(sorted.boundCell_iff c n).2 ⟨sorted.spared_cell state, state⟩]

theorem Replayed.Sorted.channelState_of_unbound {c : Nat} (unbound : ∀ n, Replayed.cellState r n ≠ .spared c) :
    Replayed.channelState r c = if Replayed.image r (channelSubject c) = .failed then .failed else .free := by
  have none : Replayed.boundCell r c = none :=
    Option.eq_none_iff_forall_ne_some.2 fun n bound => unbound n ((sorted.boundCell_iff c n).1 bound).2
  unfold Replayed.channelState
  rw [none]

/-- A setting's image in force is its replayed value. -/
theorem Replayed.Sorted.image_setting {i : Nat} (known : i < 43) :
    Replayed.image r (settingSubject i) = .value (Replayed.value r i) := by
  have value : ∃ v, Replayed.image r (settingSubject i) = .value v := by
    obtain factory | fits := sorted.fits_or_factory (settingSubject i)
    · refine ⟨Config.settingDefault (settingSubject i - 19440), factory.trans ?_⟩
      unfold factoryImage settingSubject
      rw [if_neg (by omega), if_neg (by omega), if_neg (by omega), if_neg (by omega)]
    · rw [imageFits_setting (by unfold settingSubject; omega) (by unfold settingSubject; omega)] at fits
      obtain ⟨v, image, -⟩ := fits
      exact ⟨v, image⟩
  obtain ⟨v, image⟩ := value
  unfold Replayed.value
  rw [image]

end

theorem Replayed.applyAll_sorted (slots : List Slot) : ∃ last, (Replayed.applyAll [] 0 slots).Sorted last :=
  Replayed.Sorted.applyAll (r := []) (slot := 0) slots
    ⟨fun _ set => absurd rfl set, fun _ set => absurd rfl set, fun _ _ set => absurd rfl set⟩

/-- What replay's settings are: the images in force, but the thermal limits at their defaults where they disagree. -/
theorem Replayed.stored_other {i : Nat} (r : Replayed) (warm : i ≠ 20) (hot : i ≠ 21) :
    Replayed.stored r i = Replayed.value r i := if_neg fun limits => limits.1.elim warm hot

theorem Replayed.stored_limits (r : Replayed) : (Replayed.stored r 20, Replayed.stored r 21) =
    if Replayed.value r 20 + 5 ≤ Replayed.value r 21 then (Replayed.value r 20, Replayed.value r 21) else (70, 85) := by
  unfold Replayed.stored Replayed.limitsAgree Setting.warmLimit Setting.hotLimit
  by_cases agree : Replayed.value r 20 + 5 ≤ Replayed.value r 21
  · simp [agree]
  · simp only [agree, decide_false, if_false, true_or, or_true, and_self, if_true]
    decide

/-! ## The tables at the end of start-up -/

/-- What the rebuilt part's tables, settings and count hold. -/
structure State.Reconciled (r : Replayed) (w : State) : Prop where
  cell : ∀ n < 9216, w.re.cell n = Replayed.cellState r n
  die : ∀ n < 9216, w.re.die n = Replayed.dieState r n
  channel : ∀ c < 768, w.re.channel c = ⟨Replayed.channelState r c, 0⟩
  line : ∀ l < 240, (w.re.line l).state = (if Replayed.image r (lineSubject l) = .held then .held else .normal) ∧
    (w.re.line l).undone = 0
  tallied : w.re.tallied
  counted : w.liveCounted

theorem State.reconcile_spec (v : State) {r : Replayed} {last : Nat} (sorted : r.Sorted last)
    (live : v.live = Replayed.settings r) (stored : v.stored = Replayed.settings r) : State.Reconciled r (v.reconcile r) := by
  obtain ⟨cells, dies, channels, -, -⟩ := v.reconcile_maps r
  obtain ⟨-, canonical, past⟩ := sorted.restored (.inl ⟨live, stored⟩)
  refine ⟨fun n cell => ?_, fun n cell => ?_, fun c channel => ?_, fun l line => ?_, v.reconcile_tallied sorted,
    v.reconcile_liveCounted sorted canonical past⟩
  · rw [cells, Replayed.tables_cell, if_pos cell]
  · rw [dies, Replayed.tables_die, if_pos cell]
  · rw [channels, sorted.tables_channel, if_pos channel]
  · obtain ⟨tally, lines⟩ := v.reconcile_line r l
    have held : Replayed.held r l = true ↔ Replayed.image r (lineSubject l) = .held := decide_eq_true_iff
    rw [lines, Replayed.tables_line]
    by_cases image : Replayed.image r (lineSubject l) = .held
    · rw [if_pos ⟨line, held.2 image⟩, if_pos image]
      exact ⟨rfl, rfl⟩
    · rw [if_neg fun on => image (held.1 on.2), if_neg image]
      exact ⟨rfl, rfl⟩

/-- The rebuilt part is the reconciliation of a part with the replayed settings in force. -/
theorem State.Rebuilt.reconciled {s : State} {sensor : Int} (rebuilt : s.Rebuilt (s.rebuilt sensor)) :
    State.Reconciled s.replayed (s.rebuilt sensor) := by
  obtain ⟨last, sorted⟩ := Replayed.applyAll_sorted s.rj.chosenSlots
  have live := rebuilt.live
  have stored := rebuilt.stored
  unfold State.rebuilt at live stored ⊢
  generalize (s.scanned.restoreSettings s.replayed).settleFreeRun s.scanned sensor = v at live stored ⊢
  obtain ⟨live', stored', -, -⟩ := v.reconcile_frame s.replayed
  exact v.reconcile_spec sorted (live'.symm.trans live) (stored'.symm.trans stored)

theorem State.Reconciled.run {r : Replayed} {w x : State} (reconciled : State.Reconciled r w) (started : w.Started x) :
    State.Reconciled r x.run := by
  obtain ⟨cell, die, channel, line, tallied, counted⟩ := reconciled
  have rest := started.frame
  have images := started.liveImages
  generalize x.rj = rj, x.nu = nu at rest images
  rw [rest]
  exact ⟨cell, die, channel, line, tallied, images.trans counted⟩

theorem State.endReplay_tables {s : State} (sensor : Int) (noReset : s.clk.reset ≠ .ready) :
    State.Reconciled s.replayed (s.endReplay sensor) ∧
      ((s.endReplay sensor).live = Replayed.settings s.replayed ∧
        (s.endReplay sensor).stored = Replayed.settings s.replayed) ∧
      (s.endReplay sensor).rj.active = s.rj.scan ∧
      (s.re.suspects = [] → s.re.provings = [] → (s.endReplay sensor).rj.owed = s.rj.owed) := by
  obtain ⟨rebuilt, started⟩ := State.endReplay_spec sensor noReset
  have reconciled := rebuilt.reconciled.run started
  rw [s.endReplay_eq sensor]
  generalize s.rebuilt sensor = w at rebuilt started reconciled ⊢
  generalize w.startWriter = x at started reconciled ⊢
  refine ⟨reconciled, ?_, ?_, fun none idle => started.owed.trans (rebuilt.owed none idle)⟩
  · rw [started.frame]
    exact ⟨rebuilt.live, rebuilt.stored⟩
  · refine started.active.trans ?_
    rw [rebuilt.journal]

theorem State.setting_of_replay {t : State} {r : Replayed} (live : t.live = Replayed.settings r)
    (stored : t.stored = Replayed.settings r) {i : Nat} (known : i < 43) :
    t.setting i = Replayed.stored r i ∧ t.storedSetting i = Replayed.stored r i := by
  unfold State.setting State.storedSetting
  rw [live, stored, Replayed.read_settings, if_pos known]
  exact ⟨rfl, rfl⟩

/-- Settles O16: the record in force, the images that fit, the rules of reconciliation, and the tables they leave. -/
theorem replayAndReconciliationRebuildTheTables : Obligations.ReplayAndReconciliationRebuildTheTables := by
  refine ⟨⟨fun slots later n image fits last => Replayed.applyAll_last slots later fits last,
      fun slots n others => (Replayed.applyAll_other [] 0 others).1⟩,
    ⟨fun n image => rfl, fun r k n image check later bad => ?_, fun r k n image check later unfit => ?_,
      fun r k later => rfl⟩,
    ⟨imageFits_iff, Slot.unusable_marked, rfl⟩, ?_, fun s m starting noReset => ?_⟩
  · exact congrArg (Replayed.applyAll · (k + 1) later) (Replayed.apply_badCheck r k n bad)
  · exact congrArg (Replayed.applyAll · (k + 1) later) (Replayed.apply_unfit r k n check unfit)
  · rintro slots r rfl
    obtain ⟨last, sorted⟩ := Replayed.applyAll_sorted slots
    generalize Replayed.applyAll [] 0 slots = r at sorted ⊢
    refine ⟨fun n cell => ⟨Replayed.cellState_held, fun cLine rLine => ?_, Replayed.dieState_of_dead,
      Replayed.dieState_of_bare, fun c state => ⟨fun m state' => sorted.cellState_alone state state',
        Replayed.dieState_of_spared state, sorted.channelState_of_spared state⟩⟩,
      fun c channel unbound => sorted.channelState_of_unbound unbound⟩
    rw [Replayed.cellState_open cLine rLine]
    exact ⟨Replayed.firstState_of_healthy, fun reason => Replayed.firstState_of_concealed, fun c image =>
      ⟨Replayed.firstState_of_lost image, Replayed.firstState_of_spared image⟩⟩
  · obtain ⟨reconciled, ⟨live, stored⟩, active, owed⟩ := (s.tick m.elapsed).endReplay_tables m.sensor noReset
    refine ⟨(s.tick m.elapsed).endReplay m.sensor, exec_replayEnd starting, fun slots r chosen replayed => ?_⟩
    generalize (s.tick m.elapsed).endReplay m.sensor = t at *
    have same : (s.tick m.elapsed).replayed = r := by
      rw [replayed, chosen, active]
      rfl
    rw [same] at reconciled live stored
    obtain ⟨cell, die, channel, line, tallied, counted⟩ := reconciled
    obtain ⟨last, sorted⟩ := Replayed.applyAll_sorted slots
    rw [← replayed] at sorted
    have reads : ∀ i < 43, t.setting i = Replayed.stored r i ∧ t.storedSetting i = Replayed.stored r i := fun i known =>
      State.setting_of_replay live stored known
    refine ⟨fun n inside => ⟨cell n inside, die n inside⟩, channel, fun l inside => ?_, fun i known => ?_,
      fun warm hot isWarm isHot => ?_, counted, fun rests => ?_⟩
    · obtain ⟨state, undone⟩ := line l inside
      exact ⟨state, tallied l inside, undone⟩
    · obtain ⟨isLive, isStored⟩ := reads i known
      refine ⟨isLive.trans isStored.symm, fun notWarm notHot => ?_⟩
      rw [isStored, Replayed.stored_other r notWarm notHot, sorted.image_setting known]
    · rw [sorted.image_setting (by decide)] at isWarm isHot
      rw [(reads 20 (by decide)).2, (reads 21 (by decide)).2, Replayed.stored_limits, Image.value.inj isWarm,
        Image.value.inj isHot]
    · have still : s.operating = false := decide_eq_false (by rw [starting]; decide)
      obtain ⟨re, -, -, empty, -⟩ := rests still
      exact (owed (congrArg _ re) (congrArg _ re)).trans empty

end Sys2Proof.Machine

end

section
/-! PROOFS. O8, O11 and O10: the failing supply, the reset pin, the settle and the reset point. -/

namespace Sys2Proof.Machine

section

variable {s : State}

/-! ## A part that stops (R151, R152) -/

theorem exec_supplyFail_up (up : s.clk.powerReset = false) (cut : Cut) :
    exec (.supplyFail cut) s = .next (((s.setSupply .fail).stopPart cut).withClk
      { s.clk with phase := .off, reset := .none, powerReset := true }) :=
  congrArg Host.Outcome.next (if_neg (by rw [up]; decide))

theorem exec_resetPinAssert_up (free : s.clk.pinHeld = false) (up : s.clk.powerReset = false) (cut : Cut) :
    exec (.resetPinAssert cut) s = .next ((s.stopPart cut).withClk
      { s.clk with phase := .off, reset := .none, pinHeld := true }) := by
  have stops : (if s.clk.powerReset then s else s.stopPart cut) = s.stopPart cut := if_neg (by rw [up]; decide)
  refine congrArg Host.Outcome.next ((if_neg (by rw [free]; decide)).trans ?_)
  rw [stops]
  rfl

/-- The pin's edge is all that happens in a power-up reset. -/
theorem exec_resetPinAssert_down (free : s.clk.pinHeld = false) (down : s.clk.powerReset = true) (cut : Cut) :
    exec (.resetPinAssert cut) s = .next (s.withClk { s.clk with pinHeld := true }) := by
  have stays : (if s.clk.powerReset then s else s.stopPart cut) = s := if_pos down
  refine congrArg Host.Outcome.next ((if_neg (by rw [free]; decide)).trans ?_)
  rw [stays]

/-! ## The settle (R152) -/

/-- The settle begins where neither reset holds the part, at the time that it is. -/
theorem State.beginSettle_free (free : s.clk.pinHeld = false) (up : s.clk.powerReset = false) :
    s.beginSettle = s.withClk { s.clk with phase := .settling, settleFrom := s.clk.now } :=
  if_neg (by rw [free, up]; decide)

theorem State.beginSettle_held (held : s.clk.pinHeld = true ∨ s.clk.powerReset = true) : s.beginSettle = s :=
  if_pos (by rwa [Bool.or_eq_true])

theorem exec_powerUp_down (down : s.clk.powerReset = true) (elapsed : Nat) :
    exec (.powerUp elapsed) s = .next (((s.setSupply .good).withClk
      { s.clk with now := s.clk.now + elapsed, powerReset := false }).beginSettle) :=
  congrArg Host.Outcome.next (if_pos down)

theorem exec_resetPinRelease_held (held : s.clk.pinHeld = true) (elapsed : Nat) :
    exec (.resetPinRelease elapsed) s = .next
      (s.withClk { s.clk with now := s.clk.now + elapsed, pinHeld := false }).beginSettle :=
  congrArg Host.Outcome.next (if_pos held)

theorem exec_oscillatorSettle_settling (settling : s.clk.phase = .settling) :
    exec .oscillatorSettle s = .next (s.reach (s.clk.settleFrom + 4000)).beginScanning :=
  congrArg Host.Outcome.next (if_pos settling)

/-! ## The reset point (R146, R153) -/

theorem exec_resetPoint_due (runs : s.forwarding = true) (due : s.clk.reset = .ready) :
    exec .resetPoint s = .next (s.reach s.timerEnd).resetPoint :=
  congrArg Host.Outcome.next (if_pos (by rw [runs, due]; rfl))

theorem exec_resetPoint_not_due (notDue : s.clk.reset ≠ .ready) : exec .resetPoint s = .next s :=
  congrArg Host.Outcome.next (if_neg (by
    rw [decide_eq_false notDue, Bool.and_false]
    exact Bool.false_ne_true))

theorem Journal.finishRecord_idle {j : Journal} (record : j.record = none) (free : Nat) : j.finishRecord free = j := by
  unfold Journal.finishRecord
  rw [record]

theorem Journal.finishOperation_idle {j : Journal} (operation : j.operation = none) (free : Nat) :
    j.finishOperation free = j := by
  unfold Journal.finishOperation
  rw [operation]

/-- A reset point leaves the banks as they are where no work on them is in progress. -/
theorem State.resetPoint_banks (record : s.rj.record = none) (operation : s.rj.operation = none) :
    s.resetPoint.rj.bank0 = s.rj.bank0 ∧ s.resetPoint.rj.bank1 = s.rj.bank1 := by
  have finished : (s.rj.finishRecord s.clk.free).finishOperation (s.clk.free + 2) = s.rj := by
    rw [Journal.finishRecord_idle record, Journal.finishOperation_idle operation]
  unfold State.resetPoint
  rw [finished]
  exact ⟨rfl, rfl⟩

/-- Of the chain a reset point keeps the frames in passage (R153, R169; log 30). -/
theorem State.resetPoint_chain (s : State) (p : Port) :
    s.resetPoint.ci.port p = PortMonitor.reset ∧ s.resetPoint.ci.direction p = (s.ci.direction p).atResetPoint := by
  cases p <;> exact ⟨rfl, rfl⟩

end

/-- Settles O8: the part that stops has every block as a reset leaves it, and a part in the other reset stays so. -/
theorem supplyFailureAndResetPinStopThePart : Obligations.SupplyFailureAndResetPinStopThePart := by
  intro s cut
  exact ⟨fun up => ⟨_, exec_supplyFail_up up cut, rfl, rfl, rfl, rfl, rfl, rfl, rfl, rfl, rfl, rfl, rfl, rfl, rfl, rfl⟩,
    fun down => congrArg Host.Outcome.next (if_pos down),
    fun free up => ⟨_, exec_resetPinAssert_up free up cut, rfl, rfl, rfl, rfl, rfl, rfl, rfl, rfl, rfl, rfl, rfl, rfl, rfl,
      rfl⟩,
    fun free down => exec_resetPinAssert_down free down cut, fun held => congrArg Host.Outcome.next (if_pos held)⟩

/-- Settles O11: the settle begins unless the other reset still holds, and its end starts the scan engine. -/
theorem startUpRunsThroughTheSettle : Obligations.StartUpRunsThroughTheSettle := by
  intro s elapsed
  refine ⟨fun down free => ?_, fun down held => ?_, fun held up => ?_, fun held down => ?_,
    fun settling => exec_oscillatorSettle_settling settling⟩
  · exact (exec_powerUp_down down elapsed).trans (congrArg Host.Outcome.next (State.beginSettle_free free rfl))
  · exact (exec_powerUp_down down elapsed).trans (congrArg Host.Outcome.next (State.beginSettle_held (Or.inl held)))
  · exact (exec_resetPinRelease_held held elapsed).trans (congrArg Host.Outcome.next (State.beginSettle_free rfl up))
  · exact (exec_resetPinRelease_held held elapsed).trans
      (congrArg Host.Outcome.next (State.beginSettle_held (Or.inr down)))

/-- Settles O10: the blocks are those of a reset, and idle banks and the frames in passage are kept. -/
theorem resetPointClearsTheBlocks : Obligations.ResetPointClearsTheBlocks := by
  refine fun s => ⟨fun runs due => ?_, exec_resetPoint_not_due⟩
  exact ⟨_, exec_resetPoint_due runs due, rfl, rfl, rfl, fun _ => rfl, rfl, rfl, rfl, rfl, rfl, rfl, rfl, rfl,
    (s.reach s.timerEnd).resetPoint_chain, rfl, rfl, rfl, rfl, State.resetPoint_banks (s := s.reach s.timerEnd)⟩

end Sys2Proof.Machine

end

section
/-! PROOFS. O14 and O13: the temperature samples, the thermal state and the derate countdown. -/

namespace Sys2Proof.Machine

/-! ## Samples (R147) -/

/-- The degree of a sample is a nearest one to the clamped reading, on whichever side of the half it goes (log 8). -/
theorem roundDegrees_near (sensor : Int) :
    max (-40000) (min 125000 sensor) - 500 ≤ 1000 * roundDegrees sensor ∧
      1000 * roundDegrees sensor ≤ max (-40000) (min 125000 sensor) + 500 := by
  unfold roundDegrees
  generalize max (-40000) (min 125000 sensor) = m
  dsimp only
  split
  · rename_i half
    obtain ⟨half, -⟩ := half
    omega
  · omega

/-! ## The table of the thermal state (R147) -/

theorem Thermal.after_of_warm {t warm hot : Int} (above : warm ≤ t) (below : t < hot) :
    Thermal.after .normal t warm hot = .warm ∧ Thermal.after .warm t warm hot = .warm ∧
      Thermal.after .hot t warm hot = if hot - 5 < t then .hot else .warm :=
  ⟨(if_neg (by omega)).trans (if_pos above), (if_neg (by omega)).trans (if_pos (by omega)), if_pos above⟩

section

variable {t warm hot : Int} (apart : warm + 5 ≤ hot)
include apart

theorem Thermal.after_of_hot (above : hot ≤ t) (before : Thermal) : before.after t warm hot = .hot := by
  cases before with
  | normal | warm => exact if_pos above
  | hot => exact (if_pos (by omega)).trans (if_pos (by omega))

/-- Just below WARM LIMIT a tile that was WARM or HOT is WARM, and only a NORMAL one is NORMAL. -/
theorem Thermal.after_of_near (above : warm - 5 < t) (below : t < warm) :
    Thermal.after .normal t warm hot = .normal ∧ Thermal.after .warm t warm hot = .warm ∧
      Thermal.after .hot t warm hot = .warm :=
  ⟨(if_neg (by omega)).trans (if_neg (by omega)), (if_neg (by omega)).trans (if_pos above),
    (if_neg (by omega)).trans (if_pos above)⟩

theorem Thermal.after_of_normal (below : t ≤ warm - 5) (before : Thermal) : before.after t warm hot = .normal := by
  cases before with
  | normal | warm | hot => exact (if_neg (by omega)).trans (if_neg (by omega))

end

/-- Settles O14: what is nearest to a clamped reading lies in the range, and R147's table row by row. -/
theorem samplesAreRoundedAndMoveTheThermalState : Obligations.SamplesAreRoundedAndMoveTheThermalState := by
  refine ⟨fun sensor => ?_, fun t warm hot apart => ⟨Thermal.after_of_hot apart, Thermal.after_of_warm,
    Thermal.after_of_near apart, Thermal.after_of_normal apart⟩⟩
  obtain ⟨low, high⟩ := roundDegrees_near sensor
  refine ⟨by omega, by omega, by omega, by omega, by omega⟩

/-! ## The derate countdown (R149, R150) -/

theorem Derate.percent_down (d : Derate) : d.down.percent = max 40 (d.percent - 20) := by cases d <;> rfl

theorem Derate.percent_up (d : Derate) : d.up.percent = min 100 (d.percent + 20) := by cases d <;> rfl

section

variable {cm : ConditionMonitor} (restart : Nat)

theorem ConditionMonitor.expire_hot (hot : cm.thermal = .hot) :
    cm.expire restart = { cm with blank := true, countdown := none } := by
  unfold ConditionMonitor.expire
  rw [hot]

theorem ConditionMonitor.expire_warm (warm : cm.thermal = .warm) :
    cm.expire restart = { cm with derate := cm.derate.down, countdown := some restart } := by
  unfold ConditionMonitor.expire
  rw [warm]

theorem ConditionMonitor.expire_normal (normal : cm.thermal = .normal) :
    cm.expire restart = { cm with
      derate := cm.derate.up
      countdown := if cm.derate.up = .d100 then none else some restart } := by
  unfold ConditionMonitor.expire
  rw [normal]

end

/-- The countdown's end changes the Condition Monitor, and raises CONDITIONS exactly when the derate level or thermal blank
changes. -/
theorem State.expireCountdown_spec (s : State) :
    s.expireCountdown = { s with cm := s.cm.expire s.warmHoldEnd, nu := s.expireCountdown.nu } ∧
      ((s.cm.expire s.warmHoldEnd).derate = s.cm.derate → (s.cm.expire s.warmHoldEnd).blank = s.cm.blank →
        s.expireCountdown.nu = s.nu) ∧
      ((s.cm.expire s.warmHoldEnd).derate ≠ s.cm.derate ∨ (s.cm.expire s.warmHoldEnd).blank ≠ s.cm.blank →
        s.expireCountdown = (s.withCm (s.cm.expire s.warmHoldEnd)).notifyConditions) := by
  unfold State.expireCountdown
  dsimp only
  split
  · rename_i same
    exact ⟨rfl, fun _ _ => rfl, fun changed => absurd same (not_and_or.2 changed)⟩
  · rename_i changed
    exact ⟨rfl, fun derate blank => absurd ⟨derate, blank⟩ changed, fun _ => rfl⟩

theorem exec_derateCountdownExpiry {s : State} {d : Nat} (running : s.cm.countdown = some d) :
    exec .derateCountdownExpiry s = .next (s.reach d).expireCountdown := by
  change execDerateCountdownExpiry s = _
  unfold execDerateCountdownExpiry
  rw [running]

/-- Settles O13: the Condition Monitor by its thermal state, and CONDITIONS by what has changed of it. -/
theorem theCountdownStepsTheDerateLevel : Obligations.TheCountdownStepsTheDerateLevel := by
  intro s d running
  obtain ⟨frame, silent, raised⟩ := (s.reach d).expireCountdown_spec
  have clk : (s.reach d).expireCountdown.clk = { s.clk with now := max s.clk.now d } := congrArg State.clk frame
  have cm : (s.reach d).expireCountdown.cm = s.cm.expire (max s.clk.now d + s.setting 22 * 1000000) :=
    congrArg State.cm frame
  refine ⟨_, exec_derateCountdownExpiry running, clk, ?_⟩
  generalize (s.reach d).expireCountdown = t at *
  refine ⟨?_, fun hot => ?_, fun warm => ?_, fun normal => ?_, fun derate blank => ?_, fun changed => ?_⟩
  · rw [frame]
    rfl
  · rw [cm, ConditionMonitor.expire_hot _ hot]
  · rw [cm, clk, ConditionMonitor.expire_warm _ warm]
    exact ⟨s.cm.derate.percent_down, rfl⟩
  · rw [cm, clk, ConditionMonitor.expire_normal _ normal]
    exact ⟨s.cm.derate.percent_up, rfl⟩
  · rw [cm] at derate blank
    exact silent derate blank
  · have conditions := ((s.reach d).withCm t.cm).notifyConditions_notice
    rw [cm] at changed conditions ⊢
    rw [raised changed]
    exact conditions

end Sys2Proof.Machine

end

section
/-! PROOFS. O23: the flags of a reply, and the slot that it leaves in. -/

namespace Sys2Proof.Machine

/-! ## The attention summary (R172) -/

theorem State.mem_pendingKinds (s : State) {k : Nat} : k ∈ s.pendingKinds ↔ k < 15 ∧ (s.notice k).count ≠ 0 := by
  simp [State.pendingKinds, Nat.one_le_iff_ne_zero]

theorem State.summary_eq_none_iff (s : State) : s.summary = none ↔ ∀ k < 15, (s.notice k).count = 0 := by
  rw [State.summary, List.min?_eq_none_iff, List.map_eq_nil_iff, List.eq_nil_iff_forall_not_mem]
  refine forall_congr' fun k => ?_
  rw [s.mem_pendingKinds, not_and, not_not]

/-- The summary is the least priority of the pending kinds. -/
theorem State.summary_eq_some_iff (s : State) {p : Nat} :
    s.summary = some p ↔ (∃ k < 15, (s.notice k).count ≠ 0 ∧ p = s.setting (28 + k)) ∧
      ∀ k < 15, (s.notice k).count ≠ 0 → p ≤ s.setting (28 + k) := by
  rw [State.summary, List.min?_eq_some_iff, List.forall_mem_map, List.mem_map]
  refine and_congr (exists_congr fun k => ?_) (forall_congr' fun k => ?_)
  · rw [s.mem_pendingKinds, and_assoc, eq_comm]
    rfl
  · rw [s.mem_pendingKinds, and_imp]
    rfl

/-! ## The slot (R153, R158) -/

/-- A reply that leaves changes its direction, and the pending RESET whose DONE reply it is. -/
theorem State.placeReply_eq (s : State) (lane : Port) (reply : Reply) (rest : List Reply) :
    s.placeReply lane reply rest = { s.setDirection lane { s.ci.direction lane with
        queue := rest, repliesLost := false, sent := SlotRecord.bytes (s.filledSlot lane reply rest.length) } with
      clk := if s.clk.reset = .waiting lane ∧ reply.isResetDone = true then { s.clk with reset := .ready } else s.clk } := by
  unfold State.placeReply State.noteResetReply
  rw [State.setDirection_clk]
  split
  · rfl
  · cases lane <;> rfl

theorem Reply.isResetDone_iff (r : Reply) : r.isResetDone = true ↔ r.kind = 5 ∧ r.status = 0 := by
  rw [Reply.isResetDone, Bool.and_eq_true, decide_eq_true_eq, decide_eq_true_eq]
  rfl

section

variable {s : State} (runs : s.forwarding = true) (lane : Port) {r : SlotRecord}
include runs

theorem exec_replySlot_places {reply : Reply} {rest : List Reply} (inRange : SlotRecord.inRange r = true)
    (queue : (s.ci.direction lane).queue = reply :: rest) (empty : r.state = 0) :
    exec (.replySlot lane r) s = .next (s.placeReply lane reply rest) := by
  refine congrArg Host.Outcome.next ((if_pos runs).trans ?_)
  rw [queue]
  exact if_pos (by rw [inRange, decide_eq_true empty]; rfl)

theorem exec_replySlot_passes (nothing : (s.ci.direction lane).queue = [] ∨ r.state ≠ 0) :
    exec (.replySlot lane r) s = .next (s.send lane (SlotRecord.bytes r)) := by
  refine congrArg Host.Outcome.next ((if_pos runs).trans ?_)
  split
  · rename_i queue
    have filled : r.state ≠ 0 := nothing.resolve_left fun empty => nomatch empty.symm.trans queue
    exact if_neg (by rw [decide_eq_false filled, Bool.and_false]; exact Bool.false_ne_true)
  · rfl

end

/-- Settles O23: the summary is none or the least priority of the pending kinds, and a slot takes a reply or passes. -/
theorem aSlotTakesTheOldestReply : Obligations.ASlotTakesTheOldestReply := by
  refine ⟨fun s lane ranges => ?_, fun s lane r runs inRange => ⟨fun reply rest queue empty => ?_,
    exec_replySlot_passes runs lane⟩⟩
  · cases summary : s.summary with
    | none =>
      have quiet := s.summary_eq_none_iff.1 summary
      refine ⟨8, by decide, by rw [State.replyFlags, summary]; rfl, fun _ => rfl, fun k kind pending => ?_,
        fun other => absurd rfl other⟩
      exact absurd (quiet k kind) pending
    | some p =>
      obtain ⟨⟨k, kind, pending, priority⟩, least⟩ := s.summary_eq_some_iff.1 summary
      have small : p ≤ 7 := priority ▸ ranges k kind
      refine ⟨p, by omega, by rw [State.replyFlags, summary]; rfl, fun quiet => absurd (quiet k kind) pending, least,
        fun _ => ⟨k, kind, pending, priority⟩⟩
  · refine ⟨_, exec_replySlot_places runs lane inRange queue empty, ?_⟩
    rw [State.placeReply_eq]
    refine ⟨by cases lane <;> rfl, fun waits kind status => ?_, fun other => ?_⟩
    · exact if_pos ⟨waits, reply.isResetDone_iff.2 ⟨kind, status⟩⟩
    · refine if_neg fun ⟨waits, done⟩ => ?_
      obtain ⟨kind, status⟩ := reply.isResetDone_iff.1 done
      exact other.elim (absurd waits) fun other => other.elim (absurd kind) (absurd status)

end Sys2Proof.Machine

end

section
/-! PROOFS. O39 and O43: the requests that are turned away, and RESET. -/

namespace Sys2Proof.Machine

/-! ## Which requests are taken (R155, R163, R164) -/

section

variable (s : State) (lane : Port) (r : Request)

theorem State.mayConsider_iff :
    s.mayConsider lane = true ↔ (s.ci.direction lane).inFrame = true ∧ (s.ci.direction lane).considered < 8 := by
  rw [State.mayConsider, Bool.and_eq_true, decide_eq_true_eq]
  rfl

theorem State.hasRoom_iff : s.hasRoom lane = true ↔ (s.ci.direction lane).queue.length < 8 := decide_eq_true_iff

theorem Request.toAll_iff : Request.toAll r = true ↔ r.mode = 2 :=
  decide_eq_true_iff.trans (BitVec.toNat_inj (y := 2#8))

theorem Request.inRange_iff : Request.inRange r = true ↔ r.body.length ≤ 24 := decide_eq_true_iff

/-- The three modes that address a tile, by the mode's number (R163). -/
theorem State.addresses_iff_modes :
    s.addresses r = true ↔
      r.mode.toNat = 0 ∧ s.setting 23 ≠ 0 ∧ r.destination.toNat = s.setting 23 ∨
        r.mode.toNat = 1 ∧ (s.ci.direction r.lane).hop = some r.destination.toNat ∨ r.mode.toNat = 2 := by
  unfold State.addresses
  split
  · rename_i byId
    rw [Bool.and_eq_true, decide_eq_true_eq, decide_eq_true_eq]
    simp [byId, Setting.tileId]
  · rename_i byHop
    split
    · rename_i hop known
      simp [byHop, known, eq_comm]
    · rename_i unknown
      simp [byHop, unknown]
  · rename_i toAll
    simp [toAll]
  · rename_i notId notHop notAll
    simp [show r.mode.toNat ≠ 0 from notId, show r.mode.toNat ≠ 1 from notHop, show r.mode.toNat ≠ 2 from notAll]

theorem State.addresses_iff :
    s.addresses r = true ↔ r.mode = 0 ∧ s.setting 23 ≠ 0 ∧ r.destination.toNat = s.setting 23 ∨
      r.mode = 1 ∧ (s.ci.direction r.lane).hop = some r.destination.toNat ∨ r.mode = 2 := by
  rw [State.addresses_iff_modes, ← BitVec.toNat_inj (y := 0), ← BitVec.toNat_inj (y := 1), ← BitVec.toNat_inj (y := 2)]
  rfl

theorem State.accepts_iff :
    s.accepts r = true ↔ s.forwarding = true ∧ r.body.length ≤ 24 ∧ s.mayConsider r.lane = true ∧
      s.addresses r = true ∧ (r.mode = 2 ∨ s.hasRoom r.lane = true) := by
  simp only [State.accepts, Bool.and_eq_true, Bool.or_eq_true, Request.toAll_iff, Request.inRange_iff, and_assoc]

end

/-! ## Requests that are not taken (R163, R164) -/

@[simp] theorem State.send_mayConsider (s : State) (lane : Port) (bytes : List Byte) :
    (s.send lane bytes).mayConsider lane = s.mayConsider lane := by
  simp [State.mayConsider, State.send]

@[simp] theorem State.heard_hasRoom (s : State) (r : Request) (kind : Byte) :
    (s.heard r kind).hasRoom r.lane = s.hasRoom r.lane := by
  simp [State.hasRoom, State.heard_eq]

section

variable {s : State} {r : Request} (kind : Byte) (op : State → State × Answer)

theorem State.request_forwards (runs : s.forwarding = true) (inRange : Request.inRange r = true) :
    s.request r kind op =
      if s.mayConsider r.lane = false then s.send r.lane (Request.bytes r kind)
      else if s.addresses r = false then s.heard r kind
      else if Request.toAll r = false ∧ s.hasRoom r.lane = false then (s.heard r kind).loseReply r.lane
      else (s.heard r kind).take r kind op := by
  have addressed := State.addresses_heard s r kind
  have room := State.heard_hasRoom s r kind
  unfold State.heard at addressed room ⊢
  simp [State.request, runs, inRange, addressed, room]

end

/-! ## Taken requests that are refused before their block (R152, R164, R166) -/

section

variable {s : State} {r : Request} {kind : Byte}

theorem State.request_refused {op : State → State × Answer} {status : Status} (taken : s.accepts r = true)
    (refuses : (s.heard r kind).decideRequest r kind op = (s.heard r kind).refuse status) :
    s.request r kind op = s.refused r kind status := by
  rw [State.request_accepted taken, refuses]
  rfl

theorem State.decideRequest_starting (op : State → State × Answer) (starting : s.operating = false) (other : kind ≠ 1) :
    s.decideRequest r kind op = s.refuse .busy :=
  if_pos (by rw [starting, decide_eq_true other]; rfl)

theorem State.decideRequest_unknown (op : State → State × Answer) (operating : s.operating = true)
    (unknown : knownKind kind = false) : s.decideRequest r kind op = s.refuse .unknownKind :=
  (if_neg (by simp [operating])).trans (if_pos (by rw [unknown]; rfl))

theorem State.decideRequest_notByHop (op : State → State × Answer) (operating : s.operating = true)
    (other : r.mode.toNat ≠ 1) : s.decideRequest r 2 op = s.refuse .notPermitted :=
  (if_neg (by simp [operating])).trans ((if_neg (by decide)).trans (if_pos (by
    rw [decide_eq_true other]
    rfl)))

end

/-! ## The commands that requests are (R164) -/

theorem exec_unknownKind {kind : Byte} (unknown : knownKind kind = false) (r : Request) (s : State) :
    exec (.unknownKind r kind) s = .next (s.request r kind fun s => s.refuse .unknownKind) :=
  congrArg Host.Outcome.next (if_neg (by rw [unknown]; decide))

/-- Every request but SET is the request mechanism around what its kind does. -/
theorem exec_requestCommand {kind : Byte} (notSet : kind ≠ 3) (r : Request) (m : Moment) :
    ∃ op, ∀ s, exec (requestCommand r kind m) s = .next (s.request r kind op) := by
  have named : ∀ {n : Nat}, kind.toNat = n → kind = BitVec.ofNat 8 n := fun number => by simp [← number]
  unfold requestCommand
  split
  case h_3 number => exact absurd (named number) notSet
  case h_28 =>
    refine ⟨_, exec_unknownKind ?_ r⟩
    simp only [knownKind, Bool.and_eq_false_iff, decide_eq_false_iff_not]
    simp only [imp_false] at *
    omega
  all_goals
    rename_i number
    obtain rfl := named number
    exact ⟨_, fun _ => rfl⟩

/-- Where the settings are as they were, no FREE-RUN PERIOD is new, and no frame start comes of one (R38). -/
theorem State.settleFreeRun_same {s before : State} (live : s.live = before.live) (sensor : Int) :
    s.settleFreeRun before sensor = s :=
  if_neg fun changed => changed.1 (by
    unfold State.freeRun State.setting
    rw [live])

/-- Settles O39: the conditions of a request that is taken, then the requests of every kind that are not taken, and those that
are taken and refused before their block. -/
theorem requestsAreTurnedAwayAsStated : Obligations.RequestsAreTurnedAwayAsStated := by
  refine ⟨fun s lane => ⟨s.mayConsider_iff lane, s.hasRoom_iff lane⟩,
    fun s r => ⟨s.addresses_iff r, Request.toAll_iff r, s.accepts_iff r⟩, fun s r kind m runs inRange notSet => ?_,
    fun s r kind m taken => ⟨fun starting notIdentify notSet => ?_, fun starting => ?_, fun operating unknown => ?_,
      fun operating notByHop => ?_⟩⟩
  · obtain ⟨op, command⟩ := exec_requestCommand notSet r m
    rw [command, State.request_forwards kind op runs inRange]
    refine ⟨fun late => ?_, fun considered unaddressed => ?_, fun considered addressed one full => ?_⟩
    · rw [if_pos late]
    · rw [if_neg (by simp [considered]), if_pos unaddressed]
    · rw [if_neg (by simp [considered]), if_neg (by simp [addressed]), if_pos ⟨one, full⟩]
  · obtain ⟨op, command⟩ := exec_requestCommand notSet r m
    rw [command, State.request_refused taken (State.decideRequest_starting op (by simpa using starting) notIdentify)]
  · have takenThen : (s.tick m.elapsed).accepts r = true := taken
    have refused := State.request_refused takenThen
      (State.decideRequest_starting (kind := 3) (setOp r.body) ((State.heard_operating _ _ _).trans starting) (by decide))
    refine ⟨takenThen, congrArg Host.Outcome.next ?_⟩
    rw [refused]
    exact State.settleFreeRun_same (by simp [State.refused]) m.sensor
  · rw [exec_unknownKind unknown,
      State.request_refused taken (State.decideRequest_unknown _ (by simpa using operating) unknown)]
  · exact congrArg Host.Outcome.next
      (State.request_refused taken (State.decideRequest_notByHop _ (by simpa using operating) notByHop))

/-! ## RESET (R153) -/

theorem resetOp_malformed {r : Request} (long : r.body ≠ []) (s : State) : resetOp r s = s.refuse .malformed :=
  if_neg (by simpa using long)

/-- RESET with its empty body: one that is pending already is not asked for again. -/
theorem resetOp_eq {r : Request} (empty : r.body = []) (s : State) :
    resetOp r s = if s.clk.reset ≠ .none then s.refuse .busy
      else (s.withClk { s.clk with reset := Request.resets r }, ⟨.done, []⟩) :=
  if_pos (by rw [empty]; rfl)

/-- What RESET waits for: its reply, or in ALL mode nothing. -/
theorem Request.resets_eq (r : Request) :
    Request.resets r = if r.mode.toNat = 2 then .ready else .waiting r.lane := by
  unfold Request.resets Request.toAll
  simp only [decide_eq_true_eq]

/-- Settles O43: RESET is refused for its body or a pending one, and is else answered DONE and made pending. -/
theorem resetWaitsForItsReply : Obligations.ResetWaitsForItsReply := by
  intro s r serves
  refine ⟨fun long => ?_, fun empty pending => ?_, fun empty free => ?_⟩
  · exact congrArg Host.Outcome.next (serves.refuses rfl (by decide) (resetOp_malformed long _))
  · refine congrArg Host.Outcome.next (serves.refuses rfl (by decide) ?_)
    rw [resetOp_eq empty, State.heard_clk, if_pos pending]
  · refine congrArg Host.Outcome.next (serves.does rfl (by decide) ?_)
    rw [resetOp_eq empty, State.heard_clk, if_neg (not_not.2 free), Request.resets_eq]
    rfl

end Sys2Proof.Machine

end

section
/-! PROOFS. O17, O19, O20 and O26: heads and damaged records on their way through the chain, and the feed that a head
selects. -/

namespace Sys2Proof.Machine

/-! ## Damaged records (R155, R156, R160) -/

@[simp] theorem State.send_direction (s : State) (lane : Port) (bytes : List Byte) :
    (s.send lane bytes).ci.direction lane = { s.ci.direction lane with sent := bytes } :=
  State.setDirection_direction _ _ _

@[simp] theorem State.send_port (s : State) (lane p : Port) (bytes : List Byte) :
    (s.send lane bytes).ci.port p = s.ci.port p := State.setDirection_port _ _ _ _

/-- A record that is no good record is sent on, and voids the interval around it when its check is bad. -/
theorem exec_recordBadCheck {s : State} {bytes : List Byte} (runs : s.forwarding = true)
    (damaged : goodRecord bytes = false) (lane : Port) :
    exec (.recordBadCheck lane bytes) s =
      .next (if goodCheck bytes then s.send lane bytes else (s.send lane bytes).voidInterval lane) :=
  congrArg Host.Outcome.next (if_pos (by rw [runs, damaged]; rfl))

/-- Settles O26: the record is sent on as it came, and only a bad check voids the interval. -/
theorem aDamagedRecordVoidsTheInterval : Obligations.ADamagedRecordVoidsTheInterval := by
  intro s lane bytes runs damaged
  rw [exec_recordBadCheck runs damaged]
  refine ⟨fun bad => ?_, fun good => by rw [if_pos good]⟩
  rw [bad, if_neg Bool.false_ne_true, State.voidInterval, State.send_port]

/-! ## What a head leaves for feed selection (R157, R160) -/

theorem State.heardOn_frame (s : State) (lane : Port) (mark : Bool) (nu : Table Notice) :
    (s.heardOn lane mark nu).live = s.live ∧
      (s.heardOn lane mark nu).ci.port (otherPort lane) = s.ci.port (otherPort lane) ∧
      (∀ p, (s.heardOn lane mark nu).ci.direction p = s.ci.direction p) ∧
      (s.heardOn lane mark nu).ci.returnCount = s.ci.returnCount ∧
      (s.heardOn lane mark nu).ci.leftNone = s.ci.leftNone := by
  cases lane <;> exact ⟨rfl, rfl, fun p => by cases p <;> rfl, rfl, rfl⟩

/-- The forwarder's and the monitor's work leaves the settings, the other port and the directions that the forwarder has
set, and what feed selection counts. -/
theorem State.heard_frame (s : State) (lane : Port) (r : HeadRecord) :
    ((s.forwardHead lane r).monitorHead lane).live = s.live ∧
      ((s.forwardHead lane r).monitorHead lane).ci.port (otherPort lane) = s.ci.port (otherPort lane) ∧
      (∀ p, ((s.forwardHead lane r).monitorHead lane).ci.direction p = (s.forwardHead lane r).ci.direction p) ∧
      ((s.forwardHead lane r).monitorHead lane).ci.returnCount = s.ci.returnCount ∧
      ((s.forwardHead lane r).monitorHead lane).ci.leftNone = s.ci.leftNone := by
  obtain ⟨mark, nu, heard, _⟩ := (s.forwardHead lane r).monitorHead_heard lane
  obtain ⟨live, other, directions, count, left⟩ := (s.forwardHead lane r).heardOn_frame lane mark nu
  rw [heard]
  exact ⟨live.trans (State.setDirection_live _ _ _), other.trans (State.setDirection_port _ _ _ _), directions,
    count.trans (State.setDirection_ci_returnCount _ _ _), left.trans (State.setDirection_ci_leftNone _ _ _)⟩

/-! ## A change of the feed (R161, R162) -/

/-- What a change of the feed makes of the chain, and FEED CHANGED: raised but for the first change from NONE. -/
theorem State.changeFeed_chain (s : State) (new : Option Port) (cause : FeedCause) :
    (s.changeFeed new cause).clk = s.clk ∧
      (s.changeFeed new cause).ci = { s.ci with
        feed := new
        pendingSwitch := none
        returnCount := 0
        leftNone := s.ci.leftNone || s.ci.feed.isNone } ∧
      (s.changeFeed new cause).notice 10 = if s.ci.feed = none ∧ s.ci.leftNone = false then s.notice 10
        else ⟨min ((s.notice 10).count + 1) 255, some (.feedChanged new cause)⟩ := by
  unfold State.changeFeed
  simp only [Bool.and_eq_true, Option.isNone_iff_eq_none, Bool.not_eq_true']
  split
  · exact ⟨rfl, rfl, rfl⟩
  · exact ⟨rfl, rfl, State.notify_notice_of_kind _ rfl⟩

/-- The feed leaves NONE by a change of the feed, whose cause is free (log 9). -/
theorem State.leaveNone_chain (s : State) (lane : Port) : ∃ cause,
    (s.leaveNone lane).clk.reset = s.clk.reset ∧
      (s.leaveNone lane).ci = (s.changeFeed (some lane) cause).ci ∧
      (s.leaveNone lane).notice 10 = (s.changeFeed (some lane) cause).notice 10 := by
  unfold State.leaveNone
  generalize (if Config.leavingNoneIsReturn s.clk.free then FeedCause.feedReturn else .loss) = cause
  obtain ⟨clk, ci, changed⟩ := (s.withClk { s.clk with free := s.clk.free + 1 }).changeFeed_chain (some lane) cause
  obtain ⟨_, ci', changed'⟩ := s.changeFeed_chain (some lane) cause
  have reset := congrArg Clock.reset clk
  exact ⟨cause, reset, ci.trans ci'.symm, changed.trans changed'.symm⟩

/-- Feed selection leaves the ports and the directions, and a pending RESET. -/
theorem State.selectOnHead_frame (s : State) (lane : Port) :
    (s.selectOnHead lane).clk.reset = s.clk.reset ∧ (∀ p, (s.selectOnHead lane).ci.port p = s.ci.port p) ∧
      ∀ p, (s.selectOnHead lane).ci.direction p = s.ci.direction p := by
  have changes : ∀ cause, (s.changeFeed (some lane) cause).clk.reset = s.clk.reset ∧
      (∀ p, (s.changeFeed (some lane) cause).ci.port p = s.ci.port p) ∧
      ∀ p, (s.changeFeed (some lane) cause).ci.direction p = s.ci.direction p := fun cause => by
    obtain ⟨clk, ci, _⟩ := s.changeFeed_chain (some lane) cause
    rw [clk, ci]
    exact ⟨rfl, fun p => by cases p <;> rfl, fun p => by cases p <;> rfl⟩
  unfold State.selectOnHead
  split
  · obtain ⟨cause, reset, ci, _⟩ := s.leaveNone_chain lane
    rw [reset, ci]
    exact ⟨rfl, (changes cause).2⟩
  · split
    · exact changes _
    · exact ⟨rfl, fun p => by cases p <;> rfl, fun p => by cases p <;> rfl⟩
  · split
    · unfold State.countReturn
      split
      · exact ⟨rfl, fun p => by cases p <;> rfl, fun p => by cases p <;> rfl⟩
      · exact changes _
    · exact ⟨rfl, fun _ => rfl, fun _ => rfl⟩

/-! ## The head that is sent on (R157) -/

/-- Past the forwarder a head leaves the directions alone. -/
theorem State.headArrives_direction {s : State} (lane : Port) (r : HeadRecord) (sensor : Int)
    (noReset : s.clk.reset ≠ .ready) (p : Port) :
    (s.headArrives lane r sensor).ci.direction p = (s.forwardHead lane r).ci.direction p := by
  obtain ⟨clk, _⟩ := s.heard_chain lane r
  obtain ⟨_, _, directions, _⟩ := s.heard_frame lane r
  obtain ⟨reset, _, selected⟩ := ((s.forwardHead lane r).monitorHead lane).selectOnHead_frame lane
  obtain ⟨_, ci, _⟩ := State.settleTimer_chain
    (s := ((s.forwardHead lane r).monitorHead lane).selectOnHead lane) s.feedLive sensor (by rwa [reset, clk])
  rw [← directions p, ← selected p, ← ci]
  unfold State.headArrives
  dsimp only
  split <;> rfl

/-- Settles O17: the forwarder alone sets the direction, for a head and for a damaged one. -/
theorem headsAreForwardedWithTheirHopRaised : Obligations.HeadsAreForwardedWithTheirHopRaised := by
  intro s lane runs
  refine ⟨fun r m noReset => ⟨_, exec_frameHead runs lane r m, ?_⟩,
    fun bytes damaged => ⟨_, exec_recordBadCheck runs damaged lane, ?_⟩⟩
  · have direction := State.headArrives_direction (s := s.tick m.elapsed) lane r m.sensor noReset
    rw [direction, direction]
    unfold State.forwardHead
    rw [State.setDirection_direction, State.setDirection_direction_other]
    exact ⟨rfl, rfl, rfl, rfl⟩
  · have voided : ((s.send lane bytes).voidInterval lane).ci.direction lane = (s.send lane bytes).ci.direction lane :=
      State.setPort_direction _ _ _ _
    split
    · rw [State.send_direction]
      exact ⟨rfl, rfl⟩
    · rw [voided, State.send_direction]
      exact ⟨rfl, rfl⟩

/-! ## A head with the feed NONE (R161) -/

section

variable {s : State} {lane : Port} (r : HeadRecord) (sensor : Int) (noReset : s.clk.reset ≠ .ready)
include noReset

/-- A head that finds the feed NONE makes its port the feed; only the first such change raises nothing. -/
theorem State.headArrives_leavesNone (feed : s.ci.feed = none) :
    ∃ w : State, s.headArrives lane r sensor = w.openCapture r ∧ w.ci.feed = some lane ∧
      (w.ci.port lane).live = true ∧ w.ci.leftNone = true ∧ w.ci.returnCount = 0 ∧ w.ci.pendingSwitch = none ∧
      (s.ci.leftNone = false → w.notice 10 = s.notice 10) ∧
      (s.ci.leftNone = true → ∃ cause,
        w.notice 10 = ⟨min ((s.notice 10).count + 1) 255, some (.feedChanged (some lane) cause)⟩) := by
  obtain ⟨clk, feed', _, live, _, notice⟩ := s.heard_chain lane r
  obtain ⟨_, _, _, _, left⟩ := s.heard_frame lane r
  rw [feed] at feed'
  have selected : ((s.forwardHead lane r).monitorHead lane).selectOnHead lane =
      ((s.forwardHead lane r).monitorHead lane).leaveNone lane := by
    unfold State.selectOnHead
    simp only [feed']
  have opens := fun v => State.headArrives_opens (s := s) (v := v) (r := r) (lane := lane) sensor
  generalize (s.forwardHead lane r).monitorHead lane = u at *
  obtain ⟨cause, reset, ci, changed⟩ := u.leaveNone_chain lane
  obtain ⟨_, ci', changed'⟩ := u.changeFeed_chain (some lane) cause
  obtain ⟨w, arrives, chain, raised, _⟩ := opens _ selected (by rw [ci, ci'])
    (by rwa [reset, clk])
  rw [changed, changed', feed', left, notice] at raised
  rw [ci, ci', feed'] at chain
  refine ⟨w, arrives, ?_, ?_, ?_, ?_, ?_, fun first => ?_, fun again => ⟨cause, ?_⟩⟩
  · rw [chain]
  · rw [chain]
    cases lane <;> exact live
  · rw [chain]
    exact Bool.or_true _
  · rw [chain]
  · rw [chain]
  · rw [raised, if_pos ⟨rfl, first⟩]
  · rw [raised, again, if_neg fun first => Bool.noConfusion first.2]

end

/-- Settles O19: feed selection leaves NONE, at most a frame start follows, and then the capture opens (log 17). -/
theorem aHeadBringsTheFeedOutOfNone : Obligations.AHeadBringsTheFeedOutOfNone := by
  intro s lane r m runs noReset feed
  obtain ⟨w, arrives, feed', live, left, count, switch, notices⟩ :=
    State.headArrives_leavesNone (s := s.tick m.elapsed) (lane := lane) r m.sensor noReset feed
  exact ⟨_, (exec_frameHead runs lane r m).trans (congrArg _ arrives), feed', live, left, count, switch, rfl, rfl, rfl,
    notices⟩

/-! ## The return to the preferred port (R162) -/

theorem State.returnRuns_iff (s : State) (lane : Port) :
    s.returnRuns lane = true ↔ s.setting 25 = 1 ∧ s.ci.pendingSwitch = none ∧ lane = s.preferredPort ∧
      s.ci.feed = some (otherPort lane) := by
  simp only [State.returnRuns, Bool.and_eq_true, decide_eq_true_eq, Option.isNone_iff_eq_none, and_assoc]
  rfl

section

variable {s : State} {lane : Port} (r : HeadRecord) (sensor : Int) (runs : s.returnRuns lane = true)
include runs

/-- While the return count runs, feed selection counts the head. -/
theorem State.heard_counts :
    ((s.forwardHead lane r).monitorHead lane).selectOnHead lane =
      ((s.forwardHead lane r).monitorHead lane).countReturn lane := by
  obtain ⟨on, unswitched, preferred, feed⟩ := (s.returnRuns_iff lane).1 runs
  obtain ⟨_, feed', switch', _⟩ := s.heard_chain lane r
  obtain ⟨live, _⟩ := s.heard_frame lane r
  generalize (s.forwardHead lane r).monitorHead lane = u at *
  have preferred' : u.preferredPort = s.preferredPort := by
    unfold State.preferredPort
    rw [State.setting_congr live]
  have runs' : u.returnRuns lane = true := (u.returnRuns_iff lane).2
    ⟨(State.setting_congr live 25).trans on, switch'.trans unswitched, preferred.trans preferred'.symm,
      feed'.trans feed⟩
  unfold State.selectOnHead
  simp only [feed', feed, switch', unswitched, runs', if_true]

/-- The head that takes the count to 120 makes the preferred port the feed. -/
theorem State.headArrives_returns (noReset : s.clk.reset ≠ .ready) (last : s.ci.returnCount = 119) :
    ∃ w : State, s.headArrives lane r sensor = w.openCapture r ∧ w.ci.feed = some lane ∧ w.ci.returnCount = 0 ∧
      (w.ci.port lane).live = true ∧
      w.notice 10 = ⟨min ((s.notice 10).count + 1) 255, some (.feedChanged (some lane) .feedReturn)⟩ := by
  obtain ⟨_, _, _, feed⟩ := (s.returnRuns_iff lane).1 runs
  obtain ⟨clk, feed', _, live, _, notice⟩ := s.heard_chain lane r
  obtain ⟨_, _, _, count, _⟩ := s.heard_frame lane r
  have counts := State.heard_counts r runs
  have opens := fun v => State.headArrives_opens (s := s) (v := v) (r := r) (lane := lane) sensor
  generalize (s.forwardHead lane r).monitorHead lane = u at *
  have returns : u.countReturn lane = u.changeFeed (some lane) .feedReturn := if_neg (by
    rw [count, last]
    decide)
  obtain ⟨clk', ci, changed⟩ := u.changeFeed_chain (some lane) .feedReturn
  obtain ⟨w, arrives, chain, raised, _⟩ := opens _ (counts.trans returns) (by rw [ci])
    (by rwa [clk', clk])
  refine ⟨w, arrives, by rw [chain, ci], by rw [chain, ci], ?_, ?_⟩
  · rw [chain, ci]
    cases lane <;> exact live
  · rw [raised, changed, feed', feed, notice, if_neg fun first => Option.some_ne_none _ first.1]

/-- A head before that one only adds to the count: the feed, and with it the frame timer, is the other port's. -/
theorem State.headArrives_adds (more : s.ci.returnCount < 119) :
    (s.headArrives lane r sensor).ci.feed = s.ci.feed ∧
      (s.headArrives lane r sensor).ci.returnCount = s.ci.returnCount + 1 ∧
      (s.headArrives lane r sensor).pp = s.pp ∧ (s.headArrives lane r sensor).notice 10 = s.notice 10 := by
  obtain ⟨_, _, _, feed⟩ := (s.returnRuns_iff lane).1 runs
  obtain ⟨_, feed', _, _, pp, notice⟩ := s.heard_chain lane r
  obtain ⟨_, other, _, count, _⟩ := s.heard_frame lane r
  have counts := State.heard_counts r runs
  unfold State.headArrives
  generalize (s.forwardHead lane r).monitorHead lane = u at *
  have adds : u.countReturn lane = u.withCi { u.ci with returnCount := u.ci.returnCount + 1 } := if_pos (by
    rw [count]
    exact Nat.add_lt_add_right more 1)
  have same : (u.countReturn lane).feedLive = s.feedLive := by
    rw [adds, State.feedLive_of_feed feed, ← other]
    exact State.feedLive_of_feed (s := u.withCi _) (feed'.trans feed)
  have elsewhere : (u.countReturn lane).ci.feed ≠ some lane := by
    rw [adds]
    exact fun here => otherPort_ne lane (Option.some.inj (feed.symm.trans (feed'.symm.trans here)))
  dsimp only
  rw [counts, State.settleTimer_same same, if_neg elsewhere, adds]
  exact ⟨feed', congrArg (· + 1) count, pp, notice⟩

end

theorem exec_feedReturn {s : State} (may : s.mayReturn = true) (r : HeadRecord) (m : Moment) :
    exec (.feedReturn r m) s = .next ((s.tick m.elapsed).headArrives s.preferredPort r m.sensor) :=
  congrArg Host.Outcome.next (if_pos may)

/-- Settles O20: while the count runs the 120th head changes the feed, as FEED_RETURN and as a head on the preferred port, and
one before it is counted. -/
theorem theReturnCountBringsTheFeedBack : Obligations.TheReturnCountBringsTheFeedBack := by
  intro s r m runs noReset on unswitched feed
  have counting : s.returnRuns s.preferredPort = true := (s.returnRuns_iff _).2 ⟨on, unswitched, rfl, feed⟩
  refine ⟨fun last c command => ?_, fun more => ?_⟩
  · have taken : exec c s = .next ((s.tick m.elapsed).headArrives s.preferredPort r m.sensor) := by
      rcases List.mem_pair.1 command with rfl | rfl
      · refine exec_feedReturn ?_ r m
        rw [State.mayReturn, runs, counting, last]
        rfl
      · exact exec_frameHead runs _ r m
    obtain ⟨w, arrives, feed', count, live, raised⟩ :=
      State.headArrives_returns (s := s.tick m.elapsed) r m.sensor counting noReset last
    exact ⟨_, taken.trans (congrArg _ arrives), feed', count, live, rfl, rfl, raised⟩
  · obtain ⟨feed', count, pp, unchanged⟩ := State.headArrives_adds (s := s.tick m.elapsed) r m.sensor counting more
    exact ⟨_, exec_frameHead runs _ r m, feed', count, congrArg PixelPath.captureOpen pp, unchanged⟩

end Sys2Proof.Machine

end

section
/-! PROOFS. O52: CLEAR. -/

namespace Sys2Proof.Machine

/-! ## One kind named with its seen count (R160, R174) -/

/-- What a seen count leaves of the record of the kind it names. -/
def Notice.cleared (n : Notice) (seen : Nat) : Notice :=
  if seen = n.count then ⟨0, none⟩ else if seen < n.count then ⟨n.count - seen, n.detail⟩ else n

theorem Notice.cleared_cases (n : Notice) (seen : Nat) :
    (seen = n.count → n.cleared seen = ⟨0, none⟩) ∧
    (seen < n.count → n.cleared seen = ⟨n.count - seen, n.detail⟩) ∧ (n.count < seen → n.cleared seen = n) :=
  ⟨fun whole => if_pos whole, fun part => (if_neg (by omega)).trans (if_pos part),
    fun more => (if_neg (by omega)).trans (if_neg (by omega))⟩

section

variable (s : State) (kind seen : Nat)

theorem State.clearKind_whole {s : State} {kind seen : Nat} (whole : seen = (s.notice kind).count) :
    s.clearKind kind seen =
      if kind = 11 then (s.setNotice kind ⟨0, none⟩).clearMarks else s.setNotice kind ⟨0, none⟩ := if_pos whole

theorem State.clearKind_other {s : State} {kind seen : Nat} (other : seen ≠ (s.notice kind).count) :
    s.clearKind kind seen = if seen < (s.notice kind).count
      then s.setNotice kind ⟨(s.notice kind).count - seen, (s.notice kind).detail⟩ else s := if_neg other

theorem State.clearKind_notice (k : Nat) :
    (s.clearKind kind seen).notice k = if kind = k then (s.notice kind).cleared seen else s.notice k := by
  obtain ⟨all, part, more⟩ := (s.notice kind).cleared_cases seen
  by_cases whole : seen = (s.notice kind).count
  · have marked : ((s.setNotice kind ⟨0, none⟩).clearMarks).notice k = (s.setNotice kind ⟨0, none⟩).notice k := rfl
    rw [State.clearKind_whole whole, all whole, ← State.setNotice_notice]
    split
    · exact marked
    · rfl
  · rw [State.clearKind_other whole]
    split
    · rename_i fewer
      rw [part fewer]
      exact State.setNotice_notice _ _ _ _
    · rw [more (by omega)]
      split
      · rename_i here
        rw [here]
      · rfl

/-- The marks go with the whole count of CADENCE CHANGE. -/
theorem State.clearKind_port (p : Port) :
    (s.clearKind kind seen).ci.port p =
      if kind = 11 ∧ seen = (s.notice 11).count then { s.ci.port p with mark := false } else s.ci.port p := by
  by_cases marks : kind = 11 ∧ seen = (s.notice 11).count
  · rw [if_pos marks]
    obtain ⟨rfl, whole⟩ := marks
    rw [State.clearKind_whole whole, if_pos rfl]
    cases p <;> rfl
  · rw [if_neg marks]
    by_cases whole : seen = (s.notice kind).count
    · rw [State.clearKind_whole whole, if_neg fun cadence => marks ⟨cadence, cadence ▸ whole⟩]
      rfl
    · rw [State.clearKind_other whole]
      split <;> rfl

theorem State.clearKind_frame :
    s.clearKind kind seen = { s with
      ci := { s.ci with portA := (s.clearKind kind seen).ci.portA, portB := (s.clearKind kind seen).ci.portB }
      nu := (s.clearKind kind seen).nu } := by
  unfold State.clearKind
  dsimp only
  split
  · split <;> rfl
  · split <;> rfl

end

/-! ## The kinds of a CLEAR, one after another (R174) -/

/-- The kinds that pairs name, each with its seen count. -/
def State.clearAll (s : State) (pairs : List (Nat × Nat)) : State := pairs.foldl (fun t p => t.clearKind p.1 p.2) s

theorem State.clearAll_frame (s : State) (pairs : List (Nat × Nat)) :
    s.clearAll pairs = { s with
      ci := { s.ci with portA := (s.clearAll pairs).ci.portA, portB := (s.clearAll pairs).ci.portB }
      nu := (s.clearAll pairs).nu } := by
  refine foldl_keeps (P := fun t : State => t = { s with
    ci := { s.ci with portA := t.ci.portA, portB := t.ci.portB }, nu := t.nu }) _ (fun t p kept => ?_) pairs rfl
  rw [State.clearKind_frame, kept]

theorem State.clearAll_unnamed (s : State) {pairs : List (Nat × Nat)} {k : Nat} (unnamed : ∀ p ∈ pairs, p.1 ≠ k) :
    (s.clearAll pairs).notice k = s.notice k := by
  induction pairs generalizing s with
  | nil => rfl
  | cons p rest ih =>
    obtain ⟨first, others⟩ := List.forall_mem_cons.1 unnamed
    exact (ih (s.clearKind p.1 p.2) others).trans ((s.clearKind_notice _ _ k).trans (if_neg first))

section

variable {pairs : List (Nat × Nat)} (once : (pairs.map (·.1)).Nodup)
include once

/-- A kind that is named once is left by the others as its own pair leaves it. -/
theorem State.clearAll_named (s : State) {k seen : Nat} (named : (k, seen) ∈ pairs) :
    (s.clearAll pairs).notice k = (s.notice k).cleared seen := by
  induction pairs generalizing s with
  | nil => cases named
  | cons p rest ih =>
    obtain ⟨first, others⟩ := List.nodup_cons.1 once
    rcases List.mem_cons.1 named with rfl | later
    · have later : ∀ q ∈ rest, q.1 ≠ k := fun q listed same => first (List.mem_map.2 ⟨q, listed, same⟩)
      exact (State.clearAll_unnamed (s.clearKind k seen) later).trans ((s.clearKind_notice _ _ k).trans (if_pos rfl))
    · have apart : p.1 ≠ k := fun same => first (List.mem_map.2 ⟨_, later, same.symm⟩)
      refine (ih others (s.clearKind p.1 p.2) later).trans ?_
      rw [State.clearKind_notice, if_neg apart]

theorem State.clearAll_port (s : State) (p : Port) :
    (s.clearAll pairs).ci.port p =
      if (11, (s.notice 11).count) ∈ pairs then { s.ci.port p with mark := false } else s.ci.port p := by
  induction pairs generalizing s with
  | nil => rfl
  | cons q rest ih =>
    obtain ⟨first, others⟩ := List.nodup_cons.1 once
    refine (ih others (s.clearKind q.1 q.2)).trans ?_
    rw [State.clearKind_port, State.clearKind_notice]
    by_cases cadence : q.1 = 11
    · -- No later pair names CADENCE CHANGE again.
      have unnamed : ∀ count, (11, count) ∉ rest := fun count listed =>
        first (List.mem_map.2 ⟨_, listed, cadence.symm⟩)
      have here : (11, (s.notice 11).count) ∈ q :: rest ↔ q.1 = 11 ∧ q.2 = (s.notice 11).count := by
        simp only [List.mem_cons, unnamed, or_false, Prod.ext_iff, eq_comm]
      rw [if_neg (unnamed _)]
      simp only [here]
    · have here : (11, (s.notice 11).count) ∈ q :: rest ↔ (11, (s.notice 11).count) ∈ rest := by
        simp only [List.mem_cons, Prod.ext_iff, or_iff_right_iff_imp]
        exact fun same => absurd same.1.symm cadence
      simp only [here, cadence, false_and, if_false]

end

/-! ## The request (R174) -/

theorem clearPairs_once {body : List Byte} {pairs : List (Nat × Nat)} (found : clearPairs body = some pairs) :
    (pairs.map (·.1)).Nodup := by
  unfold clearPairs at found
  split at found
  · split at found
    · rename_i once
      cases found
      exact once.2.2
    · cases found
  · cases found

theorem clearOp_malformed {body : List Byte} (malformed : clearPairs body = none) (s : State) :
    clearOp body s = s.refuse .malformed := by
  unfold clearOp
  rw [malformed]

theorem clearOp_eq {body : List Byte} {pairs : List (Nat × Nat)} (found : clearPairs body = some pairs) (s : State) :
    clearOp body s = if ∃ p ∈ pairs, 14 < p.1 then s.refuse .outOfRange
      else (s.clearAll pairs, ⟨.done, (s.clearAll pairs).stillPending⟩) := by
  unfold clearOp State.clearAll
  simp only [found, List.any_eq_true, decide_eq_true_eq]

theorem flatMap_filter_eq {α β : Type} (keep : α → Bool) (f : α → List β) (l : List α) :
    (l.filter keep).flatMap f = l.flatMap fun x => if keep x then f x else [] := by
  induction l with
  | nil => rfl
  | cons x l ih => cases shown : keep x <;> simp [shown, ih]

theorem State.stillPending_eq (s : State) :
    s.stillPending =
      (List.range 15).flatMap fun k => if (s.notice k).count = 0 then [] else byte1 k ++ byte1 (s.notice k).count := by
  unfold State.stillPending State.pendingKinds
  rw [flatMap_filter_eq]
  refine congrArg (List.flatMap · _) (funext fun k => ?_)
  by_cases none : (s.notice k).count = 0
  · rw [if_pos none, none]
    rfl
  · rw [if_neg none, if_pos (decide_eq_true (Nat.one_le_iff_ne_zero.2 none))]

/-- Settles O52: each kind named once, so that what a pair does is read from the records as they stood. -/
theorem clearTakesTheSeenCountsOff : Obligations.ClearTakesTheSeenCountsOff := by
  intro s r serves
  refine ⟨fun malformed => ?_, fun pairs found => ⟨fun unknown => ?_, fun known => ?_⟩⟩
  · exact congrArg Host.Outcome.next (serves.refuses rfl (by decide) (clearOp_malformed malformed _))
  · exact congrArg Host.Outcome.next (serves.refuses rfl (by decide) ((clearOp_eq found _).trans (if_pos unknown)))
  · have kinds : ¬∃ p ∈ pairs, 14 < p.1 := fun ⟨p, listed, high⟩ => absurd (known p listed) (by omega)
    have once := clearPairs_once found
    refine ⟨(s.heard r 26).clearAll pairs, ?_, State.clearAll_frame _ _, fun k seen named => ?_, fun k unnamed => ?_,
      fun whole p => ?_, fun other p => ?_⟩
    · rw [← State.stillPending_eq]
      exact congrArg Host.Outcome.next (serves.does rfl (by decide) ((clearOp_eq found _).trans (if_neg kinds)))
    · rw [State.clearAll_named once _ named, State.heard_notice]
      exact (s.notice k).cleared_cases seen
    · rw [State.clearAll_unnamed _ unnamed, State.heard_notice]
    · rw [State.clearAll_port once, State.heard_notice, if_pos whole, State.heard_port]
    · rw [State.clearAll_port once, State.heard_notice, if_neg other, State.heard_port]

end Sys2Proof.Machine

end

section
/-! PROOFS. O42: what a new line limit and a new CONFIRM THRESHOLD do. -/

namespace Sys2Proof.Machine

/-! ## A lowered line limit (R118) -/

/-- The hold events of several lines, one after another. -/
def State.holdAll (s : State) (lines : List Nat) : State := lines.foldl State.hold s

theorem State.holdAll_budget (s : State) (lines : List Nat) : (s.holdAll lines).re.budget = s.re.budget :=
  foldl_keeps (P := fun t : State => t.re.budget = s.re.budget) _ (fun t l kept => (t.hold_budget l).trans kept) lines rfl

theorem State.holdAll_line_state (s : State) (lines : List Nat) (l : Nat) :
    ((s.holdAll lines).re.line l).state = if l ∈ lines then .held else (s.re.line l).state := by
  unfold State.holdAll
  induction lines generalizing s with
  | nil => simp
  | cons j lines ih =>
    rw [List.foldl_cons, ih, State.hold_line_state]
    by_cases here : l = j
    · simp [here]
    · simp [here]

theorem State.holdAll_cell (s : State) (lines : List Nat) (n : Nat) :
    (s.holdAll lines).re.cell n = if ∃ l ∈ lines, n ∈ lineCells l then .concealed .line else s.re.cell n := by
  unfold State.holdAll
  induction lines generalizing s with
  | nil => simp
  | cons j lines ih =>
    rw [List.foldl_cons, ih, State.hold_cell]
    by_cases on : n ∈ lineCells j
    · simp [on]
    · simp [on]

/-- A die on none of the lines stays as it was. -/
theorem State.holdAll_die {s : State} {lines : List Nat} {n : Nat} (off : ∀ l ∈ lines, n ∉ lineCells l) :
    (s.holdAll lines).re.die n = s.re.die n := by
  unfold State.holdAll
  induction lines generalizing s with
  | nil => rfl
  | cons j lines ih =>
    obtain ⟨first, others⟩ := List.forall_mem_cons.1 off
    rw [List.foldl_cons, ih others, State.hold_die, if_neg first]

theorem State.newLimit_eq (s : State) (lines : List Nat) : s.newLimit lines = s.holdAll (lines.filter s.atLimit) := rfl

theorem State.mem_atLimit (s : State) (lines : List Nat) (l : Nat) :
    l ∈ lines.filter s.atLimit ↔
      l ∈ lines ∧ (s.re.line l).state = .normal ∧ s.lineLimit l ≤ (s.re.line l).tally := by
  rw [List.mem_filter, State.atLimit_iff]

/-- What a lowered line limit leaves of the lines, cells and dies (R118). -/
theorem State.newLimit_spec (s : State) (lines : List Nat) :
    s.repairOnly (s.newLimit lines) ∧ (s.newLimit lines).re.budget = s.re.budget ∧
    ∀ l, (l ∈ lines → (s.re.line l).state = .normal → s.lineLimit l ≤ (s.re.line l).tally →
        ((s.newLimit lines).re.line l).state = .held ∧
          ∀ n ∈ lineCells l, (s.newLimit lines).re.cell n = .concealed .line) ∧
      (l ∉ lines ∨ (s.re.line l).state = .held ∨ (s.re.line l).tally < s.lineLimit l →
        ((s.newLimit lines).re.line l).state = (s.re.line l).state) ∧
      ∀ n, (∀ j ∈ lines, (s.re.line j).state = .normal → s.lineLimit j ≤ (s.re.line j).tally → n ∉ lineCells j) →
        (s.newLimit lines).re.cell n = s.re.cell n ∧ (s.newLimit lines).re.die n = s.re.die n := by
  refine ⟨(Kept.repairOnly s).newLimit lines s.repairOnly_refl, State.holdAll_budget _ _,
    fun l => ⟨fun listed normal reached => ?_, fun spared => ?_, fun n off => ?_⟩⟩
  · have held := (s.mem_atLimit lines l).2 ⟨listed, normal, reached⟩
    rw [State.newLimit_eq, State.holdAll_line_state, if_pos held]
    exact ⟨rfl, fun n on => by rw [State.holdAll_cell, if_pos ⟨l, held, on⟩]⟩
  · rw [State.newLimit_eq, State.holdAll_line_state, if_neg]
    rw [State.mem_atLimit]
    rintro ⟨listed, normal, reached⟩
    rcases spared with unlisted | held | below
    · exact unlisted listed
    · rw [held] at normal
      cases normal
    · omega
  · have spared : ∀ j ∈ lines.filter s.atLimit, n ∉ lineCells j := fun j held =>
      have ⟨listed, normal, reached⟩ := (s.mem_atLimit lines j).1 held
      off j listed normal reached
    rw [State.newLimit_eq, State.holdAll_cell, State.holdAll_die spared, if_neg fun ⟨j, held, on⟩ => spared j held on]
    exact ⟨rfl, rfl⟩

/-! ## One condemnation and the holds it brings (R81, R117) -/

/-- From `s` to `t` the units `T` have been condemned and the cells `H` held: the entries of the held cells are off the list and
these cells CONCEALED(LINE); of the others the units `T` are CONDEMNED, and what was CONDEMNED still is. -/
structure Condemns (T : UnitId → Prop) (H : List Nat) (s t : State) : Prop where
  entries : t.re.suspects = s.re.suspects.filter fun e => decide (e.unit.cell ∉ H)
  held : ∀ n ∈ H, t.re.cell n = .concealed .line
  condemned : ∀ u, T u → u.cell ∉ H → t.re.isCondemned u
  still : ∀ u, u.cell ∉ H → s.re.isCondemned u → t.re.isCondemned u
  others : ∀ n ∉ H, (∀ u, T u → u.cell ≠ n) → t.re.cell n = s.re.cell n ∧ t.re.die n = s.re.die n
  budget : t.re.budget = s.re.budget

theorem Condemns.none (s : State) : Condemns (fun _ => False) [] s s :=
  ⟨by simp, nofun, fun _ no => no.elim, fun _ _ was => was, fun _ _ _ => ⟨rfl, rfl⟩, rfl⟩

section

variable {T T' : UnitId → Prop} {H H' : List Nat} {s t u : State}

/-- Of a unit whose cell is held it does not matter whether it has been condemned before. -/
theorem Condemns.congr (done : Condemns T H s t) (more : ∀ v, T v → T' v) (fewer : ∀ v, v.cell ∉ H → T' v → T v) :
    Condemns T' H s t :=
  ⟨done.entries, done.held, fun v now off => done.condemned v (fewer v off now) off, done.still,
    fun n off apart => done.others n off fun v was => apart v (more v was), done.budget⟩

/-- A later condemnation of units that are not on a held cell. -/
theorem Condemns.trans (first : Condemns T H s t) (second : Condemns T' H' t u) (free : ∀ v, T' v → v.cell ∉ H) :
    Condemns (fun v => T v ∨ T' v) (H ++ H') s u where
  entries := by
    rw [second.entries, first.entries, List.filter_filter]
    exact List.filter_congr fun e _ => by simp [Bool.and_comm]
  held n on := by
    by_cases later : n ∈ H'
    · exact second.held n later
    · have before := (List.mem_append.1 on).resolve_right later
      rw [(second.others n later fun v now same => free v now (same ▸ before)).1, first.held n before]
  condemned v now off := by
    obtain ⟨off, off'⟩ := not_or.1 (mt List.mem_append.2 off)
    exact now.elim (fun was => second.still v off' (first.condemned v was off)) fun later => second.condemned v later off'
  still v off was := by
    obtain ⟨off, off'⟩ := not_or.1 (mt List.mem_append.2 off)
    exact second.still v off' (first.still v off was)
  others n off apart := by
    obtain ⟨off, off'⟩ := not_or.1 (mt List.mem_append.2 off)
    obtain ⟨cell, die⟩ := first.others n off fun v was => apart v (.inl was)
    obtain ⟨cell', die'⟩ := second.others n off' fun v later => apart v (.inr later)
    exact ⟨cell'.trans cell, die'.trans die⟩
  budget := second.budget.trans first.budget

end

theorem RepairEngine.isCondemned_iff (r : RepairEngine) (u : UnitId) :
    r.isCondemned u ↔ (u.side = .primary → r.cell u.cell = .condemned) ∧ (u.side = .spare → r.die u.cell = .condemned) := by
  unfold RepairEngine.isCondemned
  cases u.side <;> simp

/-- A hold condemns nothing and holds the cells of its line. -/
theorem State.hold_condemns (s : State) (l : Nat) : Condemns (fun _ => False) (lineCells l) s (s.hold l) := by
  have others : ∀ n ∉ lineCells l, (s.hold l).re.cell n = s.re.cell n ∧ (s.hold l).re.die n = s.re.die n := fun n off => by
    rw [State.hold_cell, State.hold_die, if_neg off, if_neg off]
    exact ⟨rfl, rfl⟩
  refine ⟨s.hold_suspects l, fun n on => by rw [State.hold_cell, if_pos on], fun _ no => no.elim, fun u off => ?_,
    fun n off _ => others n off, s.hold_budget l⟩
  obtain ⟨cell, die⟩ := others u.cell off
  exact (RepairEngine.isCondemned_congr cell die).2

/-- The judgement of a cell's limits condemns nothing, and holds the cells of the lines that it holds. -/
theorem State.judgeLimits_condemns (s : State) (n : Nat) : ∃ H, Condemns (fun _ => False) H s (s.judgeLimits n) := by
  obtain ⟨_, _, same⟩ | ⟨_, _, same⟩ | ⟨_, _, same⟩ | ⟨_, _, same⟩ := s.judgeLimits_cases n
  · exact ⟨[], by rw [same]; exact Condemns.none s⟩
  · exact ⟨lineCells (cLineOf n), by rw [same]; exact s.hold_condemns _⟩
  · exact ⟨lineCells (rLineOf n), by rw [same]; exact s.hold_condemns _⟩
  · have both := (s.hold_condemns (cLineOf n)).trans ((s.hold (cLineOf n)).hold_condemns (rLineOf n)) fun _ no => no.elim
    refine ⟨lineCells (cLineOf n) ++ lineCells (rLineOf n), ?_⟩
    rw [same]
    exact both.congr (fun _ no => no.elim id id) fun _ _ no => no.elim

/-- The change of a unit to CONDEMNED, before any line is judged. -/
theorem State.confirm_condemns (s : State) (u : UnitId) : Condemns (· = u) [] s (s.confirm u id) := by
  have now : (s.confirm u id).re.isCondemned u := by
    rw [RepairEngine.isCondemned_iff, State.confirm_cell, State.confirm_die]
    exact ⟨fun primary => if_pos ⟨primary, rfl⟩, fun spare => if_pos ⟨spare, rfl⟩⟩
  refine ⟨by simp [State.confirm_suspects], nofun, ?_, fun v _ was => ?_, fun n _ apart => ?_, ?_⟩
  · rintro _ rfl _
    exact now
  · rw [RepairEngine.isCondemned_iff] at was ⊢
    rw [State.confirm_cell, State.confirm_die]
    refine ⟨fun primary => ?_, fun spare => ?_⟩
    · split
      · rfl
      · exact was.1 primary
    · split
      · rfl
      · exact was.2 spare
  · have off := apart u rfl
    rw [State.confirm_cell, State.confirm_die, if_neg fun here => off here.2, if_neg fun here => off here.2]
    exact ⟨rfl, rfl⟩
  · unfold State.confirm State.setUnit
    cases u.side <;> exact State.setCell_re_budget _ _ _ _

theorem State.condemn_condemns (s : State) (u : UnitId) (kind : FaultKind) :
    ∃ H, Condemns (· = u) H s (s.condemn u kind) := by
  have confirmed : Condemns (· = u) [] s ((s.confirm u id).notify (.faultConfirmed u kind)) :=
    have ⟨entries, held, condemned, still, others, budget⟩ := s.confirm_condemns u
    ⟨entries, held, condemned, still, others, budget⟩
  rw [State.condemn_eq]
  cases side : u.side with
  | primary =>
    obtain ⟨H, judged⟩ := ((s.confirm u id).notify (.faultConfirmed u kind)).judgeLimits_condemns u.cell
    rw [State.announce_primary _ side]
    exact ⟨_, (confirmed.trans judged fun _ no => no.elim).congr (fun _ either => either.resolve_right id) fun _ _ => .inl⟩
  | spare =>
    rw [State.announce_spare _ side]
    exact ⟨_, confirmed⟩

/-- A condemnation raises FAULT CONFIRMED (R81). -/
theorem State.condemn_notice (s : State) (u : UnitId) (kind : FaultKind) :
    (s.condemn u kind).notice 0 = ⟨min ((s.notice 0).count + 1) 255, some (.faultConfirmed u kind)⟩ := by
  rw [State.condemn_eq, State.announce_notice, State.confirm_notice]

/-! ## The condemnations of a lowered CONFIRM THRESHOLD, in admission order (R82) -/

/-- The entries that a SET condemns, one after another; one that is off the list by then is absorbed (log 47). -/
def State.condemnAll (s : State) (fresh : List Entry) : State :=
  fresh.foldl (fun t e => if (t.re.entry e.unit).isSome then t.condemn e.unit e.kind else t) s

theorem RepairEngine.entry_isSome_iff (r : RepairEngine) (u : UnitId) :
    (r.entry u).isSome = true ↔ ∃ e ∈ r.suspects, e.unit = u := by
  simp [RepairEngine.entry]

theorem State.condemnAll_cons (s : State) (e : Entry) (rest : List Entry) :
    s.condemnAll (e :: rest) =
      (if (s.re.entry e.unit).isSome then s.condemn e.unit e.kind else s).condemnAll rest := rfl

theorem State.condemnAll_condemns (s : State) (fresh : List Entry) :
    ∃ H, Condemns (fun u => (∃ e ∈ fresh, e.unit = u) ∧ ∃ e ∈ s.re.suspects, e.unit = u) H s (s.condemnAll fresh) := by
  induction fresh generalizing s with
  | nil => exact ⟨_, (Condemns.none s).congr (fun _ no => no.elim) fun _ _ ⟨⟨_, no, _⟩, _⟩ => nomatch no⟩
  | cons e rest ih =>
    rw [State.condemnAll_cons]
    by_cases listed : ∃ x ∈ s.re.suspects, x.unit = e.unit
    · rw [if_pos ((s.re.entry_isSome_iff _).2 listed)]
      obtain ⟨H, first⟩ := s.condemn_condemns e.unit e.kind
      obtain ⟨H', second⟩ := ih (s.condemn e.unit e.kind)
      -- An entry that is still listed was listed before, and is not one of a held cell.
      have remains : ∀ u : UnitId, (∃ x ∈ (s.condemn e.unit e.kind).re.suspects, x.unit = u) ↔
          (∃ x ∈ s.re.suspects, x.unit = u) ∧ u.cell ∉ H := fun u => by
        rw [first.entries]
        constructor
        · rintro ⟨x, on, rfl⟩
          obtain ⟨on, off⟩ := List.mem_filter.1 on
          exact ⟨⟨x, on, rfl⟩, of_decide_eq_true off⟩
        · rintro ⟨⟨x, on, rfl⟩, off⟩
          exact ⟨x, List.mem_filter.2 ⟨on, decide_eq_true off⟩, rfl⟩
      refine ⟨_, (first.trans second fun u later => ((remains u).1 later.2).2).congr (fun u now => ?_)
        fun u off now => ?_⟩
      · rcases now with rfl | ⟨⟨x, on, same⟩, left⟩
        · exact ⟨⟨e, List.mem_cons_self, rfl⟩, listed⟩
        · exact ⟨⟨x, List.mem_cons_of_mem _ on, same⟩, ((remains u).1 left).1⟩
      · obtain ⟨⟨x, on, same⟩, was⟩ := now
        rcases List.mem_cons.1 on with rfl | on
        · exact .inl same.symm
        · exact .inr ⟨⟨x, on, same⟩, (remains u).2 ⟨was, fun held => off (List.mem_append_left _ held)⟩⟩
    · rw [if_neg (mt (s.re.entry_isSome_iff _).1 listed)]
      obtain ⟨H, done⟩ := ih s
      refine ⟨H, done.congr (fun u now => ?_) fun u _ now => ?_⟩
      · obtain ⟨⟨x, on, same⟩, was⟩ := now
        exact ⟨⟨x, List.mem_cons_of_mem _ on, same⟩, was⟩
      · obtain ⟨⟨x, on, same⟩, was⟩ := now
        rcases List.mem_cons.1 on with rfl | on
        · exact absurd (same ▸ was) listed
        · exact ⟨⟨x, on, same⟩, was⟩

/-- FAULT CONFIRMED is raised when there is a listed entry to condemn: the first one is not absorbed. -/
theorem State.condemnAll_raises {s : State} {fresh : List Entry} (nonempty : fresh ≠ [])
    (listed : ∀ e ∈ fresh, ∃ x ∈ s.re.suspects, x.unit = e.unit) :
    (s.notice 0).count < ((s.condemnAll fresh).notice 0).count ∨ 255 ≤ ((s.condemnAll fresh).notice 0).count := by
  obtain ⟨e, rest, rfl⟩ := List.exists_cons_of_ne_nil nonempty
  rw [State.condemnAll_cons, if_pos ((s.re.entry_isSome_iff _).2 (listed e List.mem_cons_self))]
  refine foldl_keeps (P := fun t : State => (s.notice 0).count < (t.notice 0).count ∨ 255 ≤ (t.notice 0).count) _
    (fun t x raised => ?_) rest ?_
  · split
    · rw [State.condemn_notice]
      dsimp only
      omega
    · exact raised
  · rw [State.condemn_notice]
    dsimp only
    omega

/-! ## A new CONFIRM THRESHOLD (R82) -/

/-- The entries that a lowered threshold condemns: those that reach it and were not condemned before. -/
def freshEntries (old new : Nat) (l : List Entry) : List Entry :=
  l.filter fun e => decide (new ≤ e.evidence) && decide (e.evidence ≠ old)

theorem mem_freshEntries {old new : Nat} {l : List Entry} {e : Entry} :
    e ∈ freshEntries old new l ↔ e ∈ l ∧ new ≤ e.evidence ∧ e.evidence ≠ old := by
  rw [freshEntries, List.mem_filter, Bool.and_eq_true, decide_eq_true_eq, decide_eq_true_eq]

/-- The list under a lowered threshold. -/
def State.capped (s : State) (new : Nat) : State :=
  s.setSuspects (s.re.suspects.map fun e => { e with evidence := min e.evidence new })

theorem State.mem_capped {s : State} {new : Nat} {e : Entry} :
    e ∈ (s.capped new).re.suspects ↔ ∃ x ∈ s.re.suspects, e = { x with evidence := min x.evidence new } := by
  simp only [State.capped, State.setSuspects, State.withRe_re, List.mem_map, eq_comm]

theorem State.newThreshold_raised (s : State) {old new : Nat} (higher : old ≤ new) :
    s.newThreshold old new =
      s.setSuspects (s.re.suspects.map fun e => if e.evidence = old then { e with evidence := new } else e) :=
  if_neg (Nat.not_lt.2 higher)

theorem State.newThreshold_lowered (s : State) {old new : Nat} (lower : new < old) :
    s.newThreshold old new = (s.capped new).condemnAll (freshEntries old new s.re.suspects) := if_pos lower

section

variable {s : State} {old new : Nat} (lower : new < old)
include lower

/-- With no entry to condemn a lowered threshold only caps the evidences. -/
theorem State.newThreshold_caps (short : ∀ e ∈ s.re.suspects, e.evidence < new ∨ e.evidence = old) :
    s.newThreshold old new = s.capped new := by
  have nothing : freshEntries old new s.re.suspects = [] := List.filter_eq_nil_iff.2 fun e on => by
    have := short e on
    simp only [Bool.and_eq_true, decide_eq_true_eq]
    omega
  rw [State.newThreshold_lowered s lower, nothing]
  rfl

/-- What a lowered threshold leaves: some cells `H` have been held with their lines, and every entry that reaches the new
threshold has been taken, CONDEMNED or with its cell among them. -/
theorem State.newThreshold_condemns :
    ∃ H, Condemns (fun u => ∃ x ∈ s.re.suspects, (new ≤ x.evidence ∧ x.evidence ≠ old) ∧ x.unit = u) H
      (s.capped new) (s.newThreshold old new) := by
  rw [State.newThreshold_lowered s lower]
  obtain ⟨H, done⟩ := (s.capped new).condemnAll_condemns (freshEntries old new s.re.suspects)
  refine ⟨H, done.congr (fun u now => ?_) fun u _ now => ?_⟩
  · obtain ⟨⟨x, fresh, same⟩, _⟩ := now
    obtain ⟨on, reached⟩ := mem_freshEntries.1 fresh
    exact ⟨x, on, reached, same⟩
  · obtain ⟨x, on, reached, rfl⟩ := now
    exact ⟨⟨x, mem_freshEntries.2 ⟨on, reached⟩, rfl⟩, _, State.mem_capped.2 ⟨x, on, rfl⟩, rfl⟩

theorem State.newThreshold_raises {x : Entry} (on : x ∈ s.re.suspects) (reached : new ≤ x.evidence)
    (uncondemned : x.evidence ≠ old) :
    (s.notice 0).count < ((s.newThreshold old new).notice 0).count ∨
      255 ≤ ((s.newThreshold old new).notice 0).count := by
  rw [State.newThreshold_lowered s lower]
  refine State.condemnAll_raises (s := s.capped new)
    (List.ne_nil_of_mem (mem_freshEntries.2 ⟨on, reached, uncondemned⟩)) fun e fresh => ?_
  exact ⟨_, State.mem_capped.2 ⟨e, (mem_freshEntries.1 fresh).1, rfl⟩, rfl⟩

/-- The lowered threshold entry by entry and cell by cell: a unit that it condemns has its entry still and is CONDEMNED, or is
off the list with its cell CONCEALED(LINE); and every other cell not held since is as it was. -/
theorem State.newThreshold_lowers :
    (∀ e ∈ (s.newThreshold old new).re.suspects, ∃ x ∈ s.re.suspects, e = { x with evidence := min x.evidence new }) ∧
    (∀ x ∈ s.re.suspects, new ≤ x.evidence → x.evidence ≠ old →
      ((∃ e ∈ (s.newThreshold old new).re.suspects, e.unit = x.unit) →
        (s.newThreshold old new).re.isCondemned x.unit) ∧
      ((∀ e ∈ (s.newThreshold old new).re.suspects, e.unit ≠ x.unit) →
        (s.newThreshold old new).re.cell x.unit.cell = .concealed .line)) ∧
    (∀ n, (∀ x ∈ s.re.suspects, new ≤ x.evidence → x.evidence ≠ old → x.unit.cell ≠ n) →
      (s.newThreshold old new).re.cell n ≠ .concealed .line →
      (s.newThreshold old new).re.cell n = s.re.cell n ∧ (s.newThreshold old new).re.die n = s.re.die n) ∧
    (s.newThreshold old new).re.budget = s.re.budget := by
  obtain ⟨H, entries, held, condemned, -, others, budget⟩ := State.newThreshold_condemns (s := s) lower
  generalize s.newThreshold old new = t at *
  refine ⟨fun e on => ?_, fun x on reached uncondemned => ⟨?_, fun gone => ?_⟩, fun n apart shown => ?_, budget⟩
  · rw [entries] at on
    exact State.mem_capped.1 (List.mem_of_mem_filter on)
  · rintro ⟨e, left, same⟩
    rw [entries] at left
    exact condemned x.unit ⟨x, on, ⟨reached, uncondemned⟩, rfl⟩ (same ▸ of_decide_eq_true (List.mem_filter.1 left).2)
  · refine held _ (by_contra fun off => gone { x with evidence := min x.evidence new } ?_ rfl)
    rw [entries]
    exact List.mem_filter.2 ⟨State.mem_capped.2 ⟨x, on, rfl⟩, decide_eq_true off⟩
  · refine others n (fun on => shown (held n on)) ?_
    rintro u ⟨x, on, ⟨reached, uncondemned⟩, rfl⟩
    exact apart x on reached uncondemned

end

end Sys2Proof.Machine

end

section
/-! PROOFS. O42: SET and ASSIGN-ID. -/

namespace Sys2Proof.Machine

/-! ## The values that SET takes (R150, R167) -/

theorem limitsAgree_iff (n v warm hot : Nat) :
    limitsAgree n v warm hot = true ↔ (n = 20 → v + 5 ≤ hot) ∧ (n = 21 → warm + 5 ≤ v) := by
  unfold limitsAgree Setting.warmLimit Setting.hotLimit
  by_cases warmer : n = 20
  · simp [warmer]
  · by_cases hotter : n = 21
    · simp [hotter]
    · simp [warmer, hotter]

theorem State.mayTakeValue_iff (s : State) (n v : Nat) (persist : Bool) :
    s.mayTakeValue n v persist = true ↔
      (Config.settingRow n).low ≤ v ∧ v ≤ (Config.settingRow n).high ∧
      (n = 20 → v + 5 ≤ s.setting 21 ∧ (persist = true → v + 5 ≤ s.storedSetting 21)) ∧
      (n = 21 → s.setting 20 + 5 ≤ v ∧ (persist = true → s.storedSetting 20 + 5 ≤ v)) := by
  unfold State.mayTakeValue Config.settingInRange
  rw [Bool.and_eq_true, Bool.and_eq_true, Bool.and_eq_true, Bool.or_eq_true, decide_eq_true_eq, decide_eq_true_eq,
    limitsAgree_iff, limitsAgree_iff]
  cases persist with
  | false =>
    simp only [Bool.not_false, true_or, and_true, Bool.false_eq_true, false_imp_iff, and_assoc]
    rfl
  | true =>
    simp only [Bool.not_true, Bool.false_eq_true, false_or, true_imp_iff, imp_and, and_assoc]
    exact and_congr_right fun _ => and_congr_right fun _ => and_congr_right fun _ => and_left_comm

/-! ## The change of one setting (R143) -/

theorem State.imageChanged_journal (s : State) (n : Nat) (a b : Image) :
    s.imageChanged n a b = { s with rj := { s.rj with
      owed := (s.imageChanged n a b).rj.owed
      liveImages := (s.imageChanged n a b).rj.liveImages
      unrecorded := (s.imageChanged n a b).rj.unrecorded } } := by
  unfold State.imageChanged
  split <;> rfl

theorem State.changeSetting_changed (s : State) (n v : Nat) (persist : Bool) :
    s.settingChanged n v persist (s.changeSetting n v persist) := by
  have live := s.changeSetting_setting n v persist
  have stored := s.changeSetting_storedSetting n v persist
  refine ⟨?_, by rw [live, if_pos rfl], by rw [stored]; simp, fun j other => ?_, fun same => ?_, fun changed => ?_⟩
  · cases persist with
    | false => rfl
    | true =>
      unfold State.changeSetting
      rw [if_pos rfl]
      unfold State.setStored
      rw [State.imageChanged_journal]
      rfl
  · rw [live, stored, if_neg (Ne.symm other), if_neg fun here => other here.2.symm]
    exact ⟨rfl, rfl⟩
  · cases persist with
    | false => rfl
    | true =>
      rw [stored, if_pos ⟨rfl, rfl⟩] at same
      exact (congrArg State.rj (State.imageChanged_of_eq _ _ (congrArg Image.value same.symm))).trans rfl
  · rw [stored] at changed
    cases persist with
    | false => exact absurd rfl changed
    | true =>
      rw [if_pos ⟨rfl, rfl⟩] at changed
      exact (State.imageChanged_owed _ _ _ _).trans (if_neg fun same => changed (Image.value.inj same).symm)

/-! ## What a new live value does (R82, R84, R114, R118, R162) -/

/-- The block that owns the setting acts on its new value, setting by setting. -/
theorem State.settingEffect_cases (s : State) (n old v : Nat) :
    (n = 13 → s.settingEffect n old v = (s.newThreshold old v).reconsider) ∧
    (n = 18 → v < old → s.settingEffect n old v = (s.newLimit (List.range 192)).reconsider) ∧
    (n = 19 → v < old → s.settingEffect n old v = (s.newLimit ((List.range 48).map (192 + ·))).reconsider) ∧
    (n = 14 ∨ n = 15 ∨ n = 16 → s.settingEffect n old v = s.reconsider) ∧
    (n = 24 ∨ n = 25 → s.settingEffect n old v = { s with ci := { s.ci with returnCount := 0 } }) ∧
    (n ∉ [13, 14, 15, 16, 18, 19, 24, 25] ∨ (n = 18 ∨ n = 19) ∧ old ≤ v → s.settingEffect n old v = s) := by
  refine ⟨?_, ?_, ?_, ?_, ?_, ?_⟩
  · rintro rfl
    rfl
  · rintro rfl lower
    exact if_pos lower
  · rintro rfl lower
    exact if_pos lower
  · rintro (rfl | rfl | rfl) <;> rfl
  · rintro (rfl | rfl) <;> rfl
  · rintro (other | ⟨rfl | rfl, raised⟩)
    · simp only [List.mem_cons, List.not_mem_nil, or_false, not_or] at other
      obtain ⟨h13, h14, h15, h16, h18, h19, h24, h25⟩ := other
      exact (if_neg h13).trans ((if_neg h18).trans ((if_neg h19).trans ((if_neg fun policy =>
        policy.elim h14 fun policy => policy.elim h15 h16).trans (if_neg fun feed => feed.elim h24 h25))))
    · exact if_neg (Nat.not_lt.2 raised)
    · exact if_neg (Nat.not_lt.2 raised)

/-- What no new live value changes at once: the clock, the settings, the chain but for the return count, and the Pixel Path but
for the pending routes; and what is owed stays owed. -/
def State.beyondSetting (s t : State) : Prop :=
  t.clk = s.clk ∧ t.live = s.live ∧ t.stored = s.stored ∧ t.ci = { s.ci with returnCount := t.ci.returnCount } ∧
  t.pp = { s.pp with pendingRoutes := t.pp.pendingRoutes } ∧ ∀ m ∈ s.rj.owed, m ∈ t.rj.owed

theorem State.beyondSetting_of_repair {s t : State} (frame : s.repairOnly t) (owed : ∀ m ∈ s.rj.owed, m ∈ t.rj.owed) :
    s.beyondSetting t := by
  obtain ⟨⟨_, clk, live, stored, ci, _⟩, pp, _⟩ := (State.repairOnly_iff s t).1 frame
  exact ⟨clk, live, stored, by rw [ci], pp, owed⟩

theorem State.settingEffect_beyond (s : State) (n old v : Nat) : s.beyondSetting (s.settingEffect n old v) := by
  have K := Kept.repairOnly s
  have start := s.repairOnly_refl
  have kept : s.beyondSetting s := State.beyondSetting_of_repair start fun _ => id
  have policy : s.beyondSetting s.reconsider :=
    State.beyondSetting_of_repair (K.reconsider start) fun m => (Kept.owes m).reconsider
  have limit : ∀ lines, s.beyondSetting (s.newLimit lines).reconsider := fun lines =>
    State.beyondSetting_of_repair (K.reconsider (K.newLimit lines start)) fun m owed =>
      (Kept.owes m).reconsider ((Kept.owes m).newLimit lines owed)
  have threshold : s.beyondSetting (s.newThreshold old v).reconsider :=
    State.beyondSetting_of_repair (K.reconsider (K.newThreshold old v start)) fun m owed =>
      (Kept.owes m).reconsider ((Kept.owes m).newThreshold old v owed)
  unfold State.settingEffect
  split
  · exact threshold
  · split
    · split
      · exact limit _
      · exact kept
    · split
      · split
        · exact limit _
        · exact kept
      · split
        · exact policy
        · split
          · exact ⟨rfl, rfl, rfl, rfl, rfl, fun _ => id⟩
          · exact kept

/-! ## SET (R167) -/

/-- What SET makes of the state that has heard it. -/
def State.settle (s : State) (n v : Nat) (persist : Bool) : State :=
  (s.changeSetting n v persist).settingEffect n (s.setting n) v

theorem State.settle_beyond (s : State) (n v : Nat) (persist : Bool) :
    (s.changeSetting n v persist).beyondSetting (s.settle n v persist) := State.settingEffect_beyond _ _ _ _

theorem State.settle_setting (s : State) (n v : Nat) (persist : Bool) (j : Nat) :
    (s.settle n v persist).setting j = (if n = j then v else s.setting j) ∧
      (s.settle n v persist).storedSetting j = if persist = true ∧ n = j then v else s.storedSetting j := by
  obtain ⟨_, live, stored, _⟩ := s.settle_beyond n v persist
  rw [← State.changeSetting_setting, ← State.changeSetting_storedSetting]
  unfold State.setting State.storedSetting
  rw [live, stored]
  exact ⟨rfl, rfl⟩

theorem setOp_malformed {body : List Byte} (malformed : settingBody body = none) (s : State) :
    setOp body s = s.refuse .malformed := by
  unfold setOp
  rw [malformed]

section

variable {body : List Byte} {n v persist : Nat} (found : settingBody body = some (n, v, persist)) (s : State)
include found

/-- The checks of R167 in order, then the change and the answer with both values. -/
theorem setOp_eq :
    setOp body s =
      if 43 ≤ n then s.refuse .outOfRange
      else if n = 23 then s.refuse .notPermitted
      else if s.mayTakeValue n v (decide (persist = 1)) = true ∧ persist ≤ 1 then
        (s.settle n v (decide (persist = 1)),
          ⟨.done, byte2 v ++ byte2 (if persist = 1 then v else s.storedSetting n)⟩)
      else s.refuse .outOfRange := by
  obtain ⟨live, stored⟩ := s.settle_setting n v (decide (persist = 1)) n
  unfold setOp
  rw [found]
  dsimp only
  refine ite_congr rfl (fun _ => rfl) fun _ => ite_congr rfl (fun _ => rfl) fun _ => ?_
  by_cases taken : s.mayTakeValue n v (decide (persist = 1)) = true ∧ persist ≤ 1
  · rw [if_neg (by simp [taken.1, taken.2]), if_pos taken]
    refine congrArg (Prod.mk _) (congrArg (Answer.mk .done) ?_)
    change byte2 ((s.settle n v (decide (persist = 1))).setting n) ++
      byte2 ((s.settle n v (decide (persist = 1))).storedSetting n) = _
    rw [live, stored, if_pos rfl]
    simp
  · refine (if_pos ?_).trans (if_neg taken).symm
    rw [Bool.or_eq_true, Bool.not_eq_true', decide_eq_true_eq]
    by_cases value : s.mayTakeValue n v (decide (persist = 1)) = true
    · exact .inr (Nat.not_le.1 fun flag => taken ⟨value, flag⟩)
    · exact .inl (Bool.eq_false_iff.2 value)

end

/-! ## What an answer leaves alone -/

section

variable (s : State) (r : Request) (k : Byte) (f : Half) (st : Status) (b : List Byte)

@[simp] theorem State.answered_setting (n : Nat) : (s.answered r k f st b).setting n = s.setting n :=
  State.setting_congr (State.answered_live _ _ _ _ _ _) n

@[simp] theorem State.answered_storedSetting (n : Nat) : (s.answered r k f st b).storedSetting n = s.storedSetting n := by
  unfold State.storedSetting
  rw [State.answered_stored]

@[simp] theorem State.answered_feedLive : (s.answered r k f st b).feedLive = s.feedLive := by
  unfold State.answered
  split
  · rfl
  · cases r.lane <;> rfl

theorem State.answered_queue : ((s.answered r k f st b).ci.direction r.lane).queue =
    (s.ci.direction r.lane).queue ++ if Request.toAll r then [] else [⟨r.tag, k, st.code, f, b⟩] := by
  unfold State.answered
  split
  · exact (List.append_nil _).symm
  · exact congrArg DirectionState.queue (State.setDirection_direction _ _ _)

end

/-! ## A frame start that a new FREE-RUN PERIOD brings at once (R38) -/

theorem State.feedLive_congr {s t : State} (feed : t.ci.feed = s.ci.feed) (ports : ∀ p, t.ci.port p = s.ci.port p) :
    t.feedLive = s.feedLive := by
  unfold State.feedLive
  rw [feed]
  cases s.ci.feed with
  | none => rfl
  | some p => exact congrArg PortMonitor.live (ports p)

/-- The frame timer of a feed that is not LIVE ends FREE-RUN PERIOD after its frame start (R25). -/
theorem State.timerEnd_free {s : State} (absent : s.feedLive = false) :
    s.timerEnd = s.pp.frameStartAt + s.setting 4 * 100 := by
  unfold State.timerEnd State.timerLength
  rw [absent]
  rfl

theorem State.settleFreeRun_eq (s before : State) (sensor : Int) :
    s.settleFreeRun before sensor =
      if s.setting 4 ≠ before.setting 4 ∧ s.feedLive = false ∧ s.pp.frameStartAt + s.setting 4 * 100 < s.clk.now then
        s.frameStart sensor false
      else s := by
  have period : s.freeRun ≠ before.freeRun ↔ s.setting 4 ≠ before.setting 4 :=
    not_congr (Nat.mul_left_inj (by decide : (100 : Nat) ≠ 0))
  unfold State.settleFreeRun
  refine ite_congr (propext (and_congr period (and_congr_right fun absent => ?_))) (fun _ => rfl) fun _ => rfl
  rw [State.timerEnd_free absent]

/-- A frame start takes no subject off the owed list (R128). -/
theorem State.frameStart_owes {s : State} (sensor : Int) (complete : Bool) (noReset : s.clk.reset ≠ .ready) {m : Nat}
    (owed : m ∈ s.rj.owed) : m ∈ (s.frameStart sensor complete).rj.owed := by
  obtain ⟨-, -, -, -, -, -, sampled⟩ := (s.newFrame complete).sample_frame sensor
  obtain ⟨-, -, -, -, -, sensed⟩ := ((s.newFrame complete).sample sensor).senseFrame_frame
  have rj : (s.sensed sensor complete).rj = s.rj := sensed.trans sampled
  have kept : m ∈ (s.sensed sensor complete).repairFrame.rj.owed := (Kept.owes m).repairFrame (rj ▸ owed)
  rw [State.frameStart_eq sensor complete noReset, State.beforeRoutes_eq]
  generalize (s.sensed sensor complete).repairFrame = b at kept
  obtain ⟨active, startUp, set⟩ := b.applyRoutes_latchScale
  rw [set]
  exact kept

/-- A frame start raises the frame counter and restarts the frame timer (R25). -/
theorem State.frameStart_counts {s : State} (sensor : Int) (noReset : s.clk.reset ≠ .ready) :
    (s.frameStart sensor false).pp.frame = s.pp.frame + 1 ∧
      (s.frameStart sensor false).pp.frameStartAt = s.clk.now := by
  obtain ⟨_, _, _, pp, _⟩ := State.frameStart_blocks sensor false noReset
  rw [pp]
  exact ⟨rfl, rfl⟩

/-! ## SET as a command -/

section

variable {s : State} {r : Request} (m : Moment) (serves : s.serves r)
include serves

theorem exec_set_refused {status : Status}
    (refuses : setOp r.body ((s.tick m.elapsed).heard r 3) = ((s.tick m.elapsed).heard r 3).refuse status) :
    exec (.set r m) s = .next ((s.tick m.elapsed).refused r 3 status) := by
  have later : (s.tick m.elapsed).serves r := serves
  refine congrArg Host.Outcome.next ?_
  rw [later.refuses rfl (by decide) refuses]
  exact State.settleFreeRun_same (by simp [State.refused]) m.sensor

/-- The refusals of SET, in the order of R167's checks. -/
theorem exec_set_refusals :
    (settingBody r.body = none → exec (.set r m) s = .next ((s.tick m.elapsed).refused r 3 .malformed)) ∧
    ∀ n v persist, settingBody r.body = some (n, v, persist) →
      (43 ≤ n → exec (.set r m) s = .next ((s.tick m.elapsed).refused r 3 .outOfRange)) ∧
      (n = 23 → exec (.set r m) s = .next ((s.tick m.elapsed).refused r 3 .notPermitted)) ∧
      (n < 43 → n ≠ 23 → ¬(s.mayTakeValue n v (decide (persist = 1)) = true ∧ persist ≤ 1) →
        exec (.set r m) s = .next ((s.tick m.elapsed).refused r 3 .outOfRange)) := by
  refine ⟨fun malformed => exec_set_refused m serves (setOp_malformed malformed _), fun n v persist found => ?_⟩
  have checks := setOp_eq found ((s.tick m.elapsed).heard r 3)
  have value : ((s.tick m.elapsed).heard r 3).mayTakeValue n v (decide (persist = 1)) =
      s.mayTakeValue n v (decide (persist = 1)) := by
    unfold State.mayTakeValue
    simp only [State.heard_setting, State.heard_storedSetting]
    rfl
  rw [value] at checks
  refine ⟨fun unknown => ?_, fun tileId => ?_, fun known other refused => ?_⟩
  · exact exec_set_refused m serves (checks.trans (if_pos unknown))
  · exact exec_set_refused m serves (checks.trans ((if_neg (by omega)).trans (if_pos tileId)))
  · exact exec_set_refused m serves
      (checks.trans ((if_neg (Nat.not_le.2 known)).trans ((if_neg other).trans (if_neg refused))))

end

/-- What SET leaves with its answer queued, before a frame start that it may bring. -/
def State.afterSet (s : State) (r : Request) (elapsed n v persist : Nat) : State :=
  (((s.tick elapsed).heard r 3).settle n v (decide (persist = 1))).answered r 3 s.pp.frame .done
    (byte2 v ++ byte2 (if persist = 1 then v else s.storedSetting n))

section

variable (s : State) (r : Request) (elapsed n v persist : Nat)

/-- What the passage of a record, after some time, leaves of what SET and its answer read. -/
theorem State.heardLater_frame (k : Byte) :
    ((s.tick elapsed).heard r k).clk = { s.clk with now := s.clk.now + elapsed } ∧
      ((s.tick elapsed).heard r k).pp = s.pp ∧ ((s.tick elapsed).heard r k).feedLive = s.feedLive ∧
      (((s.tick elapsed).heard r k).ci.direction r.lane).queue = (s.ci.direction r.lane).queue ∧
      (∀ j, ((s.tick elapsed).heard r k).setting j = s.setting j) ∧
      ∀ j, ((s.tick elapsed).heard r k).storedSetting j = s.storedSetting j := by
  refine ⟨State.heard_clk _ _ _, State.heard_pp _ _ _, ?_, ?_, State.heard_setting _ _ _, State.heard_storedSetting _ _ _⟩
  · exact State.feedLive_congr (State.heard_feed _ _ _) fun p => State.heard_port _ _ _ p
  · rw [State.heard_eq, State.setDirection_direction]
    rfl

/-- What stands after the answer of SET: the setting's values and what goes with every record; for the rest the answer's
state is as SET found it. -/
theorem State.afterSet_frame :
    (s.afterSet r elapsed n v persist).clk = { s.clk with now := s.clk.now + elapsed } ∧
    (∀ j, (s.afterSet r elapsed n v persist).setting j = (if n = j then v else s.setting j) ∧
      (s.afterSet r elapsed n v persist).storedSetting j = if persist = 1 ∧ n = j then v else s.storedSetting j) ∧
    (s.afterSet r elapsed n v persist).feedLive = s.feedLive ∧
    (s.afterSet r elapsed n v persist).pp = { s.pp with
      pendingRoutes := (s.afterSet r elapsed n v persist).pp.pendingRoutes } ∧
    (persist = 1 → s.storedSetting n ≠ v → settingSubject n ∈ (s.afterSet r elapsed n v persist).rj.owed) ∧
    ((s.afterSet r elapsed n v persist).ci.direction r.lane).queue = (s.ci.direction r.lane).queue ++
      (if Request.toAll r then []
      else [⟨r.tag, 3, 0, s.pp.frame, byte2 v ++ byte2 (if persist = 1 then v else s.storedSetting n)⟩]) := by
  obtain ⟨heardClk, heardPp, heardLive, heardQueue, heardSetting, heardStored⟩ := s.heardLater_frame r elapsed 3
  have queued := State.answered_queue (((s.tick elapsed).heard r 3).settle n v (decide (persist = 1))) r 3 s.pp.frame
    .done (byte2 v ++ byte2 (if persist = 1 then v else s.storedSetting n))
  unfold State.afterSet
  rw [State.answered_clk, State.answered_feedLive, State.answered_pp, State.answered_rj, queued]
  simp only [State.answered_setting, State.answered_storedSetting]
  generalize (s.tick elapsed).heard r 3 = h at *
  have settings := h.settle_setting n v (decide (persist = 1))
  obtain ⟨frame, _, _, _, _, owed⟩ := h.changeSetting_changed n v (decide (persist = 1))
  obtain ⟨clk, _, _, ci, pp, owes⟩ := h.settle_beyond n v (decide (persist = 1))
  have stored := h.changeSetting_storedSetting n v (decide (persist = 1)) n
  have clk' : (h.changeSetting n v (decide (persist = 1))).clk = h.clk := by rw [frame]
  have ci' : (h.changeSetting n v (decide (persist = 1))).ci = h.ci := by rw [frame]
  have pp' : (h.changeSetting n v (decide (persist = 1))).pp = h.pp := by rw [frame]
  rw [ci'] at ci
  rw [pp'] at pp
  generalize h.settle n v (decide (persist = 1)) = w at *
  refine ⟨clk.trans (clk'.trans heardClk), fun j => ?_, ?_, ?_, fun persists changed => owes _ ?_, ?_⟩
  · rw [(settings j).1, (settings j).2, heardSetting, heardStored]
    simp
  · rw [← heardLive]
    exact State.feedLive_congr (by rw [ci]) fun p => by rw [ci]; cases p <;> rfl
  · rw [← heardPp]
    exact pp
  · rw [decide_eq_true persists, if_pos ⟨rfl, rfl⟩] at stored
    rw [decide_eq_true persists] at owed ⊢
    rw [owed (by rw [stored, heardStored]; exact Ne.symm changed)]
    exact oweList_self _ _
  · rw [← heardQueue, ci]
    cases r.lane <;> rfl

end

section

variable {s : State} {r : Request} (m : Moment) (serves : s.serves r) {n v persist : Nat}
  (found : settingBody r.body = some (n, v, persist)) (known : n < 43) (other : n ≠ 23) (flag : persist ≤ 1)
  (value : s.mayTakeValue n v (decide (persist = 1)) = true)
include serves found known other flag value

/-- A SET that is taken, with the frame start that a new FREE-RUN PERIOD may bring. -/
theorem exec_set_taken :
    exec (.set r m) s = .next ((s.afterSet r m.elapsed n v persist).settleFreeRun s m.sensor) := by
  have later : (s.tick m.elapsed).serves r := serves
  have value' : ((s.tick m.elapsed).heard r 3).mayTakeValue n v (decide (persist = 1)) = true := by
    rw [← value]
    unfold State.mayTakeValue
    simp only [State.heard_setting, State.heard_storedSetting]
    rfl
  have answer : setOp r.body ((s.tick m.elapsed).heard r 3) = _ :=
    (setOp_eq found _).trans ((if_neg (Nat.not_le.2 known)).trans ((if_neg other).trans (if_pos ⟨value', flag⟩)))
  rw [State.heard_storedSetting] at answer
  exact congrArg (fun t => Host.Outcome.next (State.settleFreeRun t s m.sensor)) (later.does rfl (by decide) answer)

/-- The frame start comes with a new FREE-RUN PERIOD alone, on a feed that is not LIVE, when its end is past (R38). -/
theorem exec_set_settles :
    exec (.set r m) s = .next
      (if n = 4 ∧ s.setting 4 ≠ v ∧ s.feedLive = false ∧ s.pp.frameStartAt + v * 100 < s.clk.now + m.elapsed then
        (s.afterSet r m.elapsed n v persist).frameStart m.sensor false
      else s.afterSet r m.elapsed n v persist) := by
  obtain ⟨clk, settings, live, pp, _⟩ := s.afterSet_frame r m.elapsed n v persist
  rw [exec_set_taken m serves found known other flag value, State.settleFreeRun_eq, (settings 4).1, live, clk]
  have start : (s.afterSet r m.elapsed n v persist).pp.frameStartAt = s.pp.frameStartAt := by rw [pp]
  rw [start]
  refine congrArg Host.Outcome.next (ite_congr (propext ?_) (fun _ => rfl) fun _ => rfl)
  by_cases period : n = 4
  · simp only [period, if_true, true_and, ne_comm]
  · simp only [period, if_false, ne_eq, not_true_eq_false, false_and]

/-- What every SET that is taken leaves, with or without a frame start. -/
theorem exec_set_leaves (noReset : s.clk.reset ≠ .ready) :
    ∃ t, exec (.set r m) s = .next t ∧ t.clk = { s.clk with now := s.clk.now + m.elapsed } ∧ t.setting n = v ∧
      t.storedSetting n = (if persist = 1 then v else s.storedSetting n) ∧
      (∀ j, j ≠ n → t.setting j = s.setting j ∧ t.storedSetting j = s.storedSetting j) ∧
      (persist = 1 → s.storedSetting n ≠ v → settingSubject n ∈ t.rj.owed) ∧
      (t.ci.direction r.lane).queue = (s.ci.direction r.lane).queue ++
        (if Request.toAll r then []
        else [⟨r.tag, 3, 0, s.pp.frame, byte2 v ++ byte2 (if persist = 1 then v else s.storedSetting n)⟩]) := by
  obtain ⟨clk, settings, _, _, owed, queue⟩ := s.afterSet_frame r m.elapsed n v persist
  refine ⟨_, exec_set_settles m serves found known other flag value, ?_⟩
  generalize s.afterSet r m.elapsed n v persist = x at *
  have here : x.setting n = v ∧ x.storedSetting n = if persist = 1 then v else s.storedSetting n := by
    rw [(settings n).1, (settings n).2, if_pos rfl]
    simp
  have apart : ∀ j, j ≠ n → x.setting j = s.setting j ∧ x.storedSetting j = s.storedSetting j := fun j off => by
    rw [(settings j).1, (settings j).2, if_neg (Ne.symm off), if_neg fun both => off both.2.symm]
    exact ⟨rfl, rfl⟩
  split
  · have due : x.clk.reset ≠ .ready := by
      rw [clk]
      exact noReset
    obtain ⟨clk', live', stored', ci'⟩ := State.frameStart_kept m.sensor false due
    have owed' : settingSubject n ∈ x.rj.owed → settingSubject n ∈ (x.frameStart m.sensor false).rj.owed :=
      State.frameStart_owes m.sensor false due
    have live : ∀ j, (x.frameStart m.sensor false).setting j = x.setting j := State.setting_congr live'
    have stored : ∀ j, (x.frameStart m.sensor false).storedSetting j = x.storedSetting j := fun j => by
      unfold State.storedSetting
      rw [stored']
    simp only [live, stored, clk', ci']
    exact ⟨clk, here.1, here.2, apart, fun persists changed => owed' (owed persists changed), queue⟩
  · exact ⟨clk, here.1, here.2, apart, owed, queue⟩

end

/-! ## ASSIGN-ID (R166) -/

section

variable {s : State} {r : Request} (serves : s.serves r) (byHop : r.mode.toNat = 1)
include serves byHop

theorem exec_assignId {t : State} {answer : Answer} (does : assignIdOp r.body (s.heard r 2) = (t, answer)) :
    exec (.assignId r) s = .next (t.answered r 2 s.pp.frame answer.status answer.body) := by
  refine congrArg Host.Outcome.next ?_
  rw [State.request_operating _ serves.1 serves.2 rfl (Or.inr byHop), does]

end

theorem assignIdOp_malformed {body : List Byte} (malformed : oneNumber body = none) (s : State) :
    assignIdOp body s = s.refuse .malformed := by
  unfold assignIdOp
  rw [malformed]

theorem assignIdOp_eq {body : List Byte} {v : Nat} (found : oneNumber body = some v) (s : State) :
    assignIdOp body s =
      if v = 0 ∨ 4094 < v then s.refuse .outOfRange else (s.changeSetting 23 v true, ⟨.done, []⟩) := by
  unfold assignIdOp
  rw [found]
  rfl

/-- Settles O42. SET is its checks, then the change of the setting with its block's act, the answer, and at most a frame start;
the acts of a new CONFIRM THRESHOLD and of a lower limit are said of the operations themselves (`newThreshold_lowers`,
`newLimit_spec`). -/
theorem setAndAssignIdChangeOneSetting : Obligations.SetAndAssignIdChangeOneSetting := by
  refine ⟨State.mayTakeValue_iff, fun s r m n v persist serves found known other flag value => ?_,
    fun s t old new is => ?_, fun s t lines is => ?_, fun s r m serves noReset => ⟨fun n v persist found known other flag
      value => exec_set_leaves m serves found known other flag value noReset, fun v byHop found low high => ?_,
      fun byHop malformed => ?_, fun v byHop found outside => ?_⟩, fun s r m serves => ?_⟩
  · obtain ⟨clk, _, _, pp, _⟩ := s.afterSet_frame r m.elapsed n v persist
    have settles := exec_set_settles m serves found known other flag value
    obtain ⟨threshold, cLimit, rLimit, policy, feed, quiet⟩ :=
      (((s.tick m.elapsed).heard r 3).changeSetting n v (decide (persist = 1))).settingEffect_cases n
        (((s.tick m.elapsed).heard r 3).setting n) v
    have before : ((s.tick m.elapsed).heard r 3).setting n = s.setting n := State.heard_setting _ _ _ _
    rw [before] at threshold cLimit rLimit policy feed quiet
    have settled : ((s.tick m.elapsed).heard r 3).settle n v (decide (persist = 1)) =
        (((s.tick m.elapsed).heard r 3).changeSetting n v (decide (persist = 1))).settingEffect n (s.setting n) v := by
      unfold State.settle
      rw [before]
    rw [← settled] at threshold cLimit rLimit policy feed quiet
    refine ⟨_, _, _, State.changeSetting_changed _ n v _, rfl, ?_, ?_, ?_, policy, feed, quiet, fun still => ?_,
      fun period changed absent past => ⟨?_, fun noReset => ?_⟩⟩
    · rintro rfl
      exact threshold rfl
    · rintro rfl
      exact cLimit rfl
    · rintro rfl
      exact rLimit rfl
    · exact settles.trans (congrArg _ (if_neg fun ⟨period, changed, absent, past⟩ => still.elim (absurd period)
        fun still => still.elim changed fun still => still.elim (by rw [absent]; exact Bool.false_ne_true)
          fun later => Nat.not_lt.2 later past))
    · exact settles.trans (congrArg _ (if_pos ⟨period, changed, absent, past⟩))
    · have due : (s.afterSet r m.elapsed n v persist).clk.reset ≠ .ready := by
        rw [clk]
        exact noReset
      obtain ⟨frame, start⟩ := State.frameStart_counts m.sensor due
      rw [pp] at frame
      rw [clk] at start
      exact ⟨frame, start⟩
  · subst is
    refine ⟨State.newThreshold_raised s, fun lower => ?_⟩
    obtain ⟨entries, fresh, others, budget⟩ := State.newThreshold_lowers (s := s) lower
    refine ⟨(Kept.repairOnly s).newThreshold old new s.repairOnly_refl, budget, State.newThreshold_caps lower, entries,
      fun x on reached uncondemned => ?_, others⟩
    obtain ⟨listed, gone⟩ := fresh x on reached uncondemned
    exact ⟨fun still => (RepairEngine.isCondemned_iff _ _).1 (listed still), gone,
      State.newThreshold_raises lower on reached uncondemned⟩
  · subst is
    exact s.newLimit_spec lines
  · have inside : ¬(v = 0 ∨ 4094 < v) := by omega
    obtain ⟨frame, live, stored, others, unchanged, changed⟩ := (s.heard r 2).changeSetting_changed 23 v true
    refine ⟨_, exec_assignId serves byHop ((assignIdOp_eq found _).trans (if_neg inside)), ?_, live,
      stored.trans (if_pos rfl), fun j off => ?_, fun new => ?_, fun same => ?_⟩
    · rw [← State.heard_rj s r 2]
      exact frame
    · obtain ⟨live', stored'⟩ := others j off
      exact ⟨live'.trans (State.heard_setting _ _ _ _), stored'.trans (State.heard_storedSetting _ _ _ _)⟩
    · rw [changed (by rw [stored, if_pos rfl, State.heard_storedSetting]; exact Ne.symm new), State.heard_rj]
    · rw [unchanged (by rw [stored, if_pos rfl, State.heard_storedSetting]; exact same.symm), State.heard_rj]
  · exact exec_assignId serves byHop (assignIdOp_malformed malformed _)
  · exact exec_assignId serves byHop ((assignIdOp_eq found _).trans (if_pos outside))
  · obtain ⟨malformed, checks⟩ := exec_set_refusals m serves
    refine ⟨malformed, fun n v persist found => ?_⟩
    obtain ⟨unknown, tileId, refused⟩ := checks n v persist found
    have flagged : decide (persist = 1) = true ↔ persist = 1 := decide_eq_true_iff
    have value := s.mayTakeValue_iff n v (decide (persist = 1))
    rw [flagged] at value
    refine ⟨unknown, tileId, fun known other flag => ?_, fun known other range => ?_, fun warm apart => ?_,
      fun hot apart => ?_⟩
    · exact refused known other fun taken => by omega
    · refine refused known other fun taken => ?_
      obtain ⟨low, high, _⟩ := value.1 taken.1
      omega
    · refine refused (by omega) (by omega) fun taken => ?_
      obtain ⟨_, _, warmer, _⟩ := value.1 taken.1
      obtain ⟨live, stored⟩ := warmer warm
      rcases apart with apart | ⟨persists, apart⟩
      · omega
      · have := stored persists
        omega
    · refine refused (by omega) (by omega) fun taken => ?_
      obtain ⟨_, _, _, hotter⟩ := value.1 taken.1
      obtain ⟨live, stored⟩ := hotter hot
      rcases apart with apart | ⟨persists, apart⟩
      · omega
      · have := stored persists
        omega

end Sys2Proof.Machine

end
